-- ==== Sys2Proof/Word.lean ====
section
/-! DEFINITION. The words of the LC16: bytes and half-words as they cross a boundary, and the small numbers that name
stations and slots (00_scope, Conventions). -/

namespace Sys2Proof

/-- A byte of a frame or of an SPI record. -/
abbrev Byte := BitVec 8

/-- A 16-bit value: epoch, digest, timestamp, check. -/
abbrev Half := BitVec 16

/-- A station number, 0 to 15. -/
abbrev Station := Fin 16

/-- A load slot of a station, 0 to 3. -/
abbrev SlotNo := Fin 4

end Sys2Proof
end

