-- ==== Sys2Proof/Config.lean ====
section
/-! DEFINITION. What the LC16 fixes in silicon (00_scope, Numbers at a glance) and the one value the manual leaves
open (a free value: no body, nothing can be proved of it). -/

namespace Sys2Proof.Config

/-- R70: the urgent lane holds up to 3 frames. -/
def urgentCapacity : Nat := 3
/-- R70: the general lane holds up to 6 frames. -/
def generalCapacity : Nat := 6
/-- R79: the inbound queue holds up to 8 frames. -/
def inboundCapacity : Nat := 8
/-- R164: the notice queue holds up to 16 notices. -/
def noticeCapacity : Nat := 16
/-- R153: the history holds up to 32 entries. -/
def historyCapacity : Nat := 32
/-- R6: a claim whose skip count is 8 is a barrier. -/
def barrierSkip : Nat := 8
/-- R11: the arrival counter is exhausted at 2^32 - 1. -/
def arrivalLimit : Nat := 4294967295
/-- R83: the heartbeat interval, ms. -/
def heartbeatPeriod : Nat := 100
/-- R84: a probe falls due this long after the last one completed, ms. -/
def probePeriod : Nat := 100
/-- R94: the sync timeout, ms. -/
def syncPeriod : Nat := 250
/-- R94: a sync sequence makes at most three attempts. -/
def syncAttempts : Nat := 3
/-- R101, R105: peer silence before isolation or absence, ms. -/
def silencePeriod : Nat := 350
/-- R133: what a peer's gate timeout adds to the settle time, ms. -/
def gateMargin : Nat := 100
/-- R133: the settle time taken after a load whose roster shows the owner absent, ms. -/
def absentOwnerSettle : Nat := 500
/-- R143: the shed pulse of a watch unit, ms. -/
def pulsePeriod : Nat := 50
/-- R137: the VSENSE sample period, ms. -/
def samplePeriod : Nat := 2
/-- R76: the readback-failure count at which a station isolates itself. -/
def readbackLimit : Nat := 3
/-- R57: the settle is extended at most twice. -/
def extensionLimit : Nat := 2
/-- R43: the start budget S, units. -/
def startCeiling : Nat := 120
/-- R43: the start reserve R, units. -/
def startReserve : Nat := 40
/-- Numbers at a glance: the supply ceiling never exceeds 1600 units. -/
def ceilingLimit : Nat := 1600

/-- FREE VALUE (log entry 16). The attempts value that the STOP frame of CRANK_FAILED carries when the replica's
attempts is already 3: R59 gives "attempts + 1", which the two-bit field of R170 cannot hold, and states no value.
Applied to the counter `State.freeCount`, which the step advances. -/
opaque attemptsPastThree : Nat → BitVec 2

end Sys2Proof.Config
end

