-- ==== Sys2Proof/Syntax.lean ====
section
/-! DEFINITION. The commands of the block: one constructor for each row of spec/opcode_table.json, with the operands
the row's rule gives it. The rows' "fields" are empty, so the operands are read from the rules (log entry 1). -/

namespace Sys2Proof

/-- A frame as it stood on the wires when it completed (R170): contention field, header, payload, trailer. A frame
cut short has fewer payload bytes than its length says. -/
structure WireFrame where
  /-- lane code of the contention field -/
  lane : BitVec 2
  /-- sender of the contention field -/
  contender : Station
  kind : BitVec 4
  sender : Station
  sync : BitVec 2
  /-- payload length of the header, in bytes -/
  length : BitVec 10
  payload : List Byte
  epoch : Half
  digest : Half
  /-- the received frame check -/
  check : Half
  deriving DecidableEq, Repr

/-- R167: the two edges of RESET#; power-on is a rise. -/
inductive ResetEdge where
  | fall | rise
  deriving DecidableEq, Repr

/-- R156: how much of an SPI transfer a command brings: all of it, the fall of CS# alone, or the rise of CS# alone. At a
rise the table engine is idle, or is applying the head of its inbound queue (R159; log entry 5). A whole transfer ends
with the engine idle. -/
inductive Span where
  | whole
  | fall
  | rise (applying : Bool)
  deriving DecidableEq, Repr

/-- R166, R167: the straps as they stand at an edge of RESET#. -/
structure StrapPins where
  id : Station
  role : BitVec 2
  deriving DecidableEq, Repr

/-- R156: what a command brings of an SPI transfer: its span, and what it shifts. -/
structure Transfer (α : Type) where
  span : Span
  shifts : α
  deriving DecidableEq, Repr

/-- One command, operation or event of the station (spec/opcode_table.json). -/
inductive Instr where
  /-- PIN_RESET (R167): RESET# falls, or rises and samples the ID and ROLE straps. -/
  | pinReset (edge : ResetEdge) (straps : StrapPins)
  /-- SPI_STATUS_TRANSFER (R157): the bytes shifted in whole, of which the first selects the type (R173); none where the
  transfer is cut short inside its status byte. -/
  | spiStatusTransfer (t : Transfer (List Byte))
  /-- SPI_WRITE_TRANSFER (R158): the record bytes shifted in whole behind the type byte 0x01. -/
  | spiWriteTransfer (t : Transfer (List Byte))
  /-- SPI_READ_TRANSFER (R159): how many bytes were shifted out behind the status byte, under the type byte 0x02. -/
  | spiReadTransfer (t : Transfer Nat)
  /-- CONFIGURE (R166): the part and its six argument bytes (R173). -/
  | configure (part a0 a1 a2 a3 a4 a5 : Byte)
  | readConfig
  | join
  | leave
  | restart
  /-- CLAIM (R161): minimum 0 is absent. -/
  | claim (slot requested minimum : Byte)
  | release (slot : Byte)
  | requestCrank
  | cancelCrank
  | crankDone
  | crankFailed
  | engineRunning
  | engineStopped
  | announceBudget (ceiling reserve : Half)
  | lift
  | readStatus (page : Byte)
  | readClaim (key : Byte)
  | readPeer (station : Byte)
  | readNotice
  | readFault
  | clearFault
  | readHistory (index : Byte)
  | freezeHistory
  | thawHistory
  /-- SET_WATCH (R145), in the bytes of R173. -/
  | setWatch (unit control selector : Byte) (compare mask : Half) (reload : Byte)
  | armWatch (unit : Byte)
  | echo (bytes : List Byte)
  | startBit
  | lostContention
  | readbackFailure
  | frameCompletedClean
  /-- FRAME_RECEIVED (R78): a frame this station did not send completes. -/
  | frameReceived (frame : WireFrame)
  | presenceFrame
  | syncRequestFrame
  | snapshotFrame
  | joinFrame
  | leaveFrame
  | claimFrame
  | releaseFrame
  | settledFrame
  | phaseFrame
  | budgetFrame
  | shedRequestFrame
  | liftFrame
  | shedFaultFrame
  | stuckClearFrame
  | absenceFrame
  | reclaimFrame
  | heartbeatExpiry
  | probeDue
  | syncTimeout
  | isolationBySilence
  | silenceTimerExpiry (peer : Station)
  | orphanHoldExpiry (peer : Station)
  | crankSettleExpiry
  | lockoutExpiry
  | shedFallingEdge
  | shedRisingEdge
  | latchLimitExpiry
  /-- FEEDBACK_CHANGE (R127): the FB pin of the slot goes to this level (high is drawing). -/
  | feedbackChange (slot : SlotNo) (drawing : Bool)
  | offDeadlineExpiry (slot : SlotNo)
  | stuckClearRetry (slot : SlotNo)
  | settleTimerExpiry (slot : SlotNo)
  | gateTimeoutExpiry
  | holdLimit (slot : SlotNo)
  | vsenseSample (sample : Byte)
  /-- WATCH_PULSE_EXPIRY (R143): false is W0, true is W1. -/
  | watchPulseExpiry (second : Bool)
  deriving DecidableEq, Repr

end Sys2Proof
end

