-- ==== Sys2Proof/WellFormed.lean ====
section
/-! DEFINITION. Which operands can exist at the station's boundaries. The machine gives a meaning to ill-formed
commands too (an over-long ECHO is answered BAD_ARG, a frame of the wrong length fails the frame check); the checks
here say which commands the outside can form. -/

namespace Sys2Proof

/-- The payload fits the 10-bit length field (R170), and what was received is no longer than the length says. -/
def WireFrame.wellFormed (f : WireFrame) : Bool := decide (f.payload.length ≤ f.length.toNat)

/-- R163: ECHO carries 0 to 23 bytes; a received frame is formed as R170 says; the type byte of a STATUS transfer is
neither 0x01 nor 0x02 (R173). -/
def Instr.wellFormed : Instr → Bool
  | .spiStatusTransfer ⟨_, kind :: _⟩ => kind != 1 && kind != 2
  | .echo bytes => decide (bytes.length ≤ 23)
  | .frameReceived f => f.wellFormed
  | _ => true

end Sys2Proof
end

