-- ==== Sys2Proof/Machine/Types.lean ====
section
/-! DEFINITION. The kinds of thing the manual names: enumerations, records, frames, notices and history entries.
Plain data; their codes on the wires stand in Machine/Codes.lean. -/

namespace Sys2Proof.Machine

/-- R4: the class of a claim. -/
inductive LoadClass where
  | critical | restart | comfort | passenger | deferrable
  deriving DecidableEq, Repr

/-- Section 1.2: the six claim states. -/
inductive ClaimState where
  | waiting | held | trimmed | shed | stuck | orphaned
  deriving DecidableEq, Repr

/-- R5: the state from which a claim was orphaned. -/
inductive PriorState where
  | held | trimmed | stuck
  deriving DecidableEq, Repr

/-- Key "station.slot" (00_scope, Conventions). -/
structure Key where
  station : Station
  slot : SlotNo
  deriving DecidableEq, Repr

/-- Section 1.1: a claim record. Amounts in units of 0.25 A. -/
structure Claim where
  key : Key
  cls : LoadClass
  requested : Nat
  minimum : Option Nat
  held : Nat
  state : ClaimState
  prior : Option PriorState
  arrival : Nat
  skip : Nat
  deriving DecidableEq, Repr

inductive Role where
  | none | supply | crank | both
  deriving DecidableEq, Repr

/-- Section 6.1: a slot capability; the settle time in units of 2 ms (11.3). -/
structure Capability where
  used : Bool
  cls : LoadClass
  maxAmps : Nat
  settle : Nat
  deriving DecidableEq, Repr

structure RosterEntry where
  present : Bool
  role : Role
  caps : Vector Capability 4
  deriving DecidableEq, Repr

inductive Phase where
  | run | stop | crankPending | crank | recover
  deriving DecidableEq, Repr

/-- Section 3.1: the phase record. -/
structure PhaseRecord where
  phase : Phase
  attempts : BitVec 2
  brownout : Bool
  /-- budget source: true is ANNOUNCED, false FALLBACK -/
  announced : Bool
  ceiling : Nat
  reserve : Nat
  crankStation : Option Station
  supplyStation : Option Station
  deriving DecidableEq, Repr

/-- The replica (00_scope, Names): everything replicated that one station holds. -/
structure Replica where
  claims : List Claim
  arrival : Nat
  phase : PhaseRecord
  gate : Option Key
  roster : Vector RosterEntry 16
  epoch : Half
  digest : Half
  deriving DecidableEq, Repr

/-- Section 5.1: the station states. -/
inductive StationState where
  | unconfigured | joining | entering | member | tainted | isolated | offline
  deriving DecidableEq, Repr

/-- R69: the sync state of a header. -/
inductive SyncState where
  | member | tainted | joining
  deriving DecidableEq, Repr

/-- Section 4.3: the sixteen frame kinds. -/
inductive FrameKind where
  | presence | syncRequest | snapshot | join | leave | claim | release | settled
  | phase | budget | shedRequest | lift | shedFault | stuckClear | absence | reclaim
  deriving DecidableEq, Repr

/-- A capability as a JOIN payload carries it (11.3); the codes may be out of range. -/
structure CapabilityField where
  used : Bool
  cls : BitVec 3
  maxAmps : Byte
  settle : Byte
  deriving DecidableEq, Repr

/-- A JOIN entry as the payload carries it (R170). -/
structure EntryField where
  slot : SlotNo
  cls : BitVec 3
  wasOn : Bool
  requested : Byte
  minimum : Byte
  deriving DecidableEq, Repr

/-- R170: the payload of each frame kind, in its fields; codes out of range stay as they came (R171). -/
inductive Body where
  | presence (state sample : Byte)
  | syncRequest (epoch : Half)
  | snapshot (requester : Byte) (epoch : Half) (image : List Byte)
  | join (role : Byte) (c0 c1 c2 c3 : CapabilityField) (entries : List EntryField)
  | leave
  | claim (slot : SlotNo) (cls : BitVec 3) (requested minimum : Byte)
  | release (slot : Byte)
  | settled (key : Key) (byOwner : Bool)
  | phase (phase : BitVec 3) (attempts : BitVec 2)
  | budget (ceiling reserve : Half)
  | shedRequest (cause sample : Byte)
  | lift
  | shedFault (slot : Byte)
  | stuckClear (slot : Byte)
  | absence (peer : Byte)
  | reclaim (peer : Byte)
  deriving DecidableEq, Repr

/-- A frame in the inbound queue: header, payload and trailer of a good frame. -/
structure Frame where
  sender : Station
  sync : SyncState
  epoch : Half
  digest : Half
  body : Body
  deriving DecidableEq, Repr

/-- A frame in an outbound lane. PRESENCE and SNAPSHOT take their content when transmission begins (R73, R83). -/
inductive Queued where
  | presence
  | snapshot (requester : Station)
  | fixed (body : Body)
  deriving DecidableEq, Repr

/-- Where the frame in transmission came from (R68). -/
inductive Source where
  | urgent | general | probe
  deriving DecidableEq, Repr

/-- R71, R73: the frame in transmission, with the trailer taken at its start bit. -/
structure Transmission where
  source : Source
  frame : Frame
  deriving DecidableEq, Repr

inductive OfflineCause where
  | leave | duplicate
  deriving DecidableEq, Repr

inductive IsolationCause where
  | readback | silence
  deriving DecidableEq, Repr

/-- R87: the causes of station-state changes. -/
inductive SyncCause where
  | joinCommand | restart | snapshotLoaded | startAdopted | joinApplied | selfAbsent | overrun | digestYield
  | syncUnanswered | readback | silence | linkRestored | leaveApplied | duplicateStation
  deriving DecidableEq, Repr

/-- R87: the events outside the table engine that change the station state while an application may be under way: an
inbound overrun (R79), silence (R101) and a duplicate-station detection (R119). -/
inductive LateChange where
  | overrun | silence | duplicate
  deriving DecidableEq, Repr

/-- R169: why an applied frame, or a JOIN entry, was ignored. -/
inductive IgnoreCause where
  | absentSender | badField | noCapability | classMismatch | overCapability | duplicateKey | arrivalsExhausted
  | noRecord | stuckHeld | notHolder | notRole | illegalStep | notMember | alreadyAbsent | notAbsent
  | notApplicable | notStuck | duplicateSlot
  deriving DecidableEq, Repr

/-- R116: what a JOIN made of one slot. -/
inductive JoinOutcome where
  | resumed | entered | replaced | removed
  | discarded (cause : IgnoreCause)
  deriving DecidableEq, Repr

/-- Section 7.1: the local state of a slot. -/
inductive LocalState where
  | waiting | held | trimmed | shed | stuck | orphaned | free | sending | releasing | carried
  deriving DecidableEq, Repr

/-- Section 7.2: the causes of SLOT notices. -/
inductive SlotCause where
  | applied
  | ignored (cause : IgnoreCause)
  | withdrawn
  | gateOpened (byOwner : Bool)
  | join (outcome : JoinOutcome)
  | loaded | lost | holdLimit | carryEnded
  deriving DecidableEq, Repr

/-- R48 and section 3.5: the causes of PHASE notices. -/
inductive PhaseCause where
  | step | budget | fallback | crankLost
  | brownoutSet (sender : Station) (cause sample : Byte)
  | brownoutCleared
  | settleExtended (count : Nat)
  | lockoutStarted | lockoutEnded | abandoned
  deriving DecidableEq, Repr

inductive RosterCause where
  | join | absence | leave
  deriving DecidableEq, Repr

/-- Section 9.1: the twelve fault kinds. -/
inductive FaultKind where
  | badCheck | inboundOverrun | readback | digestYield | syncUnanswered | stuckLoad | unclaimedDraw | roleRefused
  | duplicateStation | outboundFull | lineUnexplained | noticeLost
  deriving DecidableEq, Repr

/-- R147: the subject of a capture. -/
inductive Subject where
  | none
  | station (n : Station)
  | slot (n : SlotNo)
  deriving DecidableEq, Repr

inductive WatchState where
  | off | armed | disarmed | fired
  deriving DecidableEq, Repr

inductive WatchSource where
  | supply | headroom | frame | line | phase
  deriving DecidableEq, Repr

inductive Relation where
  | below | above | equal | isMatch
  deriving DecidableEq, Repr

/-- R137: the value an evaluation offers. -/
inductive EvalValue where
  | sample (v : Byte)
  | headroom (v : Int)
  | frame (kind : FrameKind) (sender : Station)
  | line
  | phase (p : Phase)
  deriving DecidableEq, Repr

/-- Section 8.1: the action set. -/
structure ActionSet where
  notify : Bool
  pullShed : Bool
  freeze : Bool
  rearm : Bool
  deriving DecidableEq, Repr

/-- Section 8.1: a watch unit's record; the pulse timer as a deadline. -/
structure WatchUnit where
  state : WatchState
  source : WatchSource
  relation : Relation
  compare : Int
  mask : Half
  reload : Byte
  counter : Byte
  /-- mode: true is SEQUENCE (W1 only) -/
  sequence : Bool
  actions : ActionSet
  pulse : Option Nat
  deriving DecidableEq, Repr

/-- Section 10.4: what a notice reports. `false` names W0 and `true` W1. -/
inductive NoticeContent where
  /-- The local state and the held amount where the posting rule names them (log entry 35). -/
  | slot (slot : SlotNo) (state : Option LocalState) (held : Option Nat) (cause : SlotCause)
  | phase (cause : PhaseCause) (record : Option PhaseRecord)
  | crankGo (stuckLoads : Bool)
  | roster (station : Station) (present : Bool) (role : Role) (requested : Option Role) (cause : RosterCause)
  | sync (old new : StationState) (cause : SyncCause)
  | fault (kind : FaultKind) (subject : Subject) (frame : Option FrameKind) (filled : Bool)
  | watch (second : Bool) (source : WatchSource) (value : EvalValue) (actions : ActionSet) (after : WatchState)
      (armedOther : Option Bool)
  | restarted (discarded : Nat) (lost : Bool)
  deriving DecidableEq, Repr

/-- R164: a notice. -/
structure Notice where
  stamp : Half
  epoch : Option Half
  content : NoticeContent
  deriving DecidableEq, Repr

/-- Section 9.5: what a history entry records. -/
inductive HistEvent where
  | claimState (key : Key) (before after : Option ClaimState) (held : Nat)
  | phase (old new : Phase)
  | brownout (old new : Bool)
  | ceiling (old new : Nat)
  | roster (station : Station) (old new : Bool) (role : Role)
  | sync (station : Station) (old new : StationState) (cause : SyncCause)
  | syncRequest (requester : Station) (theirs own : Half)
  | line (oldHigh newHigh : Bool)
  | watch (second : Bool) (before after : WatchState) (value : EvalValue)
  | fault (subject : Subject) (kind : FaultKind) (frame : Option FrameKind)
  deriving DecidableEq, Repr

/-- R152: a history entry. -/
structure HistEntry where
  stamp : Half
  epoch : Option Half
  event : HistEvent
  deriving DecidableEq, Repr

/-- Section 3.5: the crank sequencer's states. -/
inductive CrankState where
  | idle | settling | cranking | lockout
  deriving DecidableEq, Repr

/-- Section 10.3: the response codes. -/
inductive ResponseCode where
  | ok | accepted | refusedState | refusedPhase | refusedLockout | notRole | badArg | queueFull | notFrozen | unknown
  deriving DecidableEq, Repr

/-- R21: one claim-state transition. -/
structure Transition where
  key : Key
  before : Option ClaimState
  after : Option ClaimState
  held : Nat
  deriving DecidableEq, Repr

end Sys2Proof.Machine
end

