-- ==== Sys2Proof/Machine/State.lean ====
section
/-! DEFINITION. Everything the manual gives the station to hold (INVENTORY.md, State), as plain data, and its value
after pin reset. Deadlines are points of the local time base `now`, in ms; none is a stopped timer. -/

namespace Sys2Proof.Machine

/-- Nothing in the manual stops the station: no fault is raised (INVENTORY.md, Faults). -/
inductive Fault where
  deriving DecidableEq, Repr

/-- Why a command has no meaning in the model. -/
inductive Refusal where
  /-- Raised by the dispatch for a command whose meaning is not written yet; safe (no claim can be drawn from it). -/
  | notModelled (mnemonic : String)
  deriving DecidableEq, Repr

/-- R166: the straps, sampled at pin reset. -/
structure Straps where
  station : Station
  role : Role
  deriving DecidableEq, Repr

/-- R166: the general part of the configuration record; times in the units of the table of 10.5. -/
structure GeneralPart where
  given : Bool
  mask : Byte
  orphanHold : Nat
  latchLimit : Nat
  crankSettle : Nat
  crankLockout : Nat
  deriving DecidableEq, Repr

/-- R166: one slot part; settle in units of 2 ms, off deadline in ms, hold limit in s. -/
structure SlotPart where
  given : Bool
  used : Bool
  cls : LoadClass
  maxAmps : Nat
  minAllowed : Bool
  settle : Nat
  offDeadline : Nat
  feedback : Bool
  holdLimit : Option Nat
  deriving DecidableEq, Repr

structure ConfigRecord where
  general : GeneralPart
  slots : Vector SlotPart 4
  locked : Bool
  deriving DecidableEq, Repr

/-- Chapter 5: the station state and the sync sequence. -/
structure StationUnit where
  state : StationState
  /-- what OFFLINE was entered by (R119, R162) -/
  offline : Option OfflineCause
  isolation : Option IsolationCause
  syncCount : Nat
  syncTimer : Option Nat
  /-- last entry into ENTERING, MEMBER or TAINTED from the other states (R101) -/
  liveSince : Nat
  /-- has been ISOLATED since the last load, adoption or entry into MEMBER (R123, condition 4) -/
  wasIsolated : Bool
  /-- has been MEMBER since it last entered JOINING (R123, condition 5) -/
  wasMember : Bool
  deriving DecidableEq, Repr

/-- Chapter 4: the link controller. -/
structure LinkUnit where
  urgent : List Queued
  general : List Queued
  tx : Option Transmission
  inbound : List Frame
  /-- changes of station state that wait for the end of the application under way (R87, log entry 44) -/
  late : List LateChange
  readback : Nat
  heartbeat : Option Nat
  probeDue : Bool
  probeTimer : Option Nat
  deriving DecidableEq, Repr

/-- R104: the local record of one peer. -/
structure PeerRecord where
  lastValid : Option Nat
  silence : Option Nat
  orphanHold : Option Nat
  disagree : Nat
  presence : Option (StationState × Byte)
  deriving DecidableEq, Repr

structure Membership where
  peers : Vector PeerRecord 16
  /-- last good frame from another station (R101) -/
  lastGood : Option Nat
  deriving DecidableEq, Repr

/-- R54: the crank sequencer. -/
structure CrankUnit where
  state : CrankState
  settle : Option Nat
  extensions : Nat
  lockout : Option Nat
  hold : Bool
  /-- CRANK_GO has been posted since CRANKING was entered (R58) -/
  goPosted : Bool
  deriving DecidableEq, Repr

/-- Section 7.1: claim values of a slot. -/
structure ClaimValues where
  cls : LoadClass
  requested : Nat
  minimum : Option Nat
  deriving DecidableEq, Repr

/-- Section 7.1: the slot record. -/
structure SlotRecord where
  state : LocalState
  values : Option ClaimValues
  enable : Bool
  latch : Bool
  offDeadline : Option Nat
  settle : Option Nat
  holdTime : Nat
  wasOn : Bool
  unclaimed : Bool
  /-- the three conditions of R127 held after the last event -/
  offWatch : Bool
  /-- the further off deadline of a dropped STUCK_CLEAR (R129) -/
  retry : Option Nat
  /-- arrival number of the mirrored record (R134) -/
  arrival : Option Nat
  deriving DecidableEq, Repr

/-- R133: the gate timeout of another station's key. -/
structure GateTimeout where
  key : Key
  deadline : Nat
  period : Nat
  deriving DecidableEq, Repr

structure SlotUnit where
  slots : Vector SlotRecord 4
  latchLimit : Option Nat
  gate : Option GateTimeout
  leavePending : Bool
  deriving DecidableEq, Repr

/-- What a locked fault record holds (9.2). -/
structure FaultEntry where
  kind : FaultKind
  subject : Subject
  frame : Option FrameKind
  epoch : Option Half
  stamp : Half
  deriving DecidableEq, Repr

structure FaultUnit where
  record : Option FaultEntry
  lock : Bool
  lost : Bool
  /-- one counter for each fault kind, in the order of the kind table (R149) -/
  counters : Vector Nat 12
  badChecks : Nat
  deriving DecidableEq, Repr

/-- R153, R154: the transition history. -/
structure History where
  entries : List HistEntry
  frozen : Bool
  missed : Nat
  deriving DecidableEq, Repr

/-- R156, R158: a command record in the command buffer. -/
structure CommandRecord where
  bytes : List Byte
  overLong : Bool
  deriving DecidableEq, Repr

/-- R157: what the status byte sampled at the fall of CS# reports, kept until the transfer ends. -/
structure Selected where
  status : Byte
  /-- OVERWRITE at the fall -/
  overwrite : Bool
  /-- RSP_FULL at the fall -/
  full : Bool
  deriving DecidableEq, Repr

structure Port where
  /-- command buffer: CMD_FULL is `some` -/
  command : Option CommandRecord
  /-- response buffer: RSP_FULL is `some` -/
  response : Option (List Byte)
  overwrite : Bool
  notices : List Notice
  noticeLost : Bool
  /-- bytes shifted out on SDO by the last transfer -/
  sdo : List Byte
  /-- the transfer under way: CS# is low (R156) -/
  select : Option Selected
  /-- a command that is to be taken at the end of the application under way (R159) -/
  due : Bool
  deriving DecidableEq, Repr

/-- The inputs of the pins. -/
structure Pins where
  /-- some other station drives SHED# low (R63) -/
  peerShed : Bool
  /-- FB0 to FB3: true is high, drawing -/
  feedback : Vector Bool 4
  /-- the latest VSENSE sample -/
  vsense : Byte
  nextSample : Nat
  deriving DecidableEq, Repr

/-- One LC16 station. -/
structure State where
  /-- commands waiting, first in, first out -/
  pending : List Instr
  /-- RESET# is low: the part is held in reset (R167) -/
  resetLow : Bool
  now : Nat
  straps : Straps
  config : ConfigRecord
  station : StationUnit
  replica : Option Replica
  link : LinkUnit
  members : Membership
  crank : CrankUnit
  slotUnit : SlotUnit
  w0 : WatchUnit
  w1 : WatchUnit
  fault : FaultUnit
  history : History
  port : Port
  pins : Pins
  /-- the model's own: what free values are applied to (log entry 16) -/
  freeCount : Nat
  deriving DecidableEq, Repr

/-! One update for each part of the state. -/

def State.setPending (s : State) (v : List Instr) : State := { s with pending := v }
def State.setResetLow (s : State) (v : Bool) : State := { s with resetLow := v }
def State.setNow (s : State) (v : Nat) : State := { s with now := v }
def State.setConfig (s : State) (v : ConfigRecord) : State := { s with config := v }
def State.setStation (s : State) (v : StationUnit) : State := { s with station := v }
def State.setReplica (s : State) (v : Option Replica) : State := { s with replica := v }
def State.setLink (s : State) (v : LinkUnit) : State := { s with link := v }
def State.setMembers (s : State) (v : Membership) : State := { s with members := v }
def State.setCrank (s : State) (v : CrankUnit) : State := { s with crank := v }
def State.setSlotUnit (s : State) (v : SlotUnit) : State := { s with slotUnit := v }
def State.setW0 (s : State) (v : WatchUnit) : State := { s with w0 := v }
def State.setW1 (s : State) (v : WatchUnit) : State := { s with w1 := v }
def State.setFault (s : State) (v : FaultUnit) : State := { s with fault := v }
def State.setHistory (s : State) (v : History) : State := { s with history := v }
def State.setPort (s : State) (v : Port) : State := { s with port := v }
def State.setPins (s : State) (v : Pins) : State := { s with pins := v }
def State.setFreeCount (s : State) (v : Nat) : State := { s with freeCount := v }

/-! Values after pin reset. -/

/-- R103: an unused capability holds the lowest values. -/
def Capability.unused : Capability := { used := false, cls := .deferrable, maxAmps := 1, settle := 5 }

def RosterEntry.absent : RosterEntry :=
  { present := false, role := .none, caps := .replicate 4 .unused }

/-- R166: the general part with the defaults of the table. -/
def GeneralPart.default : GeneralPart :=
  { given := false, mask := 0, orphanHold := 5, latchLimit := 300, crankSettle := 60, crankLockout := 10 }

/-- R166: a slot part with the defaults of the table; class, max amps and settle time have no default (log entry 4). -/
def SlotPart.default : SlotPart :=
  { given := false, used := false, cls := .deferrable, maxAmps := 1, minAllowed := false, settle := 5,
    offDeadline := 30, feedback := false, holdLimit := none }

def ConfigRecord.reset : ConfigRecord :=
  { general := .default, slots := .replicate 4 .default, locked := false }

def StationUnit.reset : StationUnit :=
  { state := .unconfigured, offline := none, isolation := none, syncCount := 0, syncTimer := none, liveSince := 0,
    wasIsolated := false, wasMember := false }

/-- R72, R83, R84. -/
def LinkUnit.reset : LinkUnit :=
  { urgent := [], general := [], tx := none, inbound := [], late := [], readback := 0, heartbeat := none,
    probeDue := false, probeTimer := none }

/-- R104. -/
def PeerRecord.reset : PeerRecord :=
  { lastValid := none, silence := none, orphanHold := none, disagree := 0, presence := none }

def Membership.reset : Membership := { peers := .replicate 16 .reset, lastGood := none }

/-- R54. -/
def CrankUnit.reset : CrankUnit :=
  { state := .idle, settle := none, extensions := 0, lockout := none, hold := false, goPosted := false }

/-- R120. -/
def SlotRecord.reset : SlotRecord :=
  { state := .free, values := none, enable := false, latch := false, offDeadline := none, settle := none,
    holdTime := 0, wasOn := false, unclaimed := false, offWatch := false, retry := none, arrival := none }

def SlotUnit.reset : SlotUnit :=
  { slots := .replicate 4 .reset, latchLimit := none, gate := none, leavePending := false }

/-- R136. -/
def WatchUnit.reset : WatchUnit :=
  { state := .off, source := .supply, relation := .below, compare := 0, mask := 0, reload := 0, counter := 0,
    sequence := false, actions := { notify := false, pullShed := false, freeze := false, rearm := false },
    pulse := none }

/-- R148, R149. -/
def FaultUnit.reset : FaultUnit :=
  { record := none, lock := false, lost := false, counters := .replicate 12 0, badChecks := 0 }

/-- R153. -/
def History.reset : History := { entries := [], frozen := false, missed := 0 }

/-- R156, R159, R164. -/
def Port.reset : Port :=
  { command := none, response := none, overwrite := false, notices := [], noticeLost := false, sdo := [], select := none,
    due := false }

/-- Inputs at the model's start (log entry 4). -/
def Pins.reset : Pins :=
  { peerShed := false, feedback := .replicate 4 false, vsense := 0, nextSample := Config.samplePeriod }

/-- R167: the station right after pin reset. The straps are inputs: station 0, role NONE (log entry 4). -/
def State.reset : State :=
  { pending := [], resetLow := false, now := 0, straps := { station := 0, role := .none }, config := .reset, station := .reset,
    replica := none, link := .reset, members := .reset, crank := .reset, slotUnit := .reset, w0 := .reset,
    w1 := .reset, fault := .reset, history := .reset, port := .reset, pins := .reset, freeCount := 0 }

end Sys2Proof.Machine
end

