-- ==== Sys2Proof/Machine/Bits.lean ====
section
/-! DEFINITION. Bytes, bit order and the two cyclic checks (11.1, R171, R172): values most significant byte first,
each byte most significant bit first. -/

namespace Sys2Proof.Machine

/-- The low 8 bits of a number. -/
def byteOf (n : Nat) : Byte := BitVec.ofNat 8 n

/-- 11.1: the two bytes of a half-word, most significant first. -/
def halfBytes (h : Half) : List Byte := [h.extractLsb' 8 8, h.extractLsb' 0 8]

/-- The half-word of two bytes. -/
def halfOf (hi lo : Byte) : Half := hi ++ lo

/-- An amount or count in two bytes. -/
def natBytes (n : Nat) : List Byte := halfBytes (BitVec.ofNat 16 n)

/-- A signed amount in two bytes (R173). -/
def intBytes (n : Int) : List Byte := halfBytes (BitVec.ofInt 16 n)

/-- A 32-bit value in four bytes. -/
def wordBytes (n : Nat) : List Byte :=
  [byteOf (n / 16777216), byteOf (n / 65536), byteOf (n / 256), byteOf n]

/-- The 32-bit value of four bytes. -/
def wordOf (a b c d : Byte) : Nat := a.toNat * 16777216 + b.toNat * 65536 + c.toNat * 256 + d.toNat

def flagByte (b : Bool) : Byte := if b then 1 else 0

/-- The bits of a value of width w, most significant first. -/
def bitsOf {w : Nat} (v : BitVec w) : List Bool := (List.range w).map fun i => v.getMsbD i

def bytesBits (bs : List Byte) : List Bool := bs.flatMap bitsOf

/-- One bit through a 16-bit cyclic check register. -/
def crcStep (generator register : Half) (bit : Bool) : Half :=
  if register.msb != bit then (register <<< 1) ^^^ generator else register <<< 1

/-- A 16-bit cyclic check whose register starts at all ones. -/
def crc (generator : Half) (bits : List Bool) : Half := bits.foldl (crcStep generator) 0xFFFF

/-- R171: x^16 + x^15 + x^2 + 1. -/
def frameGenerator : Half := 0x8005

/-- R172: x^16 + x^12 + x^5 + 1. -/
def digestGenerator : Half := 0x1021

/-- Fill a record with trailing bytes 0 to its length (R173). -/
def padTo (n : Nat) (bs : List Byte) : List Byte := bs ++ List.replicate (n - bs.length) 0

/-- A vector built slot by slot. -/
def vecMap {α β : Type} {n : Nat} (f : α → β) (v : Vector α n) : Vector β n :=
  ⟨⟨v.toList.map f⟩, by simp⟩

/-- A list of n elements as a vector. -/
def vecOf {α : Type} (n : Nat) (l : List α) : Option (Vector α n) :=
  if h : l.length = n then some ⟨⟨l⟩, by simpa using h⟩ else none

/-- The station a byte names, if it is 0 to 15. -/
def stationOf (b : Byte) : Option Station := if h : b.toNat < 16 then some ⟨b.toNat, h⟩ else none

/-- The slot a byte names, if it is 0 to 3. -/
def slotOf (b : Byte) : Option SlotNo := if h : b.toNat < 4 then some ⟨b.toNat, h⟩ else none

def allSlots : List SlotNo := [0, 1, 2, 3]

def allStations : List Station := [0, 1, 2, 3, 4, 5, 6, 7, 8, 9, 10, 11, 12, 13, 14, 15]

end Sys2Proof.Machine
end

