-- ==== Sys2Proof/Machine/Codes.lean ====
section
/-! DEFINITION. The codes of R169 and R173, and back where a value comes in from a wire. -/

namespace Sys2Proof.Machine

/-- R169: frame kind. -/
def FrameKind.code : FrameKind → Nat
  | .presence => 0
  | .syncRequest => 1
  | .snapshot => 2
  | .join => 3
  | .leave => 4
  | .claim => 5
  | .release => 6
  | .settled => 7
  | .phase => 8
  | .budget => 9
  | .shedRequest => 10
  | .lift => 11
  | .shedFault => 12
  | .stuckClear => 13
  | .absence => 14
  | .reclaim => 15

def FrameKind.ofCode : Nat → Option FrameKind
  | 0 => some .presence
  | 1 => some .syncRequest
  | 2 => some .snapshot
  | 3 => some .join
  | 4 => some .leave
  | 5 => some .claim
  | 6 => some .release
  | 7 => some .settled
  | 8 => some .phase
  | 9 => some .budget
  | 10 => some .shedRequest
  | 11 => some .lift
  | 12 => some .shedFault
  | 13 => some .stuckClear
  | 14 => some .absence
  | 15 => some .reclaim
  | _ => Option.none

/-- R169: class; the code is also the rank of R4. -/
def LoadClass.code : LoadClass → Nat
  | .deferrable => 1
  | .passenger => 2
  | .comfort => 3
  | .restart => 4
  | .critical => 5

def LoadClass.ofCode : Nat → Option LoadClass
  | 1 => some .deferrable
  | 2 => some .passenger
  | 3 => some .comfort
  | 4 => some .restart
  | 5 => some .critical
  | _ => Option.none

/-- R169: claim state. -/
def ClaimState.code : ClaimState → Nat
  | .waiting => 0
  | .held => 1
  | .trimmed => 2
  | .shed => 3
  | .stuck => 4
  | .orphaned => 5

def ClaimState.ofCode : Nat → Option ClaimState
  | 0 => some .waiting
  | 1 => some .held
  | 2 => some .trimmed
  | 3 => some .shed
  | 4 => some .stuck
  | 5 => some .orphaned
  | _ => Option.none

/-- R169: prior state (0 is absent). -/
def PriorState.code : PriorState → Nat
  | .held => 1
  | .trimmed => 2
  | .stuck => 3

def PriorState.ofCode : Nat → Option PriorState
  | 1 => some .held
  | 2 => some .trimmed
  | 3 => some .stuck
  | _ => Option.none

/-- R169: phase. -/
def Phase.code : Phase → Nat
  | .run => 0
  | .stop => 1
  | .crankPending => 2
  | .crank => 3
  | .recover => 4

def Phase.ofCode : Nat → Option Phase
  | 0 => some .run
  | 1 => some .stop
  | 2 => some .crankPending
  | 3 => some .crank
  | 4 => some .recover
  | _ => Option.none

/-- R169: role, as the ROLE straps. -/
def Role.code : Role → Nat
  | .none => 0
  | .supply => 1
  | .crank => 2
  | .both => 3

def Role.ofCode : Nat → Option Role
  | 0 => some .none
  | 1 => some .supply
  | 2 => some .crank
  | 3 => some .both
  | _ => Option.none

/-- R169: station state. -/
def StationState.code : StationState → Nat
  | .unconfigured => 0
  | .joining => 1
  | .entering => 2
  | .member => 3
  | .tainted => 4
  | .isolated => 5
  | .offline => 6

def StationState.ofCode : Nat → Option StationState
  | 0 => some .unconfigured
  | 1 => some .joining
  | 2 => some .entering
  | 3 => some .member
  | 4 => some .tainted
  | 5 => some .isolated
  | 6 => some .offline
  | _ => Option.none

/-- R169: sync state (3 fails the frame check). -/
def SyncState.code : SyncState → Nat
  | .member => 0
  | .tainted => 1
  | .joining => 2

def SyncState.ofCode : Nat → Option SyncState
  | 0 => some .member
  | 1 => some .tainted
  | 2 => some .joining
  | _ => Option.none

/-- R169: isolation cause (0 is none). -/
def IsolationCause.code : IsolationCause → Nat
  | .readback => 1
  | .silence => 2

/-- R169: crank sequencer state. -/
def CrankState.code : CrankState → Nat
  | .idle => 0
  | .settling => 1
  | .cranking => 2
  | .lockout => 3

/-- R169: slot local state. -/
def LocalState.code : LocalState → Nat
  | .waiting => 0
  | .held => 1
  | .trimmed => 2
  | .shed => 3
  | .stuck => 4
  | .orphaned => 5
  | .free => 6
  | .sending => 7
  | .releasing => 8
  | .carried => 9

/-- R169: watch unit state. -/
def WatchState.code : WatchState → Nat
  | .off => 0
  | .armed => 1
  | .disarmed => 2
  | .fired => 3

/-- R173: watch source, as listed in 8.1. -/
def WatchSource.code : WatchSource → Nat
  | .supply => 0
  | .headroom => 1
  | .frame => 2
  | .line => 3
  | .phase => 4

def WatchSource.ofCode : Nat → Option WatchSource
  | 0 => some .supply
  | 1 => some .headroom
  | 2 => some .frame
  | 3 => some .line
  | 4 => some .phase
  | _ => Option.none

/-- R173: watch relation. -/
def Relation.code : Relation → Nat
  | .below => 0
  | .above => 1
  | .equal => 2
  | .isMatch => 3

def Relation.ofCode : Nat → Option Relation
  | 0 => some .below
  | 1 => some .above
  | 2 => some .equal
  | 3 => some .isMatch
  | _ => Option.none

/-- R169: SYNC cause. -/
def SyncCause.code : SyncCause → Nat
  | .joinCommand => 0
  | .restart => 1
  | .snapshotLoaded => 2
  | .startAdopted => 3
  | .joinApplied => 4
  | .selfAbsent => 5
  | .overrun => 6
  | .digestYield => 7
  | .syncUnanswered => 8
  | .readback => 9
  | .silence => 10
  | .linkRestored => 11
  | .leaveApplied => 12
  | .duplicateStation => 13

/-- R169: ignore cause. -/
def IgnoreCause.code : IgnoreCause → Nat
  | .absentSender => 0
  | .badField => 1
  | .noCapability => 2
  | .classMismatch => 3
  | .overCapability => 4
  | .duplicateKey => 5
  | .arrivalsExhausted => 6
  | .noRecord => 7
  | .stuckHeld => 8
  | .notHolder => 9
  | .notRole => 10
  | .illegalStep => 11
  | .notMember => 12
  | .alreadyAbsent => 13
  | .notAbsent => 14
  | .notApplicable => 15
  | .notStuck => 16
  | .duplicateSlot => 17

/-- R169: ROSTER cause. -/
def RosterCause.code : RosterCause → Nat
  | .join => 0
  | .absence => 1
  | .leave => 2

/-- R173: fault kind, its place in the kind table of 9.1. -/
def FaultKind.code : FaultKind → Nat
  | .badCheck => 0
  | .inboundOverrun => 1
  | .readback => 2
  | .digestYield => 3
  | .syncUnanswered => 4
  | .stuckLoad => 5
  | .unclaimedDraw => 6
  | .roleRefused => 7
  | .duplicateStation => 8
  | .outboundFull => 9
  | .lineUnexplained => 10
  | .noticeLost => 11

/-- R173: response code. -/
def ResponseCode.code : ResponseCode → Nat
  | .ok => 0
  | .accepted => 1
  | .refusedState => 2
  | .refusedPhase => 3
  | .refusedLockout => 4
  | .notRole => 5
  | .badArg => 6
  | .queueFull => 7
  | .notFrozen => 8
  | .unknown => 9

/-- The counter a fault kind raises (R149). -/
def FaultKind.index : FaultKind → Fin 12
  | .badCheck => 0
  | .inboundOverrun => 1
  | .readback => 2
  | .digestYield => 3
  | .syncUnanswered => 4
  | .stuckLoad => 5
  | .unclaimedDraw => 6
  | .roleRefused => 7
  | .duplicateStation => 8
  | .outboundFull => 9
  | .lineUnexplained => 10
  | .noticeLost => 11

/-- Key: station in bits 5-2, slot in bits 1-0. -/
def Key.code (k : Key) : Nat := k.station.val * 4 + k.slot.val

def Key.ofCode (n : Nat) : Option Key :=
  if h : n < 64 then some { station := ⟨n / 4, by omega⟩, slot := ⟨n % 4, by omega⟩ } else none

/-- A byte that may be absent: 0xFF is none. -/
def optByte (o : Option Nat) : Byte := byteOf (o.getD 255)

/-- The subject of a capture; none is 0xFF. -/
def Subject.byte : Subject → Byte
  | .none => 0xFF
  | .station n => byteOf n.val
  | .slot n => byteOf n.val

/-- R169: JOIN slot outcome, followed by the ignore cause where the entry was discarded. -/
def JoinOutcome.bytes : JoinOutcome → List Byte
  | .resumed => [0, 0xFF]
  | .entered => [1, 0xFF]
  | .replaced => [2, 0xFF]
  | .removed => [3, 0xFF]
  | .discarded c => [4, byteOf c.code]

/-- R169: SLOT notice cause, followed by what it carries. -/
def SlotCause.bytes : SlotCause → List Byte
  | .applied => [0]
  | .ignored c => [1, byteOf c.code]
  | .withdrawn => [2]
  | .gateOpened byOwner => [3, flagByte byOwner]
  | .join o => 4 :: o.bytes
  | .loaded => [5]
  | .lost => [6]
  | .holdLimit => [7]
  | .carryEnded => [8]

/-- R169: PHASE notice cause. -/
def PhaseCause.code : PhaseCause → Nat
  | .step => 0
  | .budget => 1
  | .fallback => 2
  | .crankLost => 3
  | .brownoutSet _ _ _ => 4
  | .brownoutCleared => 5
  | .settleExtended _ => 6
  | .lockoutStarted => 7
  | .lockoutEnded => 8
  | .abandoned => 9

/-- R173: what follows the values of a PHASE notice. -/
def PhaseCause.tail : PhaseCause → List Byte
  | .brownoutSet sender cause sample => [byteOf sender.val, cause, sample]
  | .settleExtended n => [byteOf n]
  | _ => []

/-- R169: notice kinds 0 SLOT to 7 RESTARTED. -/
def NoticeContent.kind : NoticeContent → Nat
  | .slot _ _ _ _ => 0
  | .phase _ _ => 1
  | .crankGo _ => 2
  | .roster _ _ _ _ _ => 3
  | .sync _ _ _ => 4
  | .fault _ _ _ _ => 5
  | .watch _ _ _ _ _ _ => 6
  | .restarted _ _ => 7

/-- R173: the action set's bits of the control byte. -/
def ActionSet.byte (a : ActionSet) : Byte :=
  0#4 ++ BitVec.ofBool a.notify ++ BitVec.ofBool a.pullShed ++ BitVec.ofBool a.freeze ++ BitVec.ofBool a.rearm

/-- Section 4.3: which kinds are table-changing. -/
def FrameKind.tableChanging : FrameKind → Bool
  | .presence | .syncRequest | .snapshot => false
  | _ => true

/-- Section 4.3: the lane code of a kind. -/
def FrameKind.laneCode : FrameKind → BitVec 2
  | .phase | .shedRequest | .shedFault => 0
  | .presence | .snapshot => 2
  | _ => 1

def Body.kind : Body → FrameKind
  | .presence _ _ => .presence
  | .syncRequest _ => .syncRequest
  | .snapshot _ _ _ => .snapshot
  | .join _ _ _ _ _ _ => .join
  | .leave => .leave
  | .claim _ _ _ _ => .claim
  | .release _ => .release
  | .settled _ _ => .settled
  | .phase _ _ => .phase
  | .budget _ _ => .budget
  | .shedRequest _ _ => .shedRequest
  | .lift => .lift
  | .shedFault _ => .shedFault
  | .stuckClear _ => .stuckClear
  | .absence _ => .absence
  | .reclaim _ => .reclaim

def Queued.kind : Queued → FrameKind
  | .presence => .presence
  | .snapshot _ => .snapshot
  | .fixed b => b.kind

/-- R4: the low classes. -/
def LoadClass.low : LoadClass → Bool
  | .comfort | .passenger | .deferrable => true
  | _ => false

/-- A slot that mirrors a record takes the record's state (7.1). -/
def ClaimState.mirror : ClaimState → LocalState
  | .waiting => .waiting
  | .held => .held
  | .trimmed => .trimmed
  | .shed => .shed
  | .stuck => .stuck
  | .orphaned => .orphaned

def PriorState.state : PriorState → ClaimState
  | .held => .held
  | .trimmed => .trimmed
  | .stuck => .stuck

end Sys2Proof.Machine
end

