-- ==== Sys2Proof/Machine/Layouts.lean ====
section
/-! DEFINITION. Chapter 11: the byte layouts of payloads, frames, the canonical serialization, notices, history
entries and the fault record. Where R173 gives only an order, the choices are those of log entries 6 and 7. -/

namespace Sys2Proof.Machine

/-- 11.3: used in bit 7 and the class in bits 2-0; max amps; settle time in units of 2 ms. -/
def CapabilityField.bytes (c : CapabilityField) : List Byte :=
  [BitVec.ofBool c.used ++ 0#4 ++ c.cls, c.maxAmps, c.settle]

def Capability.field (c : Capability) : CapabilityField :=
  { used := c.used, cls := BitVec.ofNat 3 c.cls.code, maxAmps := byteOf c.maxAmps, settle := byteOf c.settle }

/-- R170: slot in bits 7-6, class in bits 5-3, was-on in bit 0; requested; minimum. -/
def EntryField.bytes (e : EntryField) : List Byte :=
  [BitVec.ofNat 2 e.slot.val ++ e.cls ++ 0#2 ++ BitVec.ofBool e.wasOn, e.requested, e.minimum]

/-- R170: the payload of a frame. -/
def Body.bytes : Body → List Byte
  | .presence state sample => [state, sample]
  | .syncRequest epoch => halfBytes epoch
  | .snapshot requester epoch image => requester :: (halfBytes epoch ++ image)
  | .join role c0 c1 c2 c3 entries =>
    role :: (c0.bytes ++ c1.bytes ++ c2.bytes ++ c3.bytes ++ byteOf entries.length :: entries.flatMap EntryField.bytes)
  | .leave => []
  | .claim slot cls requested minimum => [BitVec.ofNat 2 slot.val ++ 0#3 ++ cls, requested, minimum]
  | .release slot => [slot]
  | .settled key byOwner => [0#1 ++ BitVec.ofBool byOwner ++ BitVec.ofNat 6 key.code]
  | .phase code attempts => [code ++ attempts ++ 0#3]
  | .budget ceiling reserve => halfBytes ceiling ++ halfBytes reserve
  | .shedRequest cause sample => [cause, sample]
  | .lift => []
  | .shedFault slot => [slot]
  | .stuckClear slot => [slot]
  | .absence peer => [peer]
  | .reclaim peer => [peer]

/-- R171: the bits the frame check covers, from the contention field to the digest. -/
def coveredBits (w : WireFrame) : List Bool :=
  bitsOf w.lane ++ bitsOf (BitVec.ofNat 4 w.contender.val) ++ bitsOf w.kind ++ bitsOf (BitVec.ofNat 4 w.sender.val)
    ++ bitsOf w.sync ++ bitsOf w.length ++ bytesBits w.payload ++ bitsOf w.epoch ++ bitsOf w.digest

/-- R171: the frame check computed over those bits. -/
def computedCheck (w : WireFrame) : Half := crc frameGenerator (coveredBits w)

/-- R170: a frame as its sender drives it on the wires. -/
def Frame.toWire (f : Frame) : WireFrame :=
  let w : WireFrame :=
    { lane := f.body.kind.laneCode, contender := f.sender, kind := BitVec.ofNat 4 f.body.kind.code,
      sender := f.sender, sync := BitVec.ofNat 2 f.sync.code, length := BitVec.ofNat 10 f.body.bytes.length,
      payload := f.body.bytes, epoch := f.epoch, digest := f.digest, check := 0 }
  { w with check := computedCheck w }

/-- 11.3, byte 0 of the phase record. -/
def PhaseRecord.stateByte (p : PhaseRecord) : Byte :=
  BitVec.ofNat 3 p.phase.code ++ p.attempts ++ BitVec.ofBool p.brownout ++ BitVec.ofBool p.announced ++ 0#1

def stationByte (o : Option Station) : Byte := optByte (o.map (·.val))

def keyByte (o : Option Key) : Byte := optByte (o.map Key.code)

/-- 11.3: the seven bytes of the phase record. -/
def PhaseRecord.bytes (p : PhaseRecord) : List Byte :=
  p.stateByte :: (natBytes p.ceiling ++ natBytes p.reserve ++ [stationByte p.crankStation, stationByte p.supplyStation])

/-- 11.3: a roster entry, present in bit 7 and the role in bits 1-0, then four capabilities. -/
def RosterEntry.bytes (e : RosterEntry) : List Byte :=
  (BitVec.ofBool e.present ++ 0#5 ++ BitVec.ofNat 2 e.role.code) :: e.caps.toList.flatMap fun c => c.field.bytes

/-- 11.3: the ten bytes of a claim record. -/
def Claim.bytes (c : Claim) : List Byte :=
  [byteOf c.key.code,
   BitVec.ofNat 3 c.cls.code ++ BitVec.ofNat 3 c.state.code ++ BitVec.ofNat 2 ((c.prior.map PriorState.code).getD 0),
   byteOf c.requested, byteOf (c.minimum.getD 0), byteOf c.held] ++ wordBytes c.arrival ++ [byteOf c.skip]

/-- 11.3: the canonical serialization of a replica. -/
def Replica.serialize (r : Replica) : List Byte :=
  wordBytes r.arrival ++ r.phase.bytes ++ [keyByte r.gate] ++ r.roster.toList.flatMap RosterEntry.bytes
    ++ byteOf r.claims.length :: r.claims.flatMap Claim.bytes

/-- R172: the digest of a replica. -/
def Replica.computeDigest (r : Replica) : Half := crc digestGenerator (bytesBits r.serialize)

/-- The value a watch unit evaluated, in two bytes (R141, R142; log entry 7). -/
def EvalValue.bytes : EvalValue → List Byte
  | .sample v => [0, v]
  | .headroom v => intBytes v
  | .frame kind sender => [byteOf kind.code, byteOf sender.val]
  | .line => [0xFF, 0xFF]
  | .phase p => [0, byteOf p.code]

/-- R173: the content bytes of a notice, before the trailing zeros. A SLOT notice has its slot number, then its state
and its held byte where its posting rule names them, and its cause (log entry 35). The epoch and the timestamp stand in the notice's header alone (log
entry 49). A yes or no is 1 or 0; in a FAULT notice 1 is a capture that filled the record, 0 one that found it locked
(log entry 55). -/
def NoticeContent.bytes : NoticeContent → List Byte
  | .slot n state held cause =>
    byteOf n.val :: ((state.map fun l => byteOf l.code).toList ++ (held.map byteOf).toList ++ cause.bytes)
  | .phase cause (some p) =>
    [byteOf cause.code, p.stateByte] ++ natBytes p.ceiling ++ natBytes p.reserve ++ cause.tail
  | .phase cause none => [byteOf cause.code, 0xFF, 0xFF, 0xFF, 0xFF, 0xFF] ++ cause.tail
  | .crankGo stuck => [flagByte stuck]
  | .roster station present role requested cause =>
    [byteOf station.val, flagByte present, byteOf role.code, optByte (requested.map Role.code), byteOf cause.code]
  | .sync old new cause => [byteOf old.code, byteOf new.code, byteOf cause.code]
  | .fault kind subject frame filled =>
    [byteOf kind.code, subject.byte, optByte (frame.map FrameKind.code), flagByte filled]
  | .watch second source value actions after armedOther =>
    [flagByte second, byteOf source.code] ++ value.bytes ++
      [actions.byte, byteOf after.code, optByte (armedOther.map fun b => if b then 1 else 0)]
  | .restarted discarded lost => [byteOf discarded, flagByte lost]

/-- The two bytes of an epoch that may be absent: 0 behind a clear presence flag (log entry 51). -/
def epochBytes (e : Option Half) : List Byte := halfBytes (e.getD 0)

/-- R173: the 16 bytes of a notice. -/
def Notice.bytes (n : Notice) : List Byte :=
  padTo 16 ([byteOf n.content.kind, flagByte n.epoch.isSome] ++ halfBytes n.stamp ++ epochBytes n.epoch
    ++ n.content.bytes)

def claimStateByte (o : Option ClaimState) : Byte := optByte (o.map ClaimState.code)

/-- R173: kind, then subject, from, to and amount of a history entry; an absent amount is 0xFFFF (log entry 7). -/
def HistEvent.bytes : HistEvent → Nat × List Byte
  | .claimState key before after held =>
    (0, [byteOf key.code, claimStateByte before, claimStateByte after] ++ natBytes held)
  | .phase old new => (1, [0, byteOf old.code, byteOf new.code, 0xFF, 0xFF])
  | .brownout old new => (1, [1, flagByte old, flagByte new, 0xFF, 0xFF])
  | .ceiling old new => (1, 2 :: (natBytes old ++ natBytes new))
  | .roster station old new role =>
    (2, [byteOf station.val, flagByte old, flagByte new] ++ natBytes role.code)
  | .sync station old new cause =>
    (3, [byteOf station.val, byteOf old.code, byteOf new.code] ++ natBytes cause.code)
  | .syncRequest requester theirs own => (3, byteOf requester.val :: (halfBytes theirs ++ halfBytes own))
  | .line old new => (4, [0xFF, flagByte old, flagByte new, 0xFF, 0xFF])
  | .watch second before after value =>
    (5, [flagByte second, byteOf before.code, byteOf after.code] ++ value.bytes)
  | .fault subject kind frame =>
    (6, [subject.byte, 0xFF, byteOf kind.code] ++
      (match frame with
       | some k => natBytes k.code
       | none => [0xFF, 0xFF]))

/-- R173: the 11 bytes of a history entry. -/
def HistEntry.bytes (h : HistEntry) : List Byte :=
  [byteOf h.event.bytes.1, flagByte h.epoch.isSome] ++ halfBytes h.stamp ++ epochBytes h.epoch ++ h.event.bytes.2

/-- R148, R173: the 8 bytes of the fault record. An epoch that is none is 0 (log entry 51). -/
def FaultUnit.recordBytes (f : FaultUnit) : List Byte :=
  let flags (present : Bool) : Byte :=
    0#5 ++ BitVec.ofBool present ++ BitVec.ofBool f.lost ++ BitVec.ofBool f.lock
  match f.record with
  | none => [0xFF, 0xFF, 0xFF, flags false, 0, 0, 0, 0]
  | some e =>
    [byteOf e.kind.code, e.subject.byte, optByte (e.frame.map FrameKind.code), flags e.epoch.isSome]
      ++ epochBytes e.epoch ++ halfBytes e.stamp

end Sys2Proof.Machine
end

