-- ==== Sys2Proof/Machine/Operands.lean ====
section
/-! DEFINITION. What comes in from a wire, read into operands: payloads and frames (R77, R170, R171), snapshot images
(R172) and mailbox command records (R160, R173). -/

namespace Sys2Proof.Machine

/-- A capability of a JOIN payload; unassigned bits are not read (R171). -/
def CapabilityField.ofBytes (b0 amps settle : Byte) : CapabilityField :=
  { used := b0.getLsbD 7, cls := b0.extractLsb' 0 3, maxAmps := amps, settle := settle }

def EntryField.ofBytes (b0 requested minimum : Byte) : EntryField :=
  { slot := (b0.extractLsb' 6 2).toFin, cls := b0.extractLsb' 3 3, wasOn := b0.getLsbD 0, requested := requested,
    minimum := minimum }

/-- The entries of a JOIN payload, three bytes each. -/
def entriesOf : List Byte → Option (List EntryField)
  | [] => some []
  | b0 :: requested :: minimum :: rest => (entriesOf rest).map (EntryField.ofBytes b0 requested minimum :: ·)
  | _ => none

/-- The six-bit key of a SETTLED payload. -/
def settledKey (b : Byte) : Key :=
  { station := (b.extractLsb' 2 4).toFin, slot := (b.extractLsb' 0 2).toFin }

/-- R170, R171: the payload of a kind, where its length is one the kind allows; otherwise none. -/
def Body.ofBytes : FrameKind → List Byte → Option Body
  | .presence, [state, sample] => some (.presence state sample)
  | .syncRequest, [hi, lo] => some (.syncRequest (halfOf hi lo))
  | .snapshot, requester :: hi :: lo :: image =>
    let n := ((image[220]?).getD 0xFF).toNat
    if image.length = 221 + 10 * n ∧ n ≤ 64 then some (.snapshot requester (halfOf hi lo) image) else none
  | .join, role :: a0 :: a1 :: a2 :: b0 :: b1 :: b2 :: c0 :: c1 :: c2 :: d0 :: d1 :: d2 :: count :: rest =>
    if rest.length = 3 * count.toNat then
      (entriesOf rest).map fun entries =>
        .join role (.ofBytes a0 a1 a2) (.ofBytes b0 b1 b2) (.ofBytes c0 c1 c2) (.ofBytes d0 d1 d2) entries
    else none
  | .leave, [] => some .leave
  | .claim, [b0, requested, minimum] =>
    some (.claim (b0.extractLsb' 6 2).toFin (b0.extractLsb' 0 3) requested minimum)
  | .release, [slot] => some (.release slot)
  | .settled, [b] => some (.settled (settledKey b) (b.getLsbD 6))
  | .phase, [b] => some (.phase (b.extractLsb' 5 3) (b.extractLsb' 3 2))
  | .budget, [s1, s0, r1, r0] => some (.budget (halfOf s1 s0) (halfOf r1 r0))
  | .shedRequest, [cause, sample] => some (.shedRequest cause sample)
  | .lift, [] => some .lift
  | .shedFault, [slot] => some (.shedFault slot)
  | .stuckClear, [slot] => some (.stuckClear slot)
  | .absence, [peer] => some (.absence peer)
  | .reclaim, [peer] => some (.reclaim peer)
  | _, _ => none

/-- R77, R171: the frame check. A frame that passes is good and is read into its fields; none is a bad check. -/
def goodFrame (w : WireFrame) : Option Frame :=
  match FrameKind.ofCode w.kind.toNat, SyncState.ofCode w.sync.toNat with
  | some kind, some sync =>
    if w.payload.length = w.length.toNat ∧ w.payload.length ≤ 864 ∧ w.check = computedCheck w
        ∧ w.lane = kind.laneCode ∧ w.contender = w.sender then
      (Body.ofBytes kind w.payload).map fun body =>
        { sender := w.sender, sync := sync, epoch := w.epoch, digest := w.digest, body := body }
    else none
  | _, _ => none

/-! Snapshot images (11.3). -/

/-- 0xFF is none, 0 to 15 a station. -/
def optStationOf (b : Byte) : Option (Option Station) :=
  if b = 0xFF then some none else (stationOf b).map some

def optKeyOf (b : Byte) : Option (Option Key) :=
  if b = 0xFF then some none else (Key.ofCode b.toNat).map some

def phaseRecordOf (b0 s1 s0 r1 r0 crank supply : Byte) : Option PhaseRecord := do
  let phase ← Phase.ofCode (b0.extractLsb' 5 3).toNat
  let crankStation ← optStationOf crank
  let supplyStation ← optStationOf supply
  return { phase := phase, attempts := b0.extractLsb' 3 2, brownout := b0.getLsbD 2, announced := b0.getLsbD 1,
           ceiling := (halfOf s1 s0).toNat, reserve := (halfOf r1 r0).toNat, crankStation := crankStation,
           supplyStation := supplyStation }

/-- A capability of a roster entry, where its class code is defined. -/
def capabilityOf (b0 amps settle : Byte) : Option Capability :=
  (LoadClass.ofCode (b0.extractLsb' 0 3).toNat).map fun cls =>
    { used := b0.getLsbD 7, cls := cls, maxAmps := amps.toNat, settle := settle.toNat }

/-- A roster entry of 13 bytes. -/
def rosterEntryOf (b0 a0 a1 a2 c0 c1 c2 d0 d1 d2 e0 e1 e2 : Byte) : Option RosterEntry := do
  let role ← Role.ofCode (b0.extractLsb' 0 2).toNat
  let k0 ← capabilityOf a0 a1 a2
  let k1 ← capabilityOf c0 c1 c2
  let k2 ← capabilityOf d0 d1 d2
  let k3 ← capabilityOf e0 e1 e2
  return { present := b0.getLsbD 7, role := role, caps := #v[k0, k1, k2, k3] }

/-- n roster entries and the bytes behind them. -/
def rosterOf : Nat → List Byte → Option (List RosterEntry × List Byte)
  | 0, bs => some ([], bs)
  | n + 1, b0 :: a0 :: a1 :: a2 :: c0 :: c1 :: c2 :: d0 :: d1 :: d2 :: e0 :: e1 :: e2 :: rest => do
    let e ← rosterEntryOf b0 a0 a1 a2 c0 c1 c2 d0 d1 d2 e0 e1 e2
    let (es, behind) ← rosterOf n rest
    return (e :: es, behind)
  | _, _ => none

def optPriorOf (n : Nat) : Option (Option PriorState) :=
  if n = 0 then some none else (PriorState.ofCode n).map some

/-- A claim record of ten bytes. -/
def claimOf (key cs requested minimum held a3 a2 a1 a0 skip : Byte) : Option Claim := do
  let k ← Key.ofCode key.toNat
  let cls ← LoadClass.ofCode (cs.extractLsb' 5 3).toNat
  let state ← ClaimState.ofCode (cs.extractLsb' 2 3).toNat
  let prior ← optPriorOf (cs.extractLsb' 0 2).toNat
  return { key := k, cls := cls, requested := requested.toNat,
           minimum := if minimum = 0 then none else some minimum.toNat, held := held.toNat, state := state,
           prior := prior, arrival := wordOf a3 a2 a1 a0, skip := skip.toNat }

def claimsOf : Nat → List Byte → Option (List Claim)
  | 0, [] => some []
  | n + 1, key :: cs :: requested :: minimum :: held :: a3 :: a2 :: a1 :: a0 :: skip :: rest => do
    let c ← claimOf key cs requested minimum held a3 a2 a1 a0 skip
    let tail ← claimsOf n rest
    return c :: tail
  | _, _ => none

/-- R3, R5: the fields of a record hold together; a record that is not ORPHANED holds no prior state (log entry 18 for an
image). -/
def Claim.coherent (c : Claim) : Bool :=
  let trimmedHeld : Bool := match c.minimum with
    | some m => decide (m ≤ c.held ∧ c.held < c.requested)
    | none => false
  let prior : Bool := match c.state, c.prior with
    | .orphaned, some .trimmed => trimmedHeld
    | .orphaned, some _ => c.held == c.requested
    | .orphaned, none => false
    | _, p => p.isNone
  prior && match c.state with
    | .held | .stuck => c.held == c.requested
    | .trimmed => trimmedHeld
    | .waiting | .shed => c.held == 0
    | .orphaned => true

/-- Section 1.1: the ranges of a record's fields. -/
def Claim.inRange (c : Claim) : Bool :=
  decide (1 ≤ c.requested ∧ c.requested ≤ 200) &&
  (match c.minimum with
   | some m => decide (1 ≤ m ∧ m < c.requested)
   | none => true) &&
  decide (c.arrival < Config.arrivalLimit) && decide (c.skip ≤ Config.barrierSkip)

/-- R1: the records stand in key order, no key twice. -/
def keyOrdered : List Claim → Bool
  | a :: b :: rest => decide (a.key.code < b.key.code) && keyOrdered (b :: rest)
  | _ => true

/-- R103: an unused capability, and an absent entry, hold the lowest values. -/
def Capability.inRange (c : Capability) : Bool :=
  if c.used then decide (1 ≤ c.maxAmps ∧ c.maxAmps ≤ 200 ∧ 5 ≤ c.settle ∧ c.settle ≤ 250) else c == .unused

def RosterEntry.inRange (e : RosterEntry) : Bool :=
  if e.present then e.caps.toList.all Capability.inRange else e == .absent

/-- Section 3.1: S is at most 1600 units and R at most S. -/
def PhaseRecord.inRange (p : PhaseRecord) : Bool :=
  decide (p.ceiling ≤ Config.ceilingLimit ∧ p.reserve ≤ p.ceiling)

/-- Every value is one its field can hold, with the records in key order (R1), each record's fields together as R3
requires: the replicas that the frames' rules make. R172 asks less of an image. -/
def Replica.valid (r : Replica) : Bool :=
  r.phase.inRange && keyOrdered r.claims && r.claims.all (fun c => c.coherent && c.inRange)
    && r.roster.toList.all RosterEntry.inRange && decide (r.arrival ≤ Config.arrivalLimit)

/-- The replica a serialization spells, with the epoch given, where every code is a defined one. -/
def Replica.parse (epoch : Half) : List Byte → Option Replica
  | a3 :: a2 :: a1 :: a0 :: p0 :: s1 :: s0 :: r1 :: r0 :: crank :: supply :: gate :: rest => do
    let phase ← phaseRecordOf p0 s1 s0 r1 r0 crank supply
    let holder ← optKeyOf gate
    let (entries, behind) ← rosterOf 16 rest
    let roster ← vecOf 16 entries
    match behind with
    | [] => none
    | count :: bytes =>
      let claims ← claimsOf count.toNat bytes
      return { claims := claims, arrival := wordOf a3 a2 a1 a0, phase := phase, gate := holder, roster := roster,
               epoch := epoch, digest := 0 }
  | _ => none

/-- R1: a record enters the table at its key's place. -/
def insertClaim (c : Claim) : List Claim → List Claim
  | [] => [c]
  | d :: ds => if c.key.code < d.key.code then c :: d :: ds else d :: insertClaim c ds

/-- R1: the table that these records make: in key order, the first record of a key standing (log entry 18). -/
def tableOf (claims : List Claim) : List Claim :=
  claims.foldl (fun table c => if table.any fun d => d.key == c.key then table else insertClaim c table) []

/-- The replica with its records in their table. -/
def Replica.tabled (r : Replica) : Replica := { r with claims := tableOf r.claims }

/-- R98, R172: the replica a snapshot image gives a station that loads it, or none where one of the four checks fails.
Unassigned bits must be 0: the image is the serialization of what it spells. The digest is recomputed from the fields of
the replica. -/
def Replica.ofImage (imageEpoch : Half) (image : List Byte) (trailerEpoch trailerDigest : Half) : Option Replica :=
  match Replica.parse imageEpoch image with
  | none => none
  | some spelt =>
    let r := spelt.tabled
    if imageEpoch = trailerEpoch ∧ spelt.serialize = image ∧ spelt.claims.all Claim.coherent = true
        ∧ r.computeDigest = trailerDigest then
      some { r with digest := trailerDigest }
    else none

/-! Mailbox commands. -/

/-- The 27 commands of the mailbox, with the argument bytes of R173. -/
inductive Command where
  | configure (part a0 a1 a2 a3 a4 a5 : Byte)
  | readConfig | join | leave | restart
  | claim (slot requested minimum : Byte)
  | release (slot : Byte)
  | requestCrank | cancelCrank | crankDone | crankFailed | engineRunning | engineStopped
  | announceBudget (ceiling reserve : Half)
  | lift
  | readStatus (page : Byte)
  | readClaim (key : Byte)
  | readPeer (station : Byte)
  | readNotice | readFault | clearFault
  | readHistory (index : Byte)
  | freezeHistory | thawHistory
  | setWatch (unit control selector : Byte) (compare mask : Half) (reload : Byte)
  | armWatch (unit : Byte)
  | echo (bytes : List Byte)
  deriving DecidableEq, Repr

/-- R173: the record of a command, code first. -/
def Command.bytes : Command → List Byte
  | .configure part a0 a1 a2 a3 a4 a5 => [1, part, a0, a1, a2, a3, a4, a5]
  | .readConfig => [2]
  | .join => [3]
  | .leave => [4]
  | .restart => [5]
  | .claim slot requested minimum => [6, slot, requested, minimum]
  | .release slot => [7, slot]
  | .requestCrank => [8]
  | .cancelCrank => [9]
  | .crankDone => [10]
  | .crankFailed => [11]
  | .engineRunning => [12]
  | .engineStopped => [13]
  | .announceBudget ceiling reserve => 14 :: (halfBytes ceiling ++ halfBytes reserve)
  | .lift => [15]
  | .readStatus page => [16, page]
  | .readClaim key => [17, key]
  | .readPeer station => [18, station]
  | .readNotice => [19]
  | .readFault => [20]
  | .clearFault => [21]
  | .readHistory index => [22, index]
  | .freezeHistory => [23]
  | .thawHistory => [24]
  | .setWatch unit control selector compare mask reload =>
    [25, unit, control, selector] ++ halfBytes compare ++ halfBytes mask ++ [reload]
  | .armWatch unit => [26, unit]
  | .echo bytes => 27 :: bytes

/-- R173: the arguments of a command code, where the record has the command's length. -/
def Command.ofBytes (code : Nat) (args : List Byte) : Option Command :=
  match code with
  | 1 => match args with
    | [part, a0, a1, a2, a3, a4, a5] => some (.configure part a0 a1 a2 a3 a4 a5)
    | _ => none
  | 2 => if args = [] then some .readConfig else none
  | 3 => if args = [] then some .join else none
  | 4 => if args = [] then some .leave else none
  | 5 => if args = [] then some .restart else none
  | 6 => match args with
    | [slot, requested, minimum] => some (.claim slot requested minimum)
    | _ => none
  | 7 => match args with
    | [slot] => some (.release slot)
    | _ => none
  | 8 => if args = [] then some .requestCrank else none
  | 9 => if args = [] then some .cancelCrank else none
  | 10 => if args = [] then some .crankDone else none
  | 11 => if args = [] then some .crankFailed else none
  | 12 => if args = [] then some .engineRunning else none
  | 13 => if args = [] then some .engineStopped else none
  | 14 => match args with
    | [s1, s0, r1, r0] => some (.announceBudget (halfOf s1 s0) (halfOf r1 r0))
    | _ => none
  | 15 => if args = [] then some .lift else none
  | 16 => match args with
    | [page] => some (.readStatus page)
    | _ => none
  | 17 => match args with
    | [key] => some (.readClaim key)
    | _ => none
  | 18 => match args with
    | [station] => some (.readPeer station)
    | _ => none
  | 19 => if args = [] then some .readNotice else none
  | 20 => if args = [] then some .readFault else none
  | 21 => if args = [] then some .clearFault else none
  | 22 => match args with
    | [index] => some (.readHistory index)
    | _ => none
  | 23 => if args = [] then some .freezeHistory else none
  | 24 => if args = [] then some .thawHistory else none
  | 25 => match args with
    | [unit, control, selector, c1, c0, m1, m0, reload] =>
      some (.setWatch unit control selector (halfOf c1 c0) (halfOf m1 m0) reload)
    | _ => none
  | 26 => match args with
    | [unit] => some (.armWatch unit)
    | _ => none
  | 27 => if args.length ≤ 23 then some (.echo args) else none
  | _ => none

/-- R156: the record a WRITE leaves: its first 24 bytes, marked over-long if there were more. -/
def CommandRecord.ofWrite (bytes : List Byte) : CommandRecord :=
  { bytes := bytes.take 24, overLong := decide (24 < bytes.length) }

/-- R160, checks 1 and 2: the command of a record, or the answer of the check that fails. -/
def CommandRecord.command (r : CommandRecord) : Except ResponseCode Command :=
  match r.bytes with
  | [] => .error .unknown
  | code :: args =>
    if 1 ≤ code.toNat ∧ code.toNat ≤ 27 then
      if r.overLong then .error .badArg
      else match Command.ofBytes code.toNat args with
        | some c => .ok c
        | none => .error .badArg
    else .error .unknown

end Sys2Proof.Machine
end

