-- ==== Sys2Proof/Machine/Flags.lean ====
section
/-! DEFINITION. What the manual derives from the state: line levels, the charged sum, available current, the admission
queue, the enable rule, the status byte and ATTN#. None of it is stored, except the enable, which every event brings
back to the rule (R123). -/

namespace Sys2Proof.Machine

/-! Order. -/

/-- Insert into a list sorted by `before`. -/
def insertBy {α : Type} (before : α → α → Bool) (x : α) : List α → List α
  | [] => [x]
  | y :: ys => if before x y then x :: y :: ys else y :: insertBy before x ys

/-- Sort by `before`. -/
def sortBy {α : Type} (before : α → α → Bool) : List α → List α
  | [] => []
  | x :: xs => insertBy before x (sortBy before xs)

/-! The replica. -/

/-- R7: the states whose held amount is charged. -/
def ClaimState.charged : ClaimState → Bool
  | .held | .trimmed | .stuck | .orphaned => true
  | .waiting | .shed => false

/-- R8: the states that stand in the admission queue. -/
def ClaimState.queued : ClaimState → Bool
  | .waiting | .shed | .trimmed => true
  | .held | .stuck | .orphaned => false

/-- HELD or TRIMMED: what the shedding pass may take (R26). -/
def ClaimState.given : ClaimState → Bool
  | .held | .trimmed => true
  | _ => false

def Claim.charge (c : Claim) : Nat := if c.state.charged then c.held else 0

/-- R7: the charged sum C. -/
def chargedSum (claims : List Claim) : Nat := (claims.map Claim.charge).sum

def Replica.charged (r : Replica) : Nat := chargedSum r.claims

def findClaim (claims : List Claim) (k : Key) : Option Claim := claims.find? fun c => c.key == k

/-- The record with this key, if the table holds one. -/
def Replica.find (r : Replica) (k : Key) : Option Claim := findClaim r.claims k

/-- R22: what the low classes may draw. -/
def PhaseRecord.low (p : PhaseRecord) : Nat :=
  if p.brownout then 0
  else match p.phase with
    | .run | .recover => p.ceiling
    | .stop => p.ceiling - p.reserve
    | .crankPending | .crank => 0

/-- R22: what RESTART and CRITICAL may draw. -/
def PhaseRecord.high (p : PhaseRecord) : Nat := p.ceiling

/-- R22: A(k). -/
def PhaseRecord.available (p : PhaseRecord) (k : LoadClass) : Nat := if k.low then p.low else p.high

/-- R41: A_low - C, which may be negative. -/
def Replica.headroom (r : Replica) : Int := (r.phase.low : Int) - (r.charged : Int)

/-- R9: TRIMMED before SHED before WAITING. -/
def ClaimState.group : ClaimState → Nat
  | .trimmed => 0
  | .shed => 1
  | _ => 2

/-- R9: class rank descending, state group, arrival ascending. -/
def queueBefore (a b : Claim) : Bool :=
  if a.cls.code = b.cls.code then
    if a.state.group = b.state.group then decide (a.arrival ≤ b.arrival)
    else decide (a.state.group < b.state.group)
  else decide (b.cls.code < a.cls.code)

/-- R8, R9: the admission queue, from its first entry. -/
def admissionQueue (claims : List Claim) : List Claim := sortBy queueBefore (claims.filter fun c => c.state.queued)

/-- R36: the entries that are barriers. -/
def barriers (claims : List Claim) : List Claim :=
  (admissionQueue claims).filter fun c => decide (c.skip = Config.barrierSkip)

def Replica.entry (r : Replica) (n : Station) : RosterEntry := r.roster[n.val]

def Replica.isPresent (r : Replica) (n : Station) : Bool := (r.entry n).present

def RosterEntry.cap (e : RosterEntry) (i : SlotNo) : Capability := e.caps[i.val]

/-- R110: ORPHANED, below CRITICAL, prior state not STUCK. -/
def Claim.reclaimable (c : Claim) : Bool :=
  c.state == .orphaned && c.cls != .critical && c.prior != some .stuck

def Replica.hasReclaimable (r : Replica) (p : Station) : Bool :=
  r.claims.any fun c => c.key.station == p && c.reclaimable

/-- R57, R58: a claim of a low class in STUCK state, of any owner. -/
def Replica.lowStuck (r : Replica) : Bool := r.claims.any fun c => c.cls.low && c.state == .stuck

/-! The station. -/

/-- The 16-bit timestamp of the present moment. -/
def State.stamp (s : State) : Half := BitVec.ofNat 16 s.now

def State.epoch (s : State) : Option Half := s.replica.map (·.epoch)

def State.self (s : State) : Station := s.straps.station

def State.mode (s : State) : StationState := s.station.state

/-- R63: this station's own drive of SHED#. -/
def State.ownDrive (s : State) : Bool := s.crank.hold || s.w0.pulse.isSome || s.w1.pulse.isSome

/-- R63: the level of SHED#; high while no station drives it low. -/
def State.shedHigh (s : State) : Bool := !(s.ownDrive || s.pins.peerShed)

def State.slot (s : State) (i : SlotNo) : SlotRecord := s.slotUnit.slots[i.val]

def State.part (s : State) (i : SlotNo) : SlotPart := s.config.slots[i.val]

def State.peer (s : State) (n : Station) : PeerRecord := s.members.peers[n.val]

/-- The key of one of the station's own slots. -/
def State.ownKey (s : State) (i : SlotNo) : Key := { station := s.self, slot := i }

/-- The replica's record for one of the station's own slots. -/
def State.ownClaim (s : State) (i : SlotNo) : Option Claim := s.replica.bind fun r => r.find (s.ownKey i)

/-- R120, R127: the reading of FBn; none for a slot configured without feedback. -/
def State.reading (s : State) (i : SlotNo) : Option Bool :=
  if (s.part i).used && (s.part i).feedback then some (s.pins.feedback[i.val]) else none

/-- R120: the slot unit watches in every state but UNCONFIGURED and OFFLINE. -/
def StationState.live : StationState → Bool
  | .unconfigured | .offline => false
  | _ => true

/-- R83: the states in which the heartbeat runs. -/
def StationState.beating : StationState → Bool
  | .entering | .member | .tainted => true
  | _ => false

/-- R122, R129: MEMBER, TAINTED or ISOLATED. -/
def StationState.reporting : StationState → Bool
  | .member | .tainted | .isolated => true
  | _ => false

/-- R105, R110: the states in which the membership timers run. -/
def StationState.watching : StationState → Bool
  | .entering | .member | .tainted | .isolated => true
  | _ => false

/-- R123: the enable rule for slot i. -/
def State.enableRule (s : State) (i : SlotNo) : Bool :=
  let slot := s.slot i
  (s.part i).used && s.mode.live &&
    match slot.state, slot.values with
    | .carried, _ => true
    | .held, some v | .trimmed, some v =>
      !slot.latch && (s.shedHigh || !v.cls.low)
        && (!(s.mode == .isolated || s.station.wasIsolated) || v.cls == .critical)
        && s.station.wasMember && !s.slotUnit.leavePending
    | _, _ => false

/-- R127: the slot, or the record of a RELEASING slot, is HELD, TRIMMED or SHED. -/
def State.orderedOff (s : State) (i : SlotNo) : Bool :=
  match (s.slot i).state with
  | .held | .trimmed | .shed => true
  | .releasing => match s.ownClaim i with
    | some c => c.state.given || c.state == .shed
    | none => false
  | _ => false

/-- R127: the three conditions of the off deadline, the enable taken from the rule. -/
def State.offConditions (s : State) (i : SlotNo) : Bool :=
  !(s.enableRule i) && s.reading i == some true && s.orderedOff i

/-- R131: drawing while FREE, SENDING or WAITING. -/
def State.unclaimedDraw (s : State) (i : SlotNo) : Bool :=
  s.reading i == some true && match (s.slot i).state with
    | .free | .sending | .waiting => true
    | _ => false

/-- R129: the slot is STUCK, or RELEASING with a STUCK record, and its reading is not drawing. -/
def State.stuckCleared (s : State) (i : SlotNo) : Bool :=
  s.reading i == some false && match (s.slot i).state with
    | .stuck => true
    | .releasing => match s.ownClaim i with
      | some c => c.state == .stuck
      | none => false
    | _ => false

/-- R101: the roster shows at least one station other than this one present. -/
def State.othersPresent (s : State) : Bool :=
  match s.replica with
  | some r => allStations.any fun n => n != s.self && r.isPresent n
  | none => false

/-- R101: when the 350 ms of silence end, measured from the later of its two moments. -/
def State.silenceDeadline (s : State) : Nat :=
  Nat.max (s.members.lastGood.getD 0) s.station.liveSince + Config.silencePeriod

/-- R78: whether a station state admits a good frame to the inbound queue. The station's own SYNC_REQUEST is admitted in
no state (R96). -/
def admits (mode : StationState) (self : Station) (f : Frame) : Bool :=
  match mode with
  | .entering | .member => match f.body with
    | .syncRequest _ => f.sender != self
    | _ => true
  | .joining | .tainted => match f.body with
    | .snapshot requester _ _ => requester == byteOf self.val
    | _ => false
  | _ => false

/-- R69: the sync state a station puts in its headers. -/
def StationState.sync : StationState → SyncState
  | .member => .member
  | .entering | .joining => .joining
  | _ => .tainted

/-- R157, R173: the status byte. -/
def State.statusByte (s : State) : Byte :=
  BitVec.ofBool s.port.command.isSome ++ BitVec.ofBool s.port.response.isSome ++ BitVec.ofBool (!s.port.notices.isEmpty)
    ++ BitVec.ofBool s.port.overwrite ++ BitVec.ofNat 3 s.mode.code ++ BitVec.ofBool s.shedHigh

/-- R165: ATTN# is driven low. -/
def State.attention (s : State) : Bool :=
  s.port.response.isSome || s.port.notices.any fun n => s.config.general.mask.getLsbD n.content.kind

/-- R123: the level of ENn. -/
def State.enabled (s : State) (i : SlotNo) : Bool := (s.slot i).enable

end Sys2Proof.Machine
end

