-- ==== Sys2Proof/Machine/Ops.lean ====
section
/-! DEFINITION. The shared operations: time, captures, notices, history entries, lanes and slot records. -/

namespace Sys2Proof.Machine

/-! Time (log entry 3). -/

/-- R134: the hold time of a DEFERRABLE slot with a hold limit rises while it is HELD or TRIMMED, up to the limit. In
UNCONFIGURED and OFFLINE (`live` false) it stands (R120). -/
def heldFor (live : Bool) (part : SlotPart) (elapsed : Nat) (slot : SlotRecord) : SlotRecord :=
  match live && part.used && part.cls == .deferrable, part.holdLimit, slot.state with
  | true, some limit, .held | true, some limit, .trimmed =>
    { slot with holdTime := Nat.min (limit * 1000) (slot.holdTime + elapsed) }
  | _, _, _ => slot

/-- The four slot records, each changed by its own function. -/
def mapSlots (f : SlotNo → SlotRecord → SlotRecord) (v : Vector SlotRecord 4) : Vector SlotRecord 4 :=
  #v[f 0 v[0], f 1 v[1], f 2 v[2], f 3 v[3]]

def State.setSlots (s : State) (v : Vector SlotRecord 4) : State := s.setSlotUnit { s.slotUnit with slots := v }

/-- Write one slot record. -/
def State.putSlot (s : State) (i : SlotNo) (r : SlotRecord) : State :=
  s.setSlots (mapSlots (fun j old => if j = i then r else old) s.slotUnit.slots)

/-- The local time reaches t; it never goes back. -/
def State.advanceTo (s : State) (t : Nat) : State :=
  if t ≤ s.now then s
  else (s.setSlots (mapSlots (fun i => heldFor s.mode.live (s.part i) (t - s.now)) s.slotUnit.slots)).setNow t

/-! History (R152 to R154). -/

/-- R154: while frozen an event is counted as missed; otherwise it is appended. The event's end keeps the newest 32
(`History.trim`). -/
def History.write (h : History) (e : HistEntry) : History :=
  if h.frozen then { h with missed := Nat.min 255 (h.missed + 1) } else { h with entries := h.entries ++ [e] }

/-- R153: only the newest 32 entries are held. -/
def History.trim (h : History) : History :=
  { h with entries := h.entries.drop (h.entries.length - Config.historyCapacity) }

def State.record (s : State) (e : HistEvent) : State :=
  s.setHistory (s.history.write { stamp := s.stamp, epoch := s.epoch, event := e })

/-- R152: where an entry stands within one application. That rule names no place for a LINE entry: it stands with the
FAULT entries (log entry 14). -/
def HistEvent.place : HistEvent → Nat
  | .claimState _ _ _ _ => 0
  | .sync _ _ _ _ | .syncRequest _ _ _ => 1
  | .roster _ _ _ _ | .phase _ _ | .brownout _ _ | .ceiling _ _ => 2
  | _ => 3

/-- R152: the entries an application has written, behind the n it found, in the order of that rule. -/
def History.arrange (h : History) (n : Nat) : History :=
  let fresh := h.entries.drop n
  let at_ (k : Nat) := fresh.filter fun e => e.event.place == k
  { h with entries := h.entries.take n ++ at_ 0 ++ at_ 1 ++ at_ 2 ++ at_ 3 }

/-! Captures and notices (R147, R148, R151, R164). -/

/-- R147 steps 1 and 2, R148, R149: raise the kind's counter; fill the record, or set the lost flag if it is locked. -/
def FaultUnit.take (f : FaultUnit) (e : FaultEntry) : FaultUnit :=
  let counters := f.counters.set e.kind.index.val (Nat.min 255 (f.counters[e.kind.index.val] + 1)) e.kind.index.isLt
  if f.lock then { f with counters := counters, lost := true }
  else { f with counters := counters, record := some e, lock := true }

/-- R147 steps 1 to 3. -/
def State.captureQuiet (s : State) (kind : FaultKind) (subject : Subject) (frame : Option FrameKind) : State :=
  (s.setFault (s.fault.take
    { kind := kind, subject := subject, frame := frame, epoch := s.epoch, stamp := s.stamp })).record
      (.fault subject kind frame)

/-- R164: a notice joins the tail, or is dropped at a full queue with the flag set and NOTICE_LOST captured (R151). -/
def State.post (s : State) (content : NoticeContent) : State :=
  if s.port.notices.length < Config.noticeCapacity then
    s.setPort { s.port with
      notices := s.port.notices ++ [{ stamp := s.stamp, epoch := s.epoch, content := content }] }
  else (s.setPort { s.port with noticeLost := true }).captureQuiet .noticeLost .none none

/-- R147: a capture, with its FAULT notice, which says whether the record was filled. -/
def State.capture (s : State) (kind : FaultKind) (subject : Subject) (frame : Option FrameKind) : State :=
  (s.captureQuiet kind subject frame).post (.fault kind subject frame (!s.fault.lock))

/-- R149: a frame or an image that fails its check. -/
def State.badCheck (s : State) : State :=
  (s.setFault { s.fault with badChecks := Nat.min 65535 (s.fault.badChecks + 1) }).capture .badCheck .none none

/-! Lanes (R70, R71). -/

def State.urgentRoom (s : State) : Bool := decide (s.link.urgent.length < Config.urgentCapacity)

def State.generalRoom (s : State) : Bool := decide (s.link.general.length < Config.generalCapacity)

def State.pushUrgent (s : State) (b : Body) : State :=
  s.setLink { s.link with urgent := s.link.urgent ++ [.fixed b] }

def State.pushGeneral (s : State) (q : Queued) : State :=
  s.setLink { s.link with general := s.link.general ++ [q] }

/-- R70: an automatic source; a full lane drops the frame and captures OUTBOUND_FULL. -/
def State.autoUrgent (s : State) (b : Body) : State :=
  if s.urgentRoom then s.pushUrgent b else s.capture .outboundFull .none (some b.kind)

def State.autoGeneral (s : State) (q : Queued) : State :=
  if s.generalRoom then s.pushGeneral q else s.capture .outboundFull .none (some q.kind)

/-- R71: the frames of a lane that a request withdraws; the head stays while it is in transmission. -/
def withdrawFrom (inTx : Bool) (p : Queued → Bool) (lane : List Queued) : List Queued :=
  match inTx, lane with
  | true, head :: rest => head :: rest.filter fun q => !p q
  | _, lane => lane.filter fun q => !p q

def LinkUnit.sending (l : LinkUnit) (source : Source) : Bool :=
  match l.tx with
  | some t => t.source == source
  | none => false

def State.withdrawGeneral (s : State) (p : Queued → Bool) : State :=
  s.setLink { s.link with general := withdrawFrom (s.link.sending .general) p s.link.general }

def State.withdrawUrgent (s : State) (p : Queued → Bool) : State :=
  s.setLink { s.link with urgent := withdrawFrom (s.link.sending .urgent) p s.link.urgent }

/-- Whether a request would withdraw a frame (one that is not in transmission). -/
def canWithdraw (inTx : Bool) (p : Queued → Bool) (lane : List Queued) : Bool :=
  match inTx, lane with
  | true, _ :: rest => rest.any p
  | _, lane => lane.any p

def State.inGeneral (s : State) (p : Queued → Bool) : Bool := s.link.general.any p

def State.inUrgent (s : State) (p : Queued → Bool) : Bool := s.link.urgent.any p

/-! Recognising queued frames. -/

def Queued.isPresence : Queued → Bool
  | .presence => true
  | _ => false

def Queued.isSnapshot : Queued → Bool
  | .snapshot _ => true
  | _ => false

def Queued.isSyncRequest : Queued → Bool
  | .fixed (.syncRequest _) => true
  | _ => false

def Queued.isJoin : Queued → Bool
  | .fixed (.join _ _ _ _ _ _) => true
  | _ => false

def Queued.isClaim (i : SlotNo) : Queued → Bool
  | .fixed (.claim j _ _ _) => i == j
  | _ => false

def Queued.isRelease (i : SlotNo) : Queued → Bool
  | .fixed (.release b) => b == byteOf i.val
  | _ => false

def Queued.isShedFault (i : SlotNo) : Queued → Bool
  | .fixed (.shedFault b) => b == byteOf i.val
  | _ => false

def Queued.isStuckClear (i : SlotNo) : Queued → Bool
  | .fixed (.stuckClear b) => b == byteOf i.val
  | _ => false

/-- A SHED_REQUEST, of the given cause byte where one is given. -/
def Queued.isShedRequest (cause : Option Byte) : Queued → Bool
  | .fixed (.shedRequest b _) => match cause with
    | some c => b == c
    | none => true
  | _ => false

def Queued.isSettled (k : Key) : Queued → Bool
  | .fixed (.settled j _) => k == j
  | _ => false

def Queued.isAbsence (p : Station) : Queued → Bool
  | .fixed (.absence b) => b == byteOf p.val
  | _ => false

def Queued.isReclaim (p : Station) : Queued → Bool
  | .fixed (.reclaim b) => b == byteOf p.val
  | _ => false

/-- A PHASE frame for this phase. -/
def Queued.isPhase (p : Phase) : Queued → Bool
  | .fixed (.phase code _) => code == BitVec.ofNat 3 p.code
  | _ => false

/-- The body of a PHASE frame. -/
def phaseBody (p : Phase) (attempts : BitVec 2) : Body := .phase (BitVec.ofNat 3 p.code) attempts

/-- R170: SHED_REQUEST causes. -/
def causeWatch : Byte := 0
def causeLine : Byte := 1

end Sys2Proof.Machine
end

