-- ==== Sys2Proof/Machine/Epilogue.lean ====
section
/-! DEFINITION. Chapter 2: the epilogue of a table-changing frame, the shedding pass and then the admission pass, on a
replica. -/

namespace Sys2Proof.Machine

/-- A replica under change, and the claim-state transitions made so far, in order (R21). -/
structure Pass where
  rep : Replica
  log : List Transition
  deriving DecidableEq, Repr

/-- The claim with key k, changed by f; every other record stays. -/
def changeClaim (f : Claim → Claim) (k : Key) (claims : List Claim) : List Claim :=
  claims.map fun c => if c.key = k then f c else c

def Replica.change (r : Replica) (k : Key) (f : Claim → Claim) : Replica := { r with claims := changeClaim f k r.claims }

/-- R37: the gate opens if k holds it. -/
def Replica.release (r : Replica) (k : Key) : Replica := if r.gate = some k then { r with gate := none } else r

/-- A record leaves the table, and opens the gate if it held it (R37). -/
def Replica.remove (r : Replica) (k : Key) : Replica :=
  { r.release k with claims := r.claims.filter fun c => !(c.key == k) }

def Replica.insert (r : Replica) (c : Claim) : Replica := { r with claims := insertClaim c r.claims }

/-- Newest arrival first. -/
def newestFirst (claims : List Claim) : List Claim := sortBy (fun a b => decide (b.arrival ≤ a.arrival)) claims

/-- R27: lower a flexible claim's held amount by the smaller of the excess over the limit and what stands above its
minimum, while C exceeds the limit. -/
def trimOne (limit : Nat) (p : Pass) (k : Key) : Pass :=
  match p.rep.find k with
  | some c => match c.minimum with
    | some m =>
      let excess := p.rep.charged - limit
      if 0 < excess ∧ c.state.given = true ∧ m < c.held then
        let held := c.held - Nat.min excess (c.held - m)
        { rep := p.rep.change k fun c => { c with held := held, state := .trimmed }
          log := p.log ++ [{ key := k, before := some c.state, after := some .trimmed, held := held }] }
      else p
    | none => p
  | none => p

/-- R28: shed a claim, while C exceeds the limit. -/
def shedOne (limit : Nat) (p : Pass) (k : Key) : Pass :=
  match p.rep.find k with
  | some c =>
    if limit < p.rep.charged ∧ c.state.given = true then
      { rep := (p.rep.change k fun c => { c with held := 0, state := .shed, skip := 0 }).release k
        log := p.log ++ [{ key := k, before := some c.state, after := some .shed, held := 0 }] }
    else p
  | none => p

/-- HELD and TRIMMED claims of a class, newest first. -/
def givenOf (cls : LoadClass) (r : Replica) : List Key :=
  (newestFirst (r.claims.filter fun c => c.cls == cls && c.state.given)).map (·.key)

/-- R26: within a class, first trim, then shed. -/
def shedClass (limit : Nat) (p : Pass) (cls : LoadClass) : Pass :=
  let trimmed := (givenOf cls p.rep).foldl (trimOne limit) p
  (givenOf cls trimmed.rep).foldl (shedOne limit) trimmed

/-- R26, R29: the low classes against A_low, lowest first; then RESTART against S. -/
def sheddingPass (p : Pass) : Pass :=
  let low := [LoadClass.deferrable, .passenger, .comfort].foldl (shedClass p.rep.phase.low) p
  shedClass p.rep.phase.ceiling low .restart

/-- R32, R33: the state and held amount an entry takes if it fits the current still available to its class. -/
def fit (available charged : Nat) (c : Claim) : Option (ClaimState × Nat) :=
  if c.state = .trimmed then
    if charged < available then
      let held := c.held + Nat.min (available - charged) (c.requested - c.held)
      some (if held = c.requested then .held else .trimmed, held)
    else none
  else if charged + c.requested ≤ available then some (.held, c.requested)
  else match c.minimum with
    | some m => if charged + m ≤ available then some (.trimmed, available - charged) else none
    | none => none

/-- What the walk of the admission queue comes to: the entry admitted with its new state and held amount, and the
entries it passed over. -/
structure Admission where
  claim : Claim
  state : ClaimState
  held : Nat
  passed : List Key
  deriving DecidableEq, Repr

/-- R31, R36: walk the queue to the first entry that fits, or to a barrier that does not, or to its end. Entries the
shedding pass touched do not fit. -/
def walkQueue (phase : PhaseRecord) (charged : Nat) (touched : List Key) : List Key → List Claim → Option Admission
  | _, [] => none
  | passed, c :: rest =>
    match (if touched.contains c.key then none else fit (phase.available c.cls) charged c) with
    | some (state, held) => some { claim := c, state := state, held := held, passed := passed }
    | none => if c.skip = Config.barrierSkip then none else walkQueue phase charged touched (passed ++ [c.key]) rest

/-- R34, R35: the admitted claim takes its state, its skip count is 0 and it takes the gate; those passed over have
their skip counts raised, up to 8. -/
def admitClaim (r : Replica) (a : Admission) : Replica :=
  { r with
    claims := r.claims.map fun c =>
      if c.key = a.claim.key then { c with held := a.held, state := a.state, skip := 0 }
      else if a.passed.contains c.key then { c with skip := Nat.min Config.barrierSkip (c.skip + 1) }
      else c
    gate := some a.claim.key }

/-- R31: whether the pass runs. -/
def admissionRuns (r : Replica) : Bool := r.gate.isNone && r.phase.phase != .crank

/-- R31 to R36: the admission pass; it also answers the key it admitted or grew. -/
def admissionPass (touched : List Key) (p : Pass) : Pass × Option Key :=
  if admissionRuns p.rep = true then
    match walkQueue p.rep.phase p.rep.charged touched [] (admissionQueue p.rep.claims) with
    | some a =>
      ({ rep := admitClaim p.rep a
         log := p.log ++ [{ key := a.claim.key, before := some a.claim.state, after := some a.state, held := a.held }] },
       some a.claim.key)
    | none => (p, none)
  else (p, none)

/-- R24: the shedding pass and then the admission pass; the transitions are those of the epilogue alone. It runs for an
ignored frame too, and changes there what its passes ask (log entries 33 and 37). -/
def epilogue (r : Replica) : Pass × Option Key :=
  let shed := sheddingPass { rep := r, log := [] }
  admissionPass (shed.log.map (·.key)) shed

end Sys2Proof.Machine
end

