-- ==== Sys2Proof/Machine/Effects.lean ====
section
/-! DEFINITION. The own effect of each table-changing frame kind on a replica whose epoch has advanced (R81): the
checks of the kind's rule in their order, then the change. The epilogue follows in Machine/Applications.lean. -/

namespace Sys2Proof.Machine

/-- What a frame's own effect leaves. -/
structure OwnEffect where
  rep : Replica
  log : List Transition
  ignored : Option IgnoreCause
  /-- the cause of the PHASE notice, if the phase record changed (R48) -/
  phaseCause : PhaseCause
  /-- R116: the outcome of a JOIN for each slot it had something to decide -/
  outcomes : List (SlotNo × JoinOutcome)
  /-- R114: the holders of the refused parts of a role -/
  refused : List Station
  requestedRole : Option Role
  deriving DecidableEq, Repr

/-- An effect that leaves the replica r with these transitions. -/
def OwnEffect.made (r : Replica) (log : List Transition) : OwnEffect :=
  { rep := r, log := log, ignored := none, phaseCause := .step, outcomes := [], refused := [], requestedRole := none }

/-- An ignored frame changes no field. No history entry is written for it (log entry 34). -/
def OwnEffect.ignore (r : Replica) (cause : IgnoreCause) : OwnEffect := { made r [] with ignored := some cause }

/-- The checks of a rule in their order: the first that fails gives the cause. -/
def firstFailure : List (Bool × IgnoreCause) → Option IgnoreCause
  | [] => none
  | (holds, cause) :: rest => if holds then firstFailure rest else some cause

/-- Amounts of a claim as a wire gives them: requested 1-200, minimum absent (0) or 1 to requested - 1 (R12). -/
def amountsOk (requested minimum : Byte) : Bool :=
  decide (1 ≤ requested.toNat ∧ requested.toNat ≤ 200 ∧ (minimum = 0 ∨ minimum.toNat < requested.toNat))

def minimumOf (b : Byte) : Option Nat := if b = 0 then none else some b.toNat

/-- A new record, WAITING, with the arrival counter's number (R13). -/
def newClaim (k : Key) (cls : LoadClass) (requested minimum : Byte) (arrival : Nat) : Claim :=
  { key := k, cls := cls, requested := requested.toNat, minimum := minimumOf minimum, held := 0, state := .waiting,
    prior := none, arrival := arrival, skip := 0 }

/-- R10: a record enters and the arrival counter advances. -/
def Replica.enter (r : Replica) (c : Claim) : Replica := { r.insert c with arrival := r.arrival + 1 }

def created (k : Key) : Transition := { key := k, before := none, after := some .waiting, held := 0 }

/-- R21: a removal; the held amount after it is 0 (log entry 58). -/
def removed (c : Claim) : Transition := { key := c.key, before := some c.state, after := none, held := 0 }

/-- R12, R13: a CLAIM. -/
def claimEffect (f : Frame) (r : Replica) : OwnEffect :=
  match f.body with
  | .claim slot code requested minimum =>
    let key : Key := { station := f.sender, slot := slot }
    let cap := (r.entry f.sender).cap slot
    match firstFailure [
      (r.isPresent f.sender, .absentSender),
      ((LoadClass.ofCode code.toNat).isSome && amountsOk requested minimum, .badField),
      (cap.used, .noCapability),
      (LoadClass.ofCode code.toNat == some cap.cls, .classMismatch),
      (decide (requested.toNat ≤ cap.maxAmps), .overCapability),
      ((r.find key).isNone, .duplicateKey),
      (decide (r.arrival < Config.arrivalLimit), .arrivalsExhausted)] with
    | some cause => .ignore r cause
    | none => .made (r.enter (newClaim key cap.cls requested minimum r.arrival)) [created key]
  | _ => .ignore r .badField

/-- R16, R17: a RELEASE. -/
def releaseEffect (f : Frame) (r : Replica) : OwnEffect :=
  match f.body with
  | .release b =>
    if r.isPresent f.sender then
      match slotOf b with
      | none => .ignore r .badField
      | some slot => match r.find { station := f.sender, slot := slot } with
        | none => .ignore r .noRecord
        | some c => match c.state with
          | .stuck => .ignore r .stuckHeld
          | .orphaned => .ignore r .notApplicable
          | _ => .made (r.remove c.key) [removed c]
    else .ignore r .absentSender
  | _ => .ignore r .badField

/-- R38: a SETTLED. -/
def settledEffect (f : Frame) (r : Replica) : OwnEffect :=
  match f.body with
  | .settled key byOwner =>
    match firstFailure [
      (r.isPresent f.sender, .absentSender),
      (!byOwner || key.station == f.sender, .badField),
      (r.gate == some key, .notHolder)] with
    | some cause => .ignore r cause
    | none => .made { r with gate := none } []
  | _ => .ignore r .badField

/-- R46: the attempts value after a legal step, or none where the step is not legal. -/
def phaseStep (present new : Phase) (attempts : BitVec 2) : Option (BitVec 2) :=
  match present, new with
  | .run, .stop => some attempts
  | .stop, .crankPending => some attempts
  | .stop, .stop => if attempts = 0 then some 0 else none
  | .crankPending, .crank => some attempts
  | .crankPending, .stop => some attempts
  | .crank, .recover => some attempts
  | .crank, .stop => some attempts
  | .recover, .run => some 0
  | .recover, .stop => some attempts
  | _, _ => none

/-- R45, R46: a PHASE. RECOVER to RUN also clears brownout. -/
def phaseEffect (f : Frame) (r : Replica) : OwnEffect :=
  match f.body with
  | .phase code attempts =>
    if r.isPresent f.sender then
      if r.phase.crankStation = some f.sender then
        match Phase.ofCode code.toNat with
        | none => .ignore r .badField
        | some new => match phaseStep r.phase.phase new attempts with
          | none => .ignore r .illegalStep
          | some value =>
            .made { r with phase :=
              { r.phase with phase := new, attempts := value, brownout := r.phase.brownout && new != .run } } []
      else .ignore r .notRole
    else .ignore r .absentSender
  | _ => .ignore r .badField

/-- R49: a BUDGET. -/
def budgetEffect (f : Frame) (r : Replica) : OwnEffect :=
  match f.body with
  | .budget ceiling reserve =>
    match firstFailure [
      (r.isPresent f.sender, .absentSender),
      (r.phase.supplyStation == some f.sender, .notRole),
      (decide (ceiling.toNat ≤ Config.ceilingLimit ∧ reserve.toNat ≤ ceiling.toNat), .badField)] with
    | some cause => .ignore r cause
    | none =>
      { OwnEffect.made { r with phase :=
          { r.phase with ceiling := ceiling.toNat, reserve := reserve.toNat, announced := true, brownout := false } } []
        with phaseCause := .budget }
  | _ => .ignore r .badField

/-- R52: a SHED_REQUEST. -/
def shedRequestEffect (f : Frame) (r : Replica) : OwnEffect :=
  match f.body with
  | .shedRequest cause sample =>
    match firstFailure [
      (r.isPresent f.sender, .absentSender),
      (decide (cause = causeWatch ∨ cause = causeLine), .badField)] with
    | some why => .ignore r why
    | none =>
      { OwnEffect.made { r with phase := { r.phase with brownout := true } } [] with
        phaseCause := .brownoutSet f.sender cause sample }
  | _ => .ignore r .badField

/-- R53: a LIFT. -/
def liftEffect (f : Frame) (r : Replica) : OwnEffect :=
  if r.isPresent f.sender then
    { OwnEffect.made { r with phase := { r.phase with brownout := false } } [] with phaseCause := .brownoutCleared }
  else .ignore r .absentSender

/-- The record a slot byte of the sender names, after checks 1 to 3 of R128. -/
def senderRecord (f : Frame) (r : Replica) (b : Byte) : Except IgnoreCause Claim :=
  if r.isPresent f.sender then
    match slotOf b with
    | none => .error .badField
    | some slot => match r.find { station := f.sender, slot := slot } with
      | none => .error .noRecord
      | some c => .ok c
  else .error .absentSender

/-- R128: a SHED_FAULT makes the record STUCK at its requested amount. -/
def shedFaultEffect (f : Frame) (r : Replica) : OwnEffect :=
  match f.body with
  | .shedFault b => match senderRecord f r b with
    | .error cause => .ignore r cause
    | .ok c =>
      if c.state.given || c.state == .shed then
        .made (r.change c.key fun c => { c with state := .stuck, held := c.requested })
          [{ key := c.key, before := some c.state, after := some .stuck, held := c.requested }]
      else .ignore r .notApplicable
  | _ => .ignore r .badField

/-- R130: a STUCK_CLEAR returns the record to SHED and opens the gate if it held it. -/
def stuckClearEffect (f : Frame) (r : Replica) : OwnEffect :=
  match f.body with
  | .stuckClear b => match senderRecord f r b with
    | .error cause => .ignore r cause
    | .ok c =>
      if c.state = .stuck then
        .made ((r.change c.key fun c => { c with state := .shed, held := 0 }).release c.key)
          [{ key := c.key, before := some .stuck, after := some .shed, held := 0 }]
      else .ignore r .notStuck
  | _ => .ignore r .badField

/-! Membership. -/

/-- R103: a roster entry is written. -/
def Replica.setEntry (r : Replica) (n : Station) (e : RosterEntry) : Replica :=
  { r with roster := r.roster.set n.val e n.isLt }

/-- R50, R61: a crank under way. -/
def Phase.cranking : Phase → Bool
  | .crankPending | .crank | .recover => true
  | _ => false

/-- R50: the phase record at the absence of the supply station. -/
def supplyLost (p : PhaseRecord) : PhaseRecord :=
  { p with ceiling := p.ceiling / 2, reserve := Nat.min p.reserve (p.ceiling / 2), announced := false,
           supplyStation := none }

/-- R50: the phase record when the crank station field becomes none by an absence or a JOIN (R114). -/
def crankLost (p : PhaseRecord) : PhaseRecord :=
  { p with crankStation := none, phase := if p.phase.cranking then .stop else p.phase }

/-- R50: the effects of an ABSENCE of station p on the phase record. -/
def phaseAbsence (n : Station) (p : PhaseRecord) : PhaseRecord :=
  let q := if p.supplyStation = some n then supplyLost p else p
  if q.crankStation = some n then crankLost q else q

/-- R108 step 2: what an ABSENCE makes of one claim of the absent station. -/
def orphanOne (p : Pass) (c : Claim) : Pass :=
  let orphan (prior : PriorState) : Pass :=
    { rep := p.rep.change c.key fun c => { c with state := .orphaned, prior := some prior }
      log := p.log ++ [{ key := c.key, before := some c.state, after := some .orphaned, held := c.held }] }
  match c.state with
  | .held => orphan .held
  | .trimmed => orphan .trimmed
  | .stuck => orphan .stuck
  | .waiting | .shed =>
    if c.cls = .critical then p else { rep := p.rep.remove c.key, log := p.log ++ [removed c] }
  | .orphaned => p

def Replica.claimsOf (r : Replica) (n : Station) : List Claim := r.claims.filter fun c => c.key.station == n

/-- Remove these records, in order. -/
def removeAll (p : Pass) (cs : List Claim) : Pass :=
  cs.foldl (fun p c => { rep := p.rep.remove c.key, log := p.log ++ [removed c] }) p

/-- R107, R111: the first three checks of ABSENCE and RECLAIM, and the peer they name. -/
def peerChecks (f : Frame) (r : Replica) (b : Byte) : Except IgnoreCause Station :=
  if r.isPresent f.sender then
    if f.sync = .member then
      match stationOf b with
      | none => .error .badField
      | some p => if p = f.sender then .error .badField else .ok p
    else .error .notMember
  else .error .absentSender

/-- R107, R108: an ABSENCE. The cause of the PHASE notice is the first of R50's effects that changed a field (log
entry 15). -/
def absenceEffect (f : Frame) (r : Replica) : OwnEffect :=
  match f.body with
  | .absence b => match peerChecks f r b with
    | .error cause => .ignore r cause
    | .ok n =>
      if r.isPresent n then
        let phase := phaseAbsence n r.phase
        let p := (r.claimsOf n).foldl orphanOne { rep := { r with phase := phase }, log := [] }
        let budgetMoved := (phase.ceiling, phase.reserve, phase.announced) !=
          (r.phase.ceiling, r.phase.reserve, r.phase.announced)
        { OwnEffect.made (p.rep.setEntry n .absent) p.log with
          phaseCause := if budgetMoved then .fallback else .crankLost }
      else .ignore r .alreadyAbsent
  | _ => .ignore r .badField

/-- R111: a RECLAIM. -/
def reclaimEffect (f : Frame) (r : Replica) : OwnEffect :=
  match f.body with
  | .reclaim b => match peerChecks f r b with
    | .error cause => .ignore r cause
    | .ok n =>
      if r.isPresent n then .ignore r .notAbsent
      else
        let p := removeAll { rep := r, log := [] } ((r.claimsOf n).filter Claim.reclaimable)
        .made p.rep p.log
  | _ => .ignore r .badField

/-- R50, R117: a LEAVE clears the fields that name the station and nothing else of the phase record. -/
def phaseLeave (n : Station) (p : PhaseRecord) : PhaseRecord :=
  { p with crankStation := if p.crankStation = some n then none else p.crankStation
           supplyStation := if p.supplyStation = some n then none else p.supplyStation }

/-- R117: a LEAVE. -/
def leaveEffect (f : Frame) (r : Replica) : OwnEffect :=
  if r.isPresent f.sender then
    let p := removeAll { rep := { r with phase := phaseLeave f.sender r.phase }, log := [] } (r.claimsOf f.sender)
    .made (p.rep.setEntry f.sender .absent) p.log
  else .ignore r .absentSender

/-! JOIN. -/

/-- The capability the roster takes from a JOIN: an unused one holds the lowest values (R103; log entry 18). -/
def CapabilityField.capability (c : CapabilityField) : Option Capability :=
  if c.used then
    match LoadClass.ofCode c.cls.toNat with
    | some cls =>
      let cap : Capability := { used := true, cls := cls, maxAmps := c.maxAmps.toNat, settle := c.settle.toNat }
      if cap.inRange then some cap else none
    | none => none
  else some .unused

/-- R113: the checks of one entry against the JOIN's own capabilities, given the entries before it. -/
def entryFailure (caps : Vector Capability 4) (earlier : List EntryField) (e : EntryField) : Option IgnoreCause :=
  let cap := caps[e.slot.val]
  firstFailure [
    ((LoadClass.ofCode e.cls.toNat).isSome && amountsOk e.requested e.minimum, .badField),
    (!earlier.any (fun d => d.slot == e.slot), .duplicateSlot),
    (cap.used, .noCapability),
    (LoadClass.ofCode e.cls.toNat == some cap.cls, .classMismatch),
    (decide (e.requested.toNat ≤ cap.maxAmps), .overCapability)]

/-- The first entry of a JOIN that names slot s: later ones are discarded as DUPLICATE_SLOT. -/
def entryFor (s : SlotNo) (entries : List EntryField) : Option EntryField := entries.find? fun e => e.slot == s

/-- R114: the parts of a role. -/
def Role.crankPart : Role → Bool
  | .crank | .both => true
  | _ => false

def Role.supplyPart : Role → Bool
  | .supply | .both => true
  | _ => false

def roleOf (crank supply : Bool) : Role :=
  match crank, supply with
  | true, true => .both
  | true, false => .crank
  | false, true => .supply
  | false, false => .none

/-- R114: one part against its field: the field after it, whether the part is admitted, and the holder that refused. -/
def admitPart (requested : Bool) (field : Option Station) (sender : Station) : Option Station × Bool × List Station :=
  match requested, field with
  | true, none => (some sender, true, [])
  | true, some h => if h = sender then (some sender, true, []) else (some h, false, [h])
  | false, none => (none, false, [])
  | false, some h => (if h = sender then none else some h, false, [])

/-- R114: the phase record after role admission. -/
def admitRole (role : Role) (sender : Station) (p : PhaseRecord) : PhaseRecord :=
  let crank := (admitPart role.crankPart p.crankStation sender).1
  let supply := (admitPart role.supplyPart p.supplyStation sender).1
  let q := { p with crankStation := crank, supplyStation := supply }
  if p.crankStation.isSome && crank.isNone then crankLost q else q

/-- What reconciliation has come to. -/
structure Reconciled where
  pass : Pass
  outcomes : List (SlotNo × JoinOutcome)
  deriving DecidableEq, Repr

/-- An entry enters as a new record, or is discarded where the arrival counter is exhausted (R11). -/
def enterEntry (sender : Station) (cls : LoadClass) (e : EntryField) (outcome : JoinOutcome) (x : Reconciled) :
    Reconciled :=
  let k : Key := { station := sender, slot := e.slot }
  if x.pass.rep.arrival < Config.arrivalLimit then
    { pass := { rep := x.pass.rep.enter (newClaim k cls e.requested e.minimum x.pass.rep.arrival)
                log := x.pass.log ++ [created k] }
      outcomes := x.outcomes ++ [(e.slot, outcome)] }
  else { x with outcomes := x.outcomes ++ [(e.slot, .discarded .arrivalsExhausted)] }

/-- R115, resume: an ORPHANED record takes back its prior state, any other keeps its state. -/
def resumeClaim (c : Claim) (p : Pass) : Pass :=
  match c.state, c.prior with
  | .orphaned, some prior =>
    { rep := p.rep.change c.key fun c => { c with state := prior.state, prior := none }
      log := p.log ++ [{ key := c.key, before := some .orphaned, after := some prior.state, held := c.held }] }
  | _, _ => p

/-- R113, R115: one slot of the sender against its entry. A slot whose entry is discarded and whose record goes reports
the entry's discard cause (log entry 39). -/
def reconcileSlot (sender : Station) (caps : Vector Capability 4) (entries : List EntryField) (x : Reconciled)
    (s : SlotNo) : Reconciled :=
  let record := x.pass.rep.find { station := sender, slot := s }
  let drop (c : Claim) : Pass := { rep := x.pass.rep.remove c.key, log := x.pass.log ++ [removed c] }
  match entryFor s entries with
  | none => match record with
    | none => x
    | some c => { pass := drop c, outcomes := x.outcomes ++ [(s, .removed)] }
  | some e => match entryFailure caps [] e with
    | some cause =>
      { pass := match record with
          | none => x.pass
          | some c => drop c
        outcomes := x.outcomes ++ [(s, .discarded cause)] }
    | none =>
      let cls := caps[s.val].cls
      match record with
      | none => enterEntry sender cls e .entered x
      | some c =>
        if e.wasOn && c.cls == cls && c.requested == e.requested.toNat then
          { pass := resumeClaim c x.pass, outcomes := x.outcomes ++ [(s, .resumed)] }
        else enterEntry sender cls e .replaced { x with pass := drop c }

/-- R113 to R115: a JOIN: role admission, the roster entry, then reconciliation in slot order. -/
def joinEffect (f : Frame) (r : Replica) : OwnEffect :=
  match f.body with
  | .join roleByte c0 c1 c2 c3 entries =>
    match Role.ofCode roleByte.toNat, c0.capability, c1.capability, c2.capability, c3.capability with
    | some role, some k0, some k1, some k2, some k3 =>
      if entries.length ≤ 4 then
        let caps := #v[k0, k1, k2, k3]
        let crank := admitPart role.crankPart r.phase.crankStation f.sender
        let supply := admitPart role.supplyPart r.phase.supplyStation f.sender
        let admitted := roleOf crank.2.1 supply.2.1
        let rep := { r with phase := admitRole role f.sender r.phase }.setEntry f.sender
          { present := true, role := admitted, caps := caps }
        let x := allSlots.foldl (reconcileSlot f.sender caps entries) { pass := { rep := rep, log := [] }, outcomes := [] }
        { OwnEffect.made x.pass.rep x.pass.log with
          phaseCause := .crankLost, outcomes := x.outcomes, refused := crank.2.2 ++ supply.2.2,
          requestedRole := some role }
      else .ignore r .badField
    | _, _, _, _, _ => .ignore r .badField
  | _ => .ignore r .badField

end Sys2Proof.Machine
end

