-- ==== Sys2Proof/Machine/Watch.lean ====
section
/-! DEFINITION. SHED# at this station and the two watch units (sections 3.6, 7.4 and chapter 8). -/

namespace Sys2Proof.Machine

/-! Latches. -/

/-- R124: a slot that an edge latches: HELD or TRIMMED with a claim of a low class. -/
def SlotRecord.latchable (r : SlotRecord) : Bool :=
  (r.state == .held || r.state == .trimmed) && match r.values with
    | some v => v.cls.low
    | none => false

/-- R124: the slots an edge latches, and the latch-limit timer it starts. In UNCONFIGURED and OFFLINE the records stand
as they are (R120, log entry 23). -/
def State.latchSlots (s : State) : State :=
  if s.mode.live then
    let set := allSlots.any fun i => (s.slot i).latchable && !(s.slot i).latch
    let timer := match s.slotUnit.latchLimit with
      | some d => some d
      | none => if set then some (s.now + s.config.general.latchLimit) else none
    s.setSlotUnit { s.slotUnit with
      slots := mapSlots (fun _ r => if r.latchable then { r with latch := true } else r) s.slotUnit.slots
      latchLimit := timer }
  else s

/-- R125: the latches are cleared, all four together, and the latch-limit timer is stopped. -/
def State.clearLatches (s : State) : State :=
  s.setSlotUnit { s.slotUnit with
    slots := mapSlots (fun _ r => { r with latch := false }) s.slotUnit.slots
    latchLimit := none }

/-- R63, R124: a falling edge as the slot unit and the history take it. -/
def State.noteFall (s : State) : State := (s.record (.line true false)).latchSlots

/-- R63: a rising edge; it restores nothing (R64). -/
def State.noteRise (s : State) : State := s.record (.line false true)

/-! Units. `false` is W0 and `true` is W1. -/

def State.unit (s : State) (second : Bool) : WatchUnit := if second then s.w1 else s.w0

def State.setUnit (s : State) (second : Bool) (u : WatchUnit) : State := if second then s.setW1 u else s.setW0 u

def Relation.holds (r : Relation) (v c : Int) : Bool :=
  match r with
  | .below => decide (v < c)
  | .above => decide (c < v)
  | .equal => decide (v = c)
  | .isMatch => false

/-- R138: whether an evaluation matches. -/
def WatchUnit.matchesValue (u : WatchUnit) : EvalValue → Bool
  | .sample v => u.relation.holds v.toNat u.compare
  | .headroom v => u.relation.holds v u.compare
  | .frame kind sender => decide ((kind.code : Int) = u.compare) && u.mask.getLsbD sender.val
  | .line => true
  | .phase p => decide ((p.code : Int) = u.compare)

/-- R143: PULL_SHED: the pulse, the edge it may make, and the SHED_REQUEST. -/
def State.pullShed (s : State) (second : Bool) : State :=
  let pulsed := s.setUnit second { s.unit second with pulse := some (s.now + Config.pulsePeriod) }
  let edged := if s.shedHigh then pulsed.noteFall else pulsed
  if (s.mode == .member || s.mode == .tainted) && !edged.inUrgent (Queued.isShedRequest (some causeWatch)) then
    edged.autoUrgent (.shedRequest causeWatch s.pins.vsense)
  else edged

/-- R144, R154. -/
def State.freeze (s : State) : State := s.setHistory { s.history with frozen := true }

/-- R140: W1 when W0 fires. -/
def State.armSecond (s : State) : State :=
  if s.w1.sequence && (s.w1.state == .armed || s.w1.state == .disarmed) then
    s.setW1 { s.w1 with state := .armed, counter := s.w1.reload }
  else s

/-- R142: for W0, whether the firing arms or reloads W1. -/
def State.armsSecond (s : State) (second : Bool) : Option Bool :=
  if second then none else some (s.w1.sequence && (s.w1.state == .armed || s.w1.state == .disarmed))

/-- R141: a unit fires. A fault that NOTIFY or PULL_SHED captures (a full notice queue, a full lane) writes its FAULT entry
at that action, before the freeze (log entry 50). -/
def State.fire (s : State) (second : Bool) (value : EvalValue) : State :=
  let u := s.unit second
  let after : WatchState := if u.actions.rearm then .armed else .fired
  let entered := s.record (.watch second u.state after value)
  let noticed := if u.actions.notify then
      entered.post (.watch second u.source value u.actions after (s.armsSecond second)) else entered
  let pulled := if u.actions.pullShed then noticed.pullShed second else noticed
  let frozen := if u.actions.freeze then pulled.freeze else pulled
  let v := frozen.unit second
  let moved := frozen.setUnit second
    { v with state := after, counter := if u.actions.rearm then v.reload else v.counter }
  if second then moved else moved.armSecond

/-- R139: an evaluation offered to a unit; the answer says whether it fired. -/
def State.evaluate (s : State) (second : Bool) (offer : Option EvalValue) : State × Bool :=
  let u := s.unit second
  match u.state, offer with
  | .armed, some value =>
    if u.matchesValue value then
      if u.counter = 0 then (s.fire second value, true)
      else (s.setUnit second { u with counter := u.counter - 1 }, false)
    else if u.source == .supply || u.source == .headroom then
      (s.setUnit second { u with counter := u.reload }, false)
    else (s, false)
  | _, _ => (s, false)

/-- R137, R140: one event's evaluations, W0 before W1, to the units that were ARMED when the event came. The evaluation
at which W0 fires is not counted by a W1 in SEQUENCE with the same source. A W1 in SEQUENCE on another source is reloaded
by W0's firing before its own evaluation (log entry 42). -/
def State.offer (s : State) (armed0 armed1 : Bool) (values : WatchSource → Option EvalValue) : State :=
  let first := if armed0 then s.evaluate false (values s.w0.source) else (s, false)
  let skip := first.2 && s.w1.sequence && s.w0.source == s.w1.source
  if armed1 && !skip then (first.1.evaluate true (values s.w1.source)).1 else first.1

/-- The LINE source alone. -/
def lineOffer : WatchSource → Option EvalValue
  | .line => some .line
  | _ => none

/-- R136, R137: the evaluations of one event, and those of the edge that a pulse of this event makes (log entry 9). -/
def State.watchEvent (s : State) (values : WatchSource → Option EvalValue) : State :=
  if s.mode.live then
    let armed0 := s.w0.state == .armed
    let armed1 := s.w1.state == .armed
    let offered := s.offer armed0 armed1 values
    if s.shedHigh && !offered.shedHigh then offered.offer armed0 armed1 lineOffer else offered
  else s

/-- R63, R124, R137: what a change of this station's drive, or of the others', does to the line it had before. -/
def State.edgeFrom (s : State) (wasHigh : Bool) : State :=
  if wasHigh && !s.shedHigh then s.noteFall.watchEvent lineOffer
  else if !wasHigh && s.shedHigh then s.noteRise
  else s

end Sys2Proof.Machine
end

