-- ==== Sys2Proof/Machine/Slots.lean ====
section
/-! DEFINITION. The slot unit (chapter 7): mirrors, the enable, the off deadline, STUCK_CLEAR, RELEASE again, the gate
timers, and what ends an event. -/

namespace Sys2Proof.Machine

/-! Mirrors (R121). -/

/-- A slot record takes the record c of its key, or FREE where there is none; a new record restarts the hold time
(R134). -/
def SlotRecord.mirror (r : SlotRecord) (claim : Option Claim) : SlotRecord :=
  match claim with
  | some c =>
    { r with state := c.state.mirror
             values := some { cls := c.cls, requested := c.requested, minimum := c.minimum }
             arrival := some c.arrival
             holdTime := if r.arrival = some c.arrival then r.holdTime else 0 }
  | none => { r with state := .free, values := none, arrival := none }

/-- R121: a slot that does not mirror the replica. -/
def LocalState.apart : LocalState → Bool
  | .sending | .releasing | .carried => true
  | _ => false

/-- The record a configured slot mirrors (R120: an unconfigured slot stays FREE). -/
def State.mirrored (s : State) (i : SlotNo) : Option Claim := if (s.part i).used then s.ownClaim i else none

/-- Bring slot i to the replica's record. -/
def State.mirrorSlot (s : State) (i : SlotNo) : State := s.putSlot i ((s.slot i).mirror (s.mirrored i))

/-- A slot goes FREE. -/
def SlotRecord.freed (r : SlotRecord) : SlotRecord := r.mirror none

/-- A SLOT notice whose rule names the slot's local state (R15, R17, R21, R30), with the held amount where it names one
(log entry 35). -/
def State.postSlot (s : State) (i : SlotNo) (held : Option Nat) (cause : SlotCause) : State :=
  s.post (.slot i (some (s.slot i).state) held cause)

/-- A SLOT notice whose rule names the cause alone (R18, R39, R116, R121, R128, R134, R135; log entry 35). -/
def State.postCause (s : State) (i : SlotNo) (cause : SlotCause) : State := s.post (.slot i none none cause)

/-- R21, R121: one transition of an own claim: a mirroring slot takes the state after it, and a SLOT notice is posted.
The notice of a slot that does not mirror, or is not configured as used, shows the slot's own local state (log entry
11). That of a removal shows held 0 (log entry 58). -/
def State.ownTransition (s : State) (cause : SlotCause) (t : Transition) : State :=
  if t.key.station = s.self then
    let i := t.key.slot
    let r := s.slot i
    let moved := if r.state.apart || !(s.part i).used then s else
      match t.after with
      | some st => s.putSlot i { r.mirror (s.ownClaim i) with state := st.mirror }
      | none => s.putSlot i r.freed
    moved.postSlot i (some t.held) cause
  else s

/-! Frames the slot unit queues again (R122, R129). -/

/-- R122: the record of a RELEASING slot is one a RELEASE removes. -/
def State.releasable (s : State) (i : SlotNo) : Bool :=
  (s.slot i).state == .releasing && match s.ownClaim i with
    | some c => c.state.queued || c.state == .held
    | none => false

def State.releaseAgain (s : State) (i : SlotNo) : State :=
  if s.mode.reporting && s.releasable i && !s.inGeneral (Queued.isRelease i) then
    s.autoGeneral (.fixed (.release (byteOf i.val)))
  else s

/-- R122: a RELEASE is queued again for each RELEASING slot that needs it. -/
def State.releasesAgain (s : State) : State := allSlots.foldl State.releaseAgain s

/-- R129: the test for STUCK_CLEAR at one slot; a full lane is tried again a further off deadline later. -/
def State.testStuckClear (s : State) (i : SlotNo) : State :=
  if s.mode.reporting && s.stuckCleared i && !s.inGeneral (Queued.isStuckClear i) then
    if s.generalRoom then
      (s.pushGeneral (.fixed (.stuckClear (byteOf i.val)))).putSlot i { s.slot i with retry := none }
    else
      (s.capture .outboundFull .none (some .stuckClear)).putSlot i
        { s.slot i with retry := some (s.now + (s.part i).offDeadline) }
  else s

def State.testStuckClears (s : State) : State := allSlots.foldl State.testStuckClear s

/-! The end of an event. -/

/-- R123, R127, R131: one slot record brought to what the state now requires of it. -/
def State.refreshed (s : State) (i : SlotNo) (r : SlotRecord) : SlotRecord :=
  if s.mode.live then
    let on := s.enableRule i
    let watch := s.offConditions i
    { r with
      enable := on
      offWatch := watch
      offDeadline := if watch then (if r.offWatch then r.offDeadline else some (s.now + (s.part i).offDeadline)) else none
      retry := if s.stuckCleared i then r.retry else none
      unclaimed := s.unclaimedDraw i }
  else { r with enable := false, offWatch := false, offDeadline := none, settle := none, retry := none }

/-- R131: the slots at which an unclaimed-draw episode begins. -/
def State.episodes (s : State) : List SlotNo :=
  allSlots.filter fun i => s.mode.live && s.unclaimedDraw i && !(s.slot i).unclaimed

/-- Enables, off deadlines and unclaimed draw follow the event (R123, R127, R131; log entry 20). Where one event begins
several episodes their captures are made in slot order, the lowest first, which R131 leaves open (DESIGN CHOICE, unsafe:
log entry 63). -/
def State.refreshSlots (s : State) : State :=
  s.episodes.foldl (fun t i => t.capture .unclaimedDraw (.slot i) none)
    (s.setSlots (mapSlots s.refreshed s.slotUnit.slots))

/-- The end of every event: the slots follow it, and the history keeps its newest 32 entries. -/
def State.conclude (s : State) : State :=
  let t := s.refreshSlots
  t.setHistory t.history.trim

/-! The gate (R132, R133). -/

/-- The settle time, in ms, that the roster holds for a key's slot. -/
def Replica.settleTime (r : Replica) (k : Key) : Nat := 2 * ((r.entry k.station).cap k.slot).settle

def State.gateKey (s : State) : Option Key := s.replica.bind (·.gate)

/-- R132: the settle timer of one slot stops where its claim does not hold the gate, and starts where `starts` names
its key. A CARRIED slot runs none (R135). -/
def State.settleSlot (s : State) (starts : Option Key) (i : SlotNo) (r : SlotRecord) : SlotRecord :=
  if s.gateKey = some (s.ownKey i) ∧ r.state ≠ .carried ∧ (s.part i).used = true then
    if starts = some (s.ownKey i) then { r with settle := some (s.now + 2 * (s.part i).settle) } else r
  else { r with settle := none }

/-- R133: the gate timeout: it stops where its key does not hold the gate. -/
def State.keepGateTimeout (s : State) : Option GateTimeout :=
  match s.slotUnit.gate with
  | some g => if s.gateKey = some g.key then some g else none
  | none => none

def State.gateTimeoutFor (s : State) (k : Key) (period : Nat) : GateTimeout :=
  { key := k, deadline := s.now + period, period := period }

/-- R133: the gate timeout after an application or a load that starts one for the key `starts`. -/
def State.nextGateTimeout (s : State) (starts : Option Key) (period : Nat) : Option GateTimeout :=
  match starts with
  | some k => if k.station ≠ s.self ∧ s.gateKey = some k then some (s.gateTimeoutFor k period) else s.keepGateTimeout
  | none => s.keepGateTimeout

/-- R132, R133: the gate timers at the end of an application or a load. `starts` is a key whose timer starts anew, with
the peer's period. In UNCONFIGURED and OFFLINE no timer of the slot unit runs (R120). -/
def State.gateTimers (s : State) (starts : Option Key) (period : Nat) : State :=
  s.setSlotUnit { s.slotUnit with
    slots := mapSlots (fun i r => if s.mode.live then s.settleSlot starts i r else { r with settle := none })
      s.slotUnit.slots
    gate := if s.mode.live then s.nextGateTimeout starts period else none }

end Sys2Proof.Machine
end

