-- ==== Sys2Proof/Machine/Crank.lean ====
section
/-! DEFINITION. The crank sequencer (section 3.5), apart from the commands and expiries that drive it. -/

namespace Sys2Proof.Machine

/-- R54, R59: the station is named in the crank station field of its own replica. -/
def State.namedCrank (s : State) : Bool :=
  match s.replica with
  | some r => r.phase.crankStation == some s.self
  | none => false

def State.phaseRecord (s : State) : Option PhaseRecord := s.replica.map (·.phase)

/-- A PHASE notice of the sequencer, with the replica's phase record. -/
def State.postPhase (s : State) (cause : PhaseCause) : State := s.post (.phase cause s.phaseRecord)

/-- The sequencer's own CRANK_PENDING and CRANK frames. -/
def Queued.isCrankFrame (q : Queued) : Bool := q.isPhase .crankPending || q.isPhase .crank

/-- R54: the sequencer becomes IDLE, its timers stop, the extension count is 0 and the hold is released, which may let
SHED# rise. -/
def State.toIdle (s : State) : State := (s.setCrank .reset).edgeFrom s.shedHigh

/-- R61: a crank is under way. -/
def CrankState.underWay : CrankState → Bool
  | .settling | .cranking => true
  | _ => false

/-- R61: the phases a sequencer state expects. -/
def CrankState.expects : CrankState → Phase → Bool
  | .settling, .stop | .settling, .crankPending => true
  | .cranking, .crankPending | .cranking, .crank => true
  | _, _ => false

/-- R61: a crank is abandoned; a sequencer that is IDLE or in LOCKOUT is not touched. -/
def State.abandon (s : State) : State :=
  if s.crank.state.underWay then ((s.withdrawUrgent Queued.isCrankFrame).toIdle).postPhase .abandoned else s

/-- R61: the replica or the station has moved away from the crank. -/
def State.strayed (s : State) : Bool :=
  s.mode == .isolated || s.mode == .offline || !s.namedCrank || match s.phaseRecord with
    | some p => !s.crank.state.expects p.phase
    | none => true

def State.checkAbandon (s : State) : State := if s.strayed then s.abandon else s

/-- R60: LOCKOUT is entered: the hold is released and the lockout timer starts. -/
def State.startLockout (s : State) : State :=
  let idle := s.toIdle
  (idle.setCrank { idle.crank with
    state := .lockout
    lockout := some (s.now + 1000 * s.config.general.crankLockout) }).postPhase .lockoutStarted

/-- The PHASE frame for STOP with attempts 0 that closes a lockout. -/
def closingStop : Body := phaseBody .stop 0

/-- R60: that frame stands in the urgent lane, in transmission or not, or waits in the inbound queue. -/
def State.closingUnderWay (s : State) : Bool :=
  s.inUrgent (fun q => q == .fixed closingStop)
    || s.link.inbound.any fun f => f.sender == s.self && f.body == closingStop

/-- R60, the second case of entering LOCKOUT. -/
def State.checkLockout (s : State) : State :=
  if s.crank.state == .idle && s.mode == .member && s.namedCrank && !s.closingUnderWay && (match s.phaseRecord with
      | some p => p.phase == .stop && p.attempts == 3
      | none => false) then
    s.startLockout
  else s

/-- R58: the CRANK_GO notice. -/
def State.postGo (s : State) (r : Replica) : State :=
  let posted := s.post (.crankGo r.lowStuck)
  posted.setCrank { posted.crank with goPosted := true }

/-- R56: the settle timer starts for the configured settle period. -/
def State.startSettle (s : State) : State :=
  s.setCrank { s.crank with settle := some (s.now + s.config.general.crankSettle) }

/-- R56, R58: what a snapshot load does for a crank under way. -/
def State.crankLoaded (s : State) : State :=
  match s.replica with
  | some r =>
    if r.phase.phase == .crankPending && s.crank.state == .settling && s.crank.settle.isNone then s.startSettle
    else if r.phase.phase == .crank && s.crank.state == .cranking && !s.crank.goPosted then s.postGo r
    else s
  | none => s

end Sys2Proof.Machine
end

