-- ==== Sys2Proof/Machine/Station.lean ====
section
/-! DEFINITION. Station-state changes, the sync sequence, the JOIN a station builds, the snapshot load and the adoption
of the start replica (chapter 5; R112). -/

namespace Sys2Proof.Machine

/-! Sync sequence and JOIN. -/

/-- R94: the SYNC_REQUEST carries the station's own epoch, or 0 where it holds no replica. -/
def State.requestSync (s : State) : State := s.autoGeneral (.fixed (.syncRequest (s.epoch.getD 0)))

/-- R94: a sync sequence starts. -/
def State.startSync (s : State) : State :=
  let asked := s.requestSync
  asked.setStation { asked.station with syncCount := 1, syncTimer := some (s.now + Config.syncPeriod) }

/-- R112: the capability a JOIN carries for a slot part. -/
def SlotPart.capability (p : SlotPart) : Capability :=
  if p.used then { used := true, cls := p.cls, maxAmps := p.maxAmps, settle := p.settle } else .unused

def State.capabilityField (s : State) (i : SlotNo) : CapabilityField := (s.part i).capability.field

/-- R112: a slot that gives the JOIN an entry. -/
def LocalState.claiming : LocalState → Bool
  | .free | .sending | .releasing => false
  | _ => true

/-- R112: the entry of one slot. -/
def State.joinEntry (s : State) (i : SlotNo) : Option EntryField :=
  let r := s.slot i
  if r.state.claiming then
    r.values.map fun v =>
      { slot := i, cls := BitVec.ofNat 3 v.cls.code, wasOn := r.enable, requested := byteOf v.requested,
        minimum := byteOf (v.minimum.getD 0) }
  else none

/-- R112: the JOIN as the station would build it now. -/
def State.joinBody (s : State) : Body :=
  .join (byteOf s.straps.role.code) (s.capabilityField 0) (s.capabilityField 1) (s.capabilityField 2)
    (s.capabilityField 3) (allSlots.filterMap s.joinEntry)

/-- R100: a JOIN is queued unless one of the station's own is in the general lane. -/
def State.queueJoin (s : State) (join : Body) : State :=
  if s.inGeneral Queued.isJoin then s else s.autoGeneral (.fixed join)

/-! Membership timers (R104, R105, R110). -/

/-- The sixteen records, each changed by its own function. -/
def mapPeers (f : Station → PeerRecord → PeerRecord) (v : Vector PeerRecord 16) : Vector PeerRecord 16 :=
  ⟨⟨allStations.map fun n => f n v[n.val]⟩, by simp [allStations]⟩

def State.mapRecords (s : State) (f : Station → PeerRecord → PeerRecord) : State :=
  s.setMembers { s.members with peers := mapPeers f s.members.peers }

/-- R104: both timers of every record stop. -/
def State.stopMemberTimers (s : State) : State :=
  s.mapRecords fun _ p => { p with silence := none, orphanHold := none }

/-- R110: the orphan hold of this station's own configuration, in ms. -/
def State.orphanPeriod (s : State) : Nat := 1000 * s.config.general.orphanHold

/-- R110: whether the orphan-hold timer for a station runs on this replica. -/
def State.orphanWatched (s : State) (r : Replica) (n : Station) : Bool :=
  n != s.self && !r.isPresent n && r.hasReclaimable n && s.mode.watching

/-- R105: whether the silence timer for a station runs on this replica. -/
def State.silenceWatched (s : State) (r : Replica) (n : Station) : Bool :=
  n != s.self && r.isPresent n && s.mode.watching

/-- R105, R110: the timers of every record at the end of a load. -/
def State.membersLoaded (s : State) (r : Replica) : State :=
  s.mapRecords fun n p =>
    { p with
      silence := if s.silenceWatched r n then some (s.now + Config.silencePeriod) else none
      orphanHold := if s.orphanWatched r n then some (s.now + s.orphanPeriod) else none }

/-! Entering a state. -/

def SyncCause.offline : SyncCause → Option OfflineCause
  | .leaveApplied => some .leave
  | .duplicateStation => some .duplicate
  | _ => none

def SyncCause.isolation : SyncCause → Option IsolationCause
  | .readback => some .readback
  | .silence => some .silence
  | _ => none

/-- R101: entry into ENTERING, MEMBER or TAINTED from the other states. -/
def freshEntry (old new : StationState) : Bool := new.beating && !old.beating

/-- The station unit after the change: R94 (the sequence ends outside JOINING and TAINTED), R101, R119, and conditions
4 and 5 of R123. -/
def StationUnit.entered (u : StationUnit) (now : Nat) (new : StationState) (cause : SyncCause) : StationUnit :=
  { state := new
    offline := if new = .offline then cause.offline else none
    isolation := if new = .isolated then cause.isolation else none
    syncCount := 0
    syncTimer := none
    liveSince := if freshEntry u.state new then now else u.liveSince
    wasIsolated := match new with
      | .isolated => true
      | .member => false
      | _ => u.wasIsolated
    wasMember := match new with
      | .member => true
      | .joining => false
      | _ => u.wasMember }

/-- R83, R84: the heartbeat and the probe after the change. -/
def LinkUnit.entered (l : LinkUnit) (now : Nat) (old new : StationState) : LinkUnit :=
  { l with
    heartbeat := if new.beating then (if old.beating then l.heartbeat else some (now + Config.heartbeatPeriod)) else none
    probeDue := new == .isolated
    probeTimer := none }

/-- The change of station state itself. -/
def State.shift (s : State) (new : StationState) (cause : SyncCause) : State :=
  (s.setStation (s.station.entered s.now new cause)).setLink (s.link.entered s.now s.mode new)

/-- R87 steps 1 and 2: the SYNC notice and the SYNC entry of a change. -/
def State.announce (s : State) (old new : StationState) (cause : SyncCause) : State :=
  (s.post (.sync old new cause)).record (.sync s.self old new cause)

/-- R87: the change itself, its SYNC notice and its SYNC entry. -/
def State.moveTo (s : State) (new : StationState) (cause : SyncCause) : State :=
  (s.shift new cause).announce s.mode new cause

/-- R87 step 3: the frames the new state does not take leave the inbound queue. -/
def State.dropInbound (s : State) : State :=
  s.setLink { s.link with inbound := s.link.inbound.filter (admits s.mode s.self) }

/-- R135: the carry of one slot ends at entry into MEMBER. -/
def State.endCarry (s : State) (i : SlotNo) : State :=
  if (s.slot i).state == .carried then
    (s.putSlot i { (s.slot i).mirror (s.mirrored i) with wasOn := false }).postCause i .carryEnded
  else s

/-- R135: a CARRIED slot becomes FREE at entry into OFFLINE. -/
def State.dropCarry (s : State) (i : SlotNo) : State :=
  if (s.slot i).state == .carried then
    (s.putSlot i { (s.slot i).freed with wasOn := false }).postCause i .carryEnded
  else s

/-- R136, R119: this station's whole drive of SHED# is released. -/
def State.endDrive (s : State) : State :=
  (((s.setW0 { s.w0 with pulse := none }).setW1 { s.w1 with pulse := none }).setCrank
    { s.crank with hold := false }).edgeFrom s.shedHigh

/-- R72: both lanes are emptied and a frame in transmission is cut off. -/
def State.emptyLanes (s : State) : State :=
  s.setLink { s.link with urgent := [], general := [], tx := none }

/-- R120: the latch-limit timer and the gate timeout stop. -/
def State.stopSlotTimers (s : State) : State := s.setSlotUnit { s.slotUnit with latchLimit := none, gate := none }

/-- R72, R119, R120, R136: in OFFLINE the station sends nothing, drives nothing, and runs no timer of the slot unit. -/
def State.silenceOffline (s : State) : State :=
  if s.mode == .offline then s.emptyLanes.endDrive.stopSlotTimers else s

/-- What each state does at its entry: R94 and R104 (JOINING), R135 (MEMBER), R93 (TAINTED), R101 (ISOLATED), R61, R104
and R135 (OFFLINE, whose lanes and drive `State.silenceOffline` ends). Several carries end in slot order, the lowest slot
first (DESIGN CHOICE, unsafe: log entry 64). -/
def State.onEntry (s : State) : State :=
  match s.mode with
  | .joining => s.stopMemberTimers.startSync
  | .member => allSlots.foldl State.endCarry s
  | .tainted => (s.withdrawGeneral Queued.isSnapshot).startSync
  | .isolated => s.checkAbandon
  | .offline => allSlots.foldl State.dropCarry s.stopMemberTimers.abandon
  | _ => s

/-- R87: a change of state whose notice and entry an application has made already: the frames the new state does not
take are discarded, and the entry follows. What ends a station's drive in OFFLINE stands behind the evaluation of the
application (`State.evaluatedAtChange`). -/
def State.enterAnnounced (s : State) (new : StationState) (cause : SyncCause) : State :=
  ((s.shift new cause).dropInbound).onEntry

/-- R118: the station's own completed LEAVE waits in its inbound queue. -/
def State.ownLeaveWaits (s : State) : Bool := s.link.inbound.any fun f => f.sender == s.self && f.body == .leave

/-- R87: one change of state, with its entry. -/
def State.enterOnce (s : State) (new : StationState) (cause : SyncCause) : State :=
  (((s.moveTo new cause).dropInbound).onEntry).silenceOffline

/-- R87, R118: a change of state; one that discards the station's own completed LEAVE ends in OFFLINE. -/
def State.enter (s : State) (new : StationState) (cause : SyncCause) : State :=
  let t := s.enterOnce new cause
  if s.ownLeaveWaits && !t.ownLeaveWaits && new != .offline then t.enterOnce .offline .leaveApplied else t

/-- R122, R129: what the slot unit tests at an entry, an application's end and a load's end. Where one event queues several
frames, the RELEASEs come first and then the STUCK_CLEARs, each in slot order, the lowest slot first, and so do the
OUTBOUND_FULL captures of those that meet a full lane (DESIGN CHOICE, unsafe: log entry 65). -/
def State.slotTests (s : State) : State := s.releasesAgain.testStuckClears

/-- A change of state outside an application and a load: the tests of the slot unit, and of R60 at entry into MEMBER,
follow at once. -/
def State.changeState (s : State) (new : StationState) (cause : SyncCause) : State := (s.enter new cause).slotTests.checkLockout

/-! Loads. -/

/-- R121: one slot at a load. A notice is posted where the local state or the claim values change. -/
def State.loadSlot (s : State) (i : SlotNo) : State :=
  let old := s.slot i
  let claim := s.mirrored i
  match old.state with
  | .carried => s
  | .sending =>
    if s.inGeneral (Queued.isClaim i) then s
    else (s.putSlot i (old.mirror claim)).postCause i (if claim.isSome then .loaded else .lost)
  | .releasing =>
    if s.inGeneral (Queued.isRelease i) then s
    else match claim with
      | some c => if c.state = .orphaned then (s.putSlot i old.freed).postCause i .loaded else s
      | none => (s.putSlot i old.freed).postCause i .loaded
  | _ =>
    let new := old.mirror claim
    let placed := s.putSlot i new
    if new.state = old.state ∧ new.values = old.values then placed else placed.postCause i .loaded

/-- R121: the slots at a load, in slot order, the lowest first, which is the order of their LOADED and LOST notices
(DESIGN CHOICE, unsafe: log entry 64). -/
def State.loadSlots (s : State) : State := allSlots.foldl State.loadSlot s

/-- R133: the gate timeout's period for a key, ms: with the owner absent in the roster, 500 ms stand for the settle
time. -/
def Replica.timeoutPeriod (r : Replica) (k : Key) : Nat :=
  (if r.isPresent k.station then r.settleTime k else Config.absentOwnerSettle) + Config.gateMargin

/-- R125: a load clears the latches; if SHED# is low at the end of the load, where an abandonment of the crank may have
released the hold, the slot unit takes the load as a falling edge. -/
def State.latchesLoaded (s : State) : State :=
  let cleared := s.clearLatches
  if cleared.shedHigh then cleared else cleared.latchSlots

/-- R132, R133: the gate timers at the end of a load. -/
def State.gateLoaded (s : State) (r : Replica) : State :=
  s.gateTimers r.gate (match r.gate with
    | some k => r.timeoutPeriod k
    | none => 0)

/-- R98: a station takes its new state after a load or an adoption; in ENTERING it queues its JOIN, built before the
slot unit took the load (R112). -/
def State.enterLoaded (s : State) (present : Bool) (cause : SyncCause) (join : Body) : State :=
  if s.mode == .tainted && present then s.enter .member cause
  else (s.enter .entering cause).queueJoin join

/-- R123, condition 4: a load and an adoption end the memory of isolation. -/
def State.forgetIsolation (s : State) : State := s.setStation { s.station with wasIsolated := false }

/-- R98: the load of replica r by a JOINING or TAINTED station. -/
def State.loadReplica (s : State) (r : Replica) : State :=
  let taken := ((s.setReplica (some r)).forgetIsolation).enterLoaded (r.isPresent s.self) .snapshotLoaded s.joinBody
  let slots := taken.loadSlots.gateLoaded r
  (((slots.membersLoaded r).checkAbandon.crankLoaded).checkLockout).latchesLoaded

/-- R98, R172: a snapshot addressed to a JOINING or TAINTED station is loaded, or handled as a bad check. -/
def State.loadSnapshot (s : State) (imageEpoch : Half) (image : List Byte) (f : Frame) : State :=
  match Replica.ofImage imageEpoch image f.epoch f.digest with
  | some r => s.loadReplica r
  | none => s.badCheck

/-- R43: the start phase record. -/
def PhaseRecord.start : PhaseRecord :=
  { phase := .stop, attempts := 0, brownout := false, announced := false, ceiling := Config.startCeiling,
    reserve := Config.startReserve, crankStation := none, supplyStation := none }

/-- R99: the start replica without its digest. -/
def Replica.blank : Replica :=
  { claims := [], arrival := 0, phase := .start, gate := none, roster := .replicate 16 .absent, epoch := 0, digest := 0 }

/-- R99: the start replica. -/
def Replica.start : Replica := { Replica.blank with digest := Replica.blank.computeDigest }

/-- R95, R99: a JOINING station adopts the start replica. -/
def State.adoptStart (s : State) : State :=
  (((s.setReplica (some .start)).forgetIsolation).enterLoaded false .startAdopted s.joinBody).loadSlots

end Sys2Proof.Machine
end

