-- ==== Sys2Proof/Machine/Applications.lean ====
section
/-! DEFINITION. One application of the frame at the head of the inbound queue (R80): the comparison, the frame's own
effect with its epilogue, and what every other block takes from it. The rows' meanings stand in
Machine/FrameRows.lean. -/

namespace Sys2Proof.Machine

/-! Step 1: the comparison. -/

/-- R89, R90: what the comparison of a frame comes to. -/
inductive Verdict where
  | agree | yields | differs
  deriving DecidableEq, Repr

/-- R90: whether a receiver in disagreement yields; d is the sender's epoch minus its own. -/
def yieldRule (self sender : Station) (d : Nat) : Bool :=
  if d = 0 ∨ d = 32768 then decide (sender < self) else decide (d < 32768)

/-- R89, R90: the comparison of a frame with replica r. -/
def Frame.verdict (f : Frame) (mode : StationState) (self : Station) (r : Replica) : Verdict :=
  if f.sync = .member ∧ (mode = .entering ∨ mode = .member) then
    if f.epoch = r.epoch ∧ f.digest = r.digest then .agree
    else if yieldRule self f.sender (f.epoch - r.epoch).toNat then .yields else .differs
  else .agree

def State.verdict (s : State) (f : Frame) : Verdict :=
  match s.replica with
  | some r => f.verdict s.mode s.self r
  | none => .agree

/-- One record of the membership unit, changed. -/
def State.changePeer (s : State) (n : Station) (f : PeerRecord → PeerRecord) : State :=
  s.mapRecords fun m p => if m = n then f p else p

/-- R92: the disagreement counter of the sender rises. -/
def State.raiseDisagree (s : State) (n : Station) : State :=
  s.changePeer n fun p => { p with disagree := Nat.min 255 (p.disagree + 1) }

/-! The end of an application. -/

/-- The slots follow the application, and the history entries behind the n it found take the order of R152. -/
def State.tidy (s : State) (n : Nat) : State :=
  let t := s.refreshSlots
  t.setHistory (t.history.arrange n)

/-- The end of an application or a load: the tests of R122 and R129, the slots, and the order of R152. -/
def State.settleDown (s : State) (n : Nat) : State := s.slotTests.tidy n

/-- R137: what an application offers the watch units. -/
def applicationOffer (f : Frame) (r : Option Replica) (phase : Option Phase) : WatchSource → Option EvalValue
  | .headroom => r.map fun r => .headroom r.headroom
  | .frame => some (.frame f.body.kind f.sender)
  | .phase => phase.map .phase
  | _ => none

/-- R137: the watch units evaluate an application that has reached this state. -/
def State.offerApplication (s : State) (f : Frame) (phase : Option Phase) : State :=
  s.watchEvent (applicationOffer f s.replica phase)

/-- R152: an application's end, with its captures and their entries, ahead of the watch units. -/
def State.ended (s : State) (n : Nat) : State := (s.checkAbandon.checkLockout).settleDown n

/-- R80 step 3, R152: an application that causes no change of station state ends; then the watch units evaluate it. -/
def State.evaluated (s : State) (n : Nat) (f : Frame) (phase : Option Phase) : State :=
  (s.ended n).offerApplication f phase

/-- R87, R136, R137, R143: the watch units evaluate an application as in the station state that took the frame. -/
def State.offerApplicationIn (s : State) (taken : StationState) (f : Frame) (phase : Option Phase) : State :=
  ((s.setStation { s.station with state := taken }).offerApplication f phase).setStation s.station

/-- R80 step 3, R87, R137, R152: an application that causes a change of station state. Its entries, those of the captures
that the new state's entry makes among them, are written before the watch units evaluate it; they do so as in the state
that took the frame; and a pulse or a SHED_REQUEST that the evaluation of an own LEAVE gives ends at once (log entry
14). -/
def State.evaluatedAtChange (s : State) (n : Nat) (f : Frame) (phase : Option Phase) (new : StationState)
    (cause : SyncCause) : State :=
  (((s.enterAnnounced new cause).ended n).offerApplicationIn s.mode f phase).silenceOffline

/-- R91: the station yields at the frame; a SNAPSHOT addressed to it is loaded at once, as a TAINTED station loads. A
station that the discard of its own completed LEAVE has taken to OFFLINE (R118) loads nothing (log entry 21). -/
def State.yieldTo (s : State) (n : Nat) (f : Frame) : State :=
  let tainted := (s.capture .digestYield (.station f.sender) (some f.body.kind)).enter .tainted .digestYield
  let loaded := match f.body with
    | .snapshot requester epoch image =>
      if requester = byteOf s.self.val && tainted.mode == StationState.tainted then tainted.loadSnapshot epoch image f
      else tainted
    | _ => tainted
  loaded.settleDown n

/-- R80: the comparison of step 1, then steps 2 and 3 where the station does not yield. -/
def State.applyFrame (s : State) (f : Frame) (steps : State → Nat → State) : State :=
  let n := s.history.entries.length
  match s.verdict f with
  | .agree => steps s n
  | .differs => steps (s.raiseDisagree f.sender) n
  | .yields => s.yieldTo n f

/-- R80: the frame at the head of the inbound queue, if it is of this kind, is applied and leaves the queue (log entry
2). -/
def State.applyHead (s : State) (kind : FrameKind) (act : Frame → State → State) : State :=
  match s.link.inbound with
  | f :: rest => if f.body.kind = kind then (act f (s.setLink { s.link with inbound := rest })).conclude else s
  | [] => s

/-! Step 2: a table-changing frame on the replica. -/

/-- What one application made of a replica. -/
structure Applied where
  before : Replica
  own : OwnEffect
  /-- the transitions of the epilogue -/
  log : List Transition
  admitted : Option Key
  after : Replica
  deriving DecidableEq, Repr

/-- R81, R24, R88: the epoch advances, the own effect is made, the epilogue follows and the digest is recomputed. -/
def Replica.apply (r : Replica) (effect : Replica → OwnEffect) : Applied :=
  let own := effect { r with epoch := r.epoch + 1 }
  let tail := epilogue own.rep
  { before := r
    own := own
    log := tail.1.log
    admitted := tail.2
    after := { tail.1.rep with digest := tail.1.rep.computeDigest } }

/-- R64: the frame explains a falling edge: an un-ignored SHED_REQUEST, or a PHASE that enters CRANK_PENDING. -/
def Applied.explains (a : Applied) (f : Frame) : Bool :=
  a.own.ignored.isNone && match f.body with
    | .shedRequest _ _ => true
    | .phase _ _ => a.own.rep.phase.phase == .crankPending
    | _ => false

/-! Step 3: the blocks that take the outcome. -/

/-- R125: the latches are cleared and an own SHED_REQUEST that asked for an explanation is withdrawn. -/
def State.explained (s : State) : State := s.clearLatches.withdrawUrgent (Queued.isShedRequest (some causeLine))

/-- R21: the CLAIM_STATE entries. -/
def State.recordTransitions (s : State) (ts : List Transition) : State :=
  ts.foldl (fun s t => s.record (.claimState t.key t.before t.after t.held)) s

/-- R21: the slot unit takes transitions of the station's own claims. -/
def State.takeTransitions (s : State) (ts : List Transition) : State := ts.foldl (fun s t => s.ownTransition .applied t) s

/-- The record that a frame's own effect, before the epilogue, leaves for one of the station's own slots. -/
def State.ownEffectClaim (s : State) (i : SlotNo) (a : Applied) : Option Claim := a.own.rep.find (s.ownKey i)

/-- R15: the slot of the station's own CLAIM that was ignored. On DUPLICATE_KEY a SENDING slot takes the mirror of the
existing record, a record new to it, so that its hold time is 0 (log entry 53); on any other cause it is FREE. A slot in
another state stays. -/
def State.claimIgnored (s : State) (i : SlotNo) (a : Applied) (cause : IgnoreCause) : State :=
  if (s.slot i).state = .sending then
    s.putSlot i ((s.slot i).mirror (if cause = .duplicateKey then s.ownEffectClaim i a else none))
  else s

/-- R15: the outcome of the station's own CLAIM. A record created: one notice, with the state after the epilogue (log
entry 10). The CLAIM ignored: its notice, and then those of the epilogue's changes to a record that stood there before
(R21, R30, R34). The held amount stands where R15 names it: of a record created, and on DUPLICATE_KEY (log entry 35). -/
def State.ownClaimOutcome (s : State) (i : SlotNo) (a : Applied) : State :=
  match a.own.ignored with
  | none =>
    let moved := if (s.slot i).state = .releasing ∨ (s.slot i).state = .carried then s else s.mirrorSlot i
    (moved.postSlot i ((s.ownClaim i).map (·.held)) .applied).takeTransitions (a.log.filter fun t => !(t.key == s.ownKey i))
  | some cause =>
    let moved := s.claimIgnored i a cause
    let held := if cause = .duplicateKey then (s.ownEffectClaim i a).map (·.held) else none
    (moved.postSlot i held (.ignored cause)).takeTransitions a.log

/-- R16, R17: the outcome of the station's own RELEASE (log entry 12); the removal shows held 0 (log entry 58). -/
def State.ownReleaseOutcome (s : State) (i : SlotNo) (a : Applied) : State :=
  let waits := (s.slot i).state == .releasing
  let told := match a.own.ignored with
    | some .stuckHeld => s.post (.slot i (some .stuck) none (.ignored .stuckHeld))
    | some c =>
      if waits then (s.putSlot i (s.slot i).freed).postSlot i none (.ignored c) else s.postSlot i none (.ignored c)
    | none =>
      if waits then (s.putSlot i (s.slot i).freed).postSlot i (some 0) .applied else s.takeTransitions a.own.log
  told.takeTransitions a.log

/-- R39: the outcome of a SETTLED for one of the station's own claims. A SETTLED for a key of the station's own with no
record left in the table is reported too, as IGNORED with NOT_HOLDER, which R39 leaves open (DESIGN CHOICE, unsafe: log
entry 61). -/
def State.ownSettledOutcome (s : State) (i : SlotNo) (byOwner : Bool) (a : Applied) : State :=
  let cause := match a.own.ignored with
    | some c => .ignored c
    | none => .gateOpened byOwner
  (s.postCause i cause).takeTransitions a.log

/-- R128 and log entry 13: the outcome of the station's own SHED_FAULT or STUCK_CLEAR. -/
def State.ownStuckOutcome (s : State) (i : SlotNo) (a : Applied) : State :=
  let told := match a.own.ignored with
    | some c => s.postCause i (.ignored c)
    | none => s.takeTransitions a.own.log
  told.takeTransitions a.log

/-- R116: what the station's own JOIN made of one slot; the slot mirrors the record of the own effect. One notice for
each slot, with its outcome: also where a record is removed and a new one entered in its place, two changes of R21 (log
entry 57). -/
def State.ownJoinSlot (a : Applied) (s : State) (x : SlotNo × JoinOutcome) : State :=
  let r := s.slot x.1
  let moved := if r.state.apart || !(s.part x.1).used then s else s.putSlot x.1 (r.mirror (s.ownEffectClaim x.1 a))
  moved.postCause x.1 (.join x.2)

def State.ownJoinOutcome (s : State) (a : Applied) : State :=
  (a.own.outcomes.foldl (State.ownJoinSlot a) s).takeTransitions a.log

/-- R15 to R17, R21, R39, R116, R128: what the slot unit takes from an application. -/
def State.slotOutcomes (s : State) (f : Frame) (a : Applied) : State :=
  let every := s.takeTransitions (a.own.log ++ a.log)
  match f.body with
  | .claim i _ _ _ => if f.sender = s.self then s.ownClaimOutcome i a else every
  | .release b => match slotOf b with
    | some i => if f.sender = s.self then s.ownReleaseOutcome i a else every
    | none => every
  | .settled k byOwner => if k.station = s.self then s.ownSettledOutcome k.slot byOwner a else every
  | .shedFault b | .stuckClear b => match slotOf b with
    | some i => if f.sender = s.self then s.ownStuckOutcome i a else every
    | none => every
  | .join _ _ _ _ _ _ => if f.sender = s.self then s.ownJoinOutcome a else every
  | _ => every

/-- R100, R109, R118: the change of station state that an application causes. -/
def State.changeCaused (s : State) (f : Frame) (a : Applied) : Option (StationState × SyncCause) :=
  match f.body with
  | .join _ _ _ _ _ _ =>
    if f.sender = s.self ∧ s.mode = .entering ∧ a.after.isPresent s.self = true then some (.member, .joinApplied)
    else none
  | .leave => if f.sender = s.self then some (.offline, .leaveApplied) else none
  | .absence b =>
    if a.own.ignored = none ∧ b = byteOf s.self.val ∧ s.mode = .member then some (.entering, .selfAbsent) else none
  | _ => none

/-- R100, R109: the application queues the station's JOIN: its own JOIN that leaves it absent, or an ABSENCE about
itself. -/
def State.rejoins (s : State) (f : Frame) (a : Applied) : Bool :=
  match f.body with
  | .join _ _ _ _ _ _ => f.sender == s.self && s.mode == .entering && !a.after.isPresent s.self
  | .absence b =>
    a.own.ignored.isNone && b == byteOf s.self.val && (s.mode == .member || s.mode == .entering)
  | _ => false

/-- R87, R100, R109, R152: the SYNC notice and the SYNC entry of the change of station state that the application causes,
and the JOIN it queues (log entry 14). `join` is the JOIN as it stood before the slot unit took the application (R112). -/
def State.stateOutcome (s : State) (f : Frame) (a : Applied) (join : Body) : State :=
  let told := match s.changeCaused f a with
    | some (new, cause) => s.announce s.mode new cause
    | none => s
  if s.rejoins f a then told.queueJoin join else told

def rosterCause : Body → RosterCause
  | .join _ _ _ _ _ _ => .join
  | .absence _ => .absence
  | _ => .leave

/-- R116: the notice and the entry of one roster entry. -/
def State.rosterOutcome (f : Frame) (a : Applied) (s : State) (n : Station) : State :=
  let old := a.before.entry n
  let new := a.after.entry n
  let noticed := if old.present != new.present || old.role != new.role then
      s.post (.roster n new.present new.role a.own.requestedRole (rosterCause f.body)) else s
  if old.present != new.present then noticed.record (.roster n old.present new.present new.role) else noticed

/-- R48: the fields whose change posts a PHASE notice are as they were. -/
def PhaseRecord.sameReport (p q : PhaseRecord) : Bool :=
  p.phase == q.phase && p.attempts == q.attempts && p.brownout == q.brownout && p.ceiling == q.ceiling
    && p.reserve == q.reserve && p.announced == q.announced

/-- R48: the PHASE notice and the PHASE entries of an application. Where it changes more than one of the three fields the
entries stand in the order S, phase, brownout, in which R46, R49 and R50 make their changes; R48 and R152 name none
(DESIGN CHOICE, unsafe: log entry 62). -/
def State.phaseOutcome (s : State) (a : Applied) : State :=
  let p := a.before.phase
  let q := a.after.phase
  let noticed := if p.sameReport q then s else s.post (.phase a.own.phaseCause (some q))
  let limited := if p.ceiling = q.ceiling then noticed else noticed.record (.ceiling p.ceiling q.ceiling)
  let phased := if p.phase = q.phase then limited else limited.record (.phase p.phase q.phase)
  if p.brownout = q.brownout then phased else phased.record (.brownout p.brownout q.brownout)

/-- R114: the refused parts of the station's own role. -/
def State.rolesRefused (s : State) (f : Frame) (a : Applied) : State :=
  if f.sender = s.self then a.own.refused.foldl (fun s n => s.capture .roleRefused (.station n) none) s else s

/-- R104, R105, R110: the record of one peer at the end of an application. -/
def State.peerOutcome (s : State) (a : Applied) (n : Station) (p : PeerRecord) : PeerRecord :=
  let gone := a.before.isPresent n && !a.after.isPresent n
  let came := !a.before.isPresent n && a.after.isPresent n
  { p with
    silence :=
      if s.silenceWatched a.after n then
        if came then some (p.lastValid.getD s.now + Config.silencePeriod) else p.silence
      else none
    orphanHold :=
      if s.orphanWatched a.after n then
        match p.orphanHold with
        | some d => some d
        | none => some (s.now + s.orphanPeriod)
      else none
    disagree := if gone then 0 else p.disagree
    presence := if gone then none else p.presence }

def State.memberOutcome (s : State) (a : Applied) : State := s.mapRecords (s.peerOutcome a)

/-- R56, R58, R61: what the sequencer takes from the station's own PHASE frame. The settle timer starts at the
CRANK_PENDING of the request, whose clean completion has begun the hold; an earlier one starts none (log entry 19). -/
def State.crankOutcome (s : State) (f : Frame) (a : Applied) : State :=
  match f.body with
  | .phase code _ =>
    if f.sender = s.self then
      match Phase.ofCode code.toNat, a.own.ignored with
      | some .crankPending, some _ | some .crank, some _ => s.abandon
      | some .crankPending, none => if s.crank.state = .settling ∧ s.crank.hold = true then s.startSettle else s
      | some .crank, none => s.postGo a.after
      | _, _ => s
    else s
  | _ => s

/-- The slot of the station's own that its own JOIN resumed while it holds the gate (R132). -/
def Applied.resumedHolder (a : Applied) (f : Frame) : Option Key :=
  match a.after.gate with
  | some k => if k.station = f.sender ∧ a.own.outcomes.contains (k.slot, .resumed) = true then some k else none
  | none => none

/-- R132, R133: the gate timers at the end of an application. -/
def State.gateOutcome (s : State) (f : Frame) (a : Applied) : State :=
  match a.admitted with
  | some k => s.gateTimers (some k) (a.after.settleTime k + Config.gateMargin)
  | none => match f.body with
    | .join _ _ _ _ _ _ => s.gateTimers (if f.sender = s.self then a.resumedHolder f else none) 0
    | .absence b => match a.after.gate with
      | some k =>
        if a.own.ignored = none ∧ b = byteOf k.station.val ∧ s.slotUnit.gate.map (·.key) ≠ some k ∧ k.station ≠ s.self then
          s.gateTimers (some k) (a.before.settleTime k + Config.gateMargin)
        else s.gateTimers none 0
      | none => s.gateTimers none 0
    | _ => s.gateTimers none 0

/-- The new phase, if the application changed the phase field (R137). -/
def Applied.newPhase (a : Applied) : Option Phase :=
  if a.before.phase.phase = a.after.phase.phase then none else some a.after.phase.phase

/-- R80 step 3: the blocks take the outcome of a table-changing frame, up to the watch units' evaluation. The order, the
sequencer's notices behind the PHASE and FAULT notices among it, is that of log entry 14. -/
def State.takeOutcome (s : State) (f : Frame) (a : Applied) : State :=
  let join := s.joinBody
  let replaced := s.setReplica (some a.after)
  let cleared := if a.explains f then replaced.explained else replaced
  let slots := (cleared.recordTransitions (a.own.log ++ a.log)).slotOutcomes f a
  let moved := slots.stateOutcome f a join
  let reported := (allStations.foldl (State.rosterOutcome f a) moved).phaseOutcome a
  ((reported.rolesRefused f a).memberOutcome a).crankOutcome f a

/-- R80: steps 2 and 3 of a table-changing frame. The gate timers follow the application at its end, when a carry that it
ends is over (R132, R133, R135). -/
def State.applyTable (s : State) (f : Frame) (effect : Frame → Replica → OwnEffect) (n : Nat) : State :=
  match s.replica with
  | some r =>
    let a := r.apply (effect f)
    let taken := s.takeOutcome f a
    let ended := match s.changeCaused f a with
      | some (new, cause) => taken.evaluatedAtChange n f a.newPhase new cause
      | none => taken.evaluated n f a.newPhase
    ended.gateOutcome f a
  | none => s

/-- R80: the application of the head frame, of a table-changing kind. -/
def State.tableFrame (s : State) (kind : FrameKind) (effect : Frame → Replica → OwnEffect) : State :=
  s.applyHead kind fun f t => t.applyFrame f fun u n => u.applyTable f effect n

/-! Frames that change no table. -/

/-- R82: the sender's station state and sample are recorded. -/
def State.takePresence (s : State) (f : Frame) : State :=
  match f.body with
  | .presence state sample => match StationState.ofCode state.toNat with
    | some st => s.changePeer f.sender fun p => { p with presence := some (st, sample) }
    | none => s
  | _ => s

/-- R96: a MEMBER answers a SYNC_REQUEST, and writes the SYNC entry; in ENTERING none is written (log entry 47). -/
def State.takeSyncRequest (s : State) (f : Frame) : State :=
  match f.body with
  | .syncRequest theirs =>
    if s.mode = .member then
      let entered := s.record (.syncRequest f.sender theirs (s.epoch.getD 0))
      if entered.inGeneral (fun q => q == .snapshot f.sender) then entered else entered.autoGeneral (.snapshot f.sender)
    else s
  | _ => s

/-- R97: the station's own answer to the same requester is withdrawn. -/
def State.takeSnapshot (s : State) (f : Frame) : State :=
  match f.body with
  | .snapshot requester _ _ => match stationOf requester with
    | some p => if p = s.self then s else s.withdrawGeneral fun q => q == .snapshot p
    | none => s
  | _ => s

/-- R80: the application of the head frame, of a kind that changes no table. -/
def State.plainFrame (s : State) (kind : FrameKind) (take : State → Frame → State) : State :=
  s.applyHead kind fun f t => t.applyFrame f fun u n => (take u f).evaluated n f none

/-- R98: a JOINING or TAINTED station loads; any other applies the frame. Where the image fails its checks the
application ends all the same, with the tests of R122 and R129 (log entry 59). -/
def State.snapshotFrame (s : State) : State :=
  s.applyHead .snapshot fun f t =>
    match t.mode, f.body with
    | .joining, .snapshot _ epoch image | .tainted, .snapshot _ epoch image =>
      (t.loadSnapshot epoch image f).settleDown t.history.entries.length
    | _, _ => t.applyFrame f fun u n => (u.takeSnapshot f).evaluated n f none

end Sys2Proof.Machine
end

