-- ==== Sys2Proof/Machine/Link.lean ====
section
/-! DEFINITION. The link controller's events (chapter 4): a start bit, lost contention, a failed readback, a clean
completion and the reception of a frame; isolation and its end (section 5.6); duplicates (section 6.7). -/

namespace Sys2Proof.Machine

/-! Transmission. -/

/-- R73, R83, R84: the payload of a queued frame, as it stands when its transmission begins. -/
def State.bodyOf (s : State) : Queued → Body
  | .presence => .presence (byteOf s.mode.code) s.pins.vsense
  | .snapshot requester => .snapshot (byteOf requester.val) (s.epoch.getD 0)
      (match s.replica with
       | some r => r.serialize
       | none => [])
  | .fixed body => body

/-- R69, R73: the frame with the header and trailer of this start bit. -/
def State.frameOf (s : State) (q : Queued) : Frame :=
  { sender := s.self
    sync := s.mode.sync
    epoch := s.epoch.getD 0
    digest := (s.replica.map (·.digest)).getD 0
    body := s.bodyOf q }

/-- R68, R84: the frame a station offers. -/
def State.offered (s : State) : Option (Source × Queued) :=
  if s.mode = .isolated then
    if s.link.probeDue then some (.probe, .presence) else none
  else match s.link.urgent, s.link.general with
    | q :: _, _ => some (.urgent, q)
    | [], q :: _ => some (.general, q)
    | [], [] => none

/-- R73: the conditions of readiness beside a frame to offer. -/
def State.clearToSend (s : State) : Bool := s.mode.live && s.link.inbound.isEmpty && s.link.tx.isNone

/-- R66, R68, R73: what a start bit does. -/
def State.takeStartBit (s : State) : State :=
  match s.clearToSend, s.offered with
  | true, some (source, q) => s.setLink { s.link with tx := some { source := source, frame := s.frameOf q } }
  | _, _ => s

/-- R67, R71: the frame is back at the head of its lane. -/
def State.endTransmission (s : State) : State := s.setLink { s.link with tx := none }

/-- R84: a probe has completed, cleanly or not. -/
def State.probeEnded (s : State) : State :=
  s.setLink { s.link with probeDue := false, probeTimer := some (s.now + Config.probePeriod) }

/-- R74, R76, R101: a readback has failed. -/
def State.failReadback (s : State) (t : Transmission) : State :=
  let stopped := s.endTransmission
  let probed := if t.source = .probe then stopped.probeEnded else stopped
  let counted := probed.setLink { probed.link with readback := Nat.min Config.readbackLimit (probed.link.readback + 1) }
  let captured := counted.capture .readback .none (some t.frame.body.kind)
  if captured.link.readback = Config.readbackLimit ∧ s.mode.beating = true then captured.changeState .isolated .readback
  else captured

/-! Isolation. -/

/-- R101, R102: 350 ms without a good frame while another station is present (log entry 24). -/
def State.silent (s : State) : Bool := s.othersPresent && decide (s.silenceDeadline ≤ s.now)

def State.setIsolation (s : State) (c : IsolationCause) : State := s.setStation { s.station with isolation := some c }

/-- R102: a clean completion of an own frame ends isolation by readback, unless silence holds. -/
def State.heardItself (s : State) : State :=
  if s.mode = .isolated ∧ s.station.isolation = some .readback then
    if s.silent then s.setIsolation .silence else s.changeState .tainted .linkRestored
  else s

/-- R102: a good frame of another station ends isolation by silence, unless the readback-failure count is 3. -/
def State.heardOther (s : State) : State :=
  if s.mode = .isolated ∧ s.station.isolation = some .silence then
    if s.link.readback = Config.readbackLimit then s.setIsolation .readback else s.changeState .tainted .linkRestored
  else s

/-! Completion. -/

/-- R75: the frame leaves its lane, the count becomes 0 and the heartbeat restarts. -/
def State.leaveLane (s : State) (t : Transmission) : State :=
  let done := s.setLink { s.link with
    urgent := if t.source = .urgent then s.link.urgent.tail else s.link.urgent
    general := if t.source = .general then s.link.general.tail else s.link.general
    tx := none
    readback := 0
    heartbeat := if s.mode.beating then some (s.now + Config.heartbeatPeriod) else s.link.heartbeat }
  if t.source = .probe then done.probeEnded else done

/-- A PHASE frame for this phase. -/
def Body.isPhase (p : Phase) : Body → Bool
  | .phase code _ => code == BitVec.ofNat 3 p.code
  | _ => false

/-- R56: the crank hold begins at the clean completion, while SETTLING, of the accepted request's own CRANK_PENDING: the
last in the urgent lane. One of an earlier, cancelled request has the request's behind it, and begins none (log entry
19). -/
def State.beginHold (s : State) (b : Body) : State :=
  if b.isPhase .crankPending && s.crank.state == .settling && !s.inUrgent (Queued.isPhase .crankPending) then
    (s.setCrank { s.crank with hold := true }).edgeFrom s.shedHigh
  else s

/-- R79: a frame joins the tail of the inbound queue. -/
def State.pushInbound (s : State) (f : Frame) : State := s.setLink { s.link with inbound := s.link.inbound ++ [f] }

def State.inboundRoom (s : State) : Bool := decide (s.link.inbound.length < Config.inboundCapacity)

/-- R75, R78: the station's own clean frame, where the state admits it. -/
def State.admitOwn (s : State) (f : Frame) : State :=
  if admits s.mode s.self f && s.inboundRoom then s.pushInbound f else s

/-- R75, R118: a clean completion; the station's own LEAVE that completes while it is TAINTED takes it OFFLINE (log entry
21). -/
def State.completeClean (s : State) (t : Transmission) : State :=
  let done := ((s.leaveLane t).beginHold t.frame.body).admitOwn t.frame
  if s.mode = .tainted ∧ t.frame.body = .leave then done.changeState .offline .leaveApplied else done.heardItself

/-! Changes that follow from an event outside the table engine (R87). -/

/-- R79, R101, R119: the change of station state that such an event causes. -/
def State.makeChange (s : State) : LateChange → State
  | .overrun => if s.mode = .member ∨ s.mode = .entering then s.changeState .tainted .overrun else s
  | .silence => if s.mode.beating then s.changeState .isolated .silence else s
  | .duplicate =>
    if s.mode = .offline then s.setStation { s.station with offline := some .duplicate }
    else s.changeState .offline .duplicateStation

/-- R80: an application is under way whenever a frame stands in the inbound queue (log entry 44). -/
def State.applying (s : State) : Bool := !s.link.inbound.isEmpty

/-- R87: a change that waits for the end of the application under way, once for each event. -/
def State.defer (s : State) (c : LateChange) : State :=
  if s.link.late.contains c then s else s.setLink { s.link with late := s.link.late ++ [c] }

/-- R87: the change takes effect at the event, or at the end of the application under way. -/
def State.changeOutside (s : State) (c : LateChange) : State := if s.applying then s.defer c else s.makeChange c

/-- R87: at the end of an application the changes that waited for it take effect, in the order of their events. -/
def State.makeLate (s : State) : State :=
  (s.link.late.foldl State.makeChange (s.setLink { s.link with late := [] })).conclude

/-! Reception. -/

/-- R78, R101, R104, R105: a good frame of another station is noted by the membership unit. -/
def State.hear (s : State) (n : Station) : State :=
  let noted := s.changePeer n fun p =>
    { p with lastValid := some s.now
             silence := p.silence.map fun _ => s.now + Config.silencePeriod }
  noted.setMembers { noted.members with lastGood := some s.now }

/-- R79, R87: a good frame that meets a full inbound queue. The fault is captured at once, with the epoch before the
advance of the application under way (R147; DEDUCED, unsafe: log entry 44); the queue holds 8 frames, so the change to
TAINTED waits for the application of its head. -/
def State.overrun (s : State) (f : Frame) : State :=
  if f.body.kind.tableChanging then
    (s.capture .inboundOverrun (.station f.sender) (some f.body.kind)).changeOutside .overrun
  else s

/-- R78, R79: admission of a good frame. -/
def State.takeFrame (s : State) (f : Frame) : State :=
  if admits s.mode s.self f then
    if s.inboundRoom then s.pushInbound f else s.overrun f
  else s

/-- R119, R87: duplicate-station detection; the fault is captured at once (its epoch: log entry 44). -/
def State.duplicate (s : State) (f : Frame) : State :=
  (s.capture .duplicateStation .none (some f.body.kind)).changeOutside .duplicate

/-- R77, R78: a frame that this station did not send completes. While its own frame is in transmission no other can (R73,
log entry 2); a part held in reset hears none (R167). -/
def State.receive (s : State) (w : WireFrame) : State :=
  if s.resetLow || s.link.tx.isSome then s
  else match goodFrame w with
    | none => s.badCheck
    | some f => if f.sender = s.self then s.duplicate f else ((s.hear f.sender).takeFrame f).heardOther

/-! The meanings. -/

/-- START_BIT (R66, R68, R73). -/
def execStartBit (s : State) : Host.Outcome State Fault Refusal := .next s.takeStartBit.conclude

/-- LOST_CONTENTION (R67). -/
def execLostContention (s : State) : Host.Outcome State Fault Refusal := .next s.endTransmission.conclude

/-- READBACK_FAILURE (R74). -/
def execReadbackFailure (s : State) : Host.Outcome State Fault Refusal :=
  match s.link.tx with
  | some t => .next (s.failReadback t).conclude
  | none => .next s

/-- FRAME_COMPLETED_CLEAN (R75). -/
def execFrameCompletedClean (s : State) : Host.Outcome State Fault Refusal :=
  match s.link.tx with
  | some t => .next (s.completeClean t).conclude
  | none => .next s

/-- FRAME_RECEIVED (R78). -/
def execFrameReceived (w : WireFrame) (s : State) : Host.Outcome State Fault Refusal := .next (s.receive w).conclude

end Sys2Proof.Machine
end

