-- ==== Sys2Proof/Machine/Timers.lean ====
section
/-! DEFINITION. The events of the local time base and of the pins: timer expiries, edges of SHED# made by other stations,
feedback changes, VSENSE samples. An expiry acts only where its timer runs, at its deadline (log entry 3). -/

namespace Sys2Proof.Machine

/-- An expiry: the time reaches the deadline, the act is made and the event ends. A stopped timer makes none. -/
def State.expire (s : State) (deadline : Option Nat) (act : State → State) : State :=
  match deadline with
  | some d => (act (s.advanceTo d)).conclude
  | none => s

/-! Link and station state. -/

/-- R83, R100: the heartbeat. -/
def State.beat (s : State) : State :=
  let restarted := s.setLink { s.link with heartbeat := some (s.now + Config.heartbeatPeriod) }
  let said := if restarted.inGeneral Queued.isPresence then restarted else restarted.autoGeneral .presence
  if s.mode = .entering then said.queueJoin said.joinBody else said

/-- R84. -/
def State.probeFalls (s : State) : State := s.setLink { s.link with probeDue := true, probeTimer := none }

/-- R95: a TAINTED station keeps its replica. -/
def State.keepReplica (s : State) : State :=
  let captured := s.capture .syncUnanswered .none none
  if (match s.replica with
      | some r => r.isPresent s.self
      | none => false) then
    captured.changeState .member .syncUnanswered
  else
    let entered := captured.changeState .entering .syncUnanswered
    entered.queueJoin entered.joinBody

/-- R94: a further SYNC_REQUEST. -/
def State.askAgain (s : State) : State :=
  let asked := if s.inGeneral Queued.isSyncRequest then s else s.requestSync
  asked.setStation { asked.station with
    syncCount := asked.station.syncCount + 1
    syncTimer := some (s.now + Config.syncPeriod) }

/-- R94, R95: the sync timer expires. -/
def State.syncExpires (s : State) : State :=
  if s.station.syncCount < Config.syncAttempts then s.askAgain
  else match s.mode with
    | .joining => s.adoptStart
    | .tainted => s.keepReplica
    | _ => s

/-- R101: when silence isolates the station, if it does. -/
def State.silenceAt (s : State) : Option Nat :=
  if s.mode.beating && s.othersPresent then some s.silenceDeadline else none

/-! Membership. -/

/-- R106: the silence timer of a peer expires. -/
def State.peerSilent (s : State) (p : Station) : State :=
  let told := if s.mode == .member && !s.inGeneral (Queued.isAbsence p) then
      s.autoGeneral (.fixed (.absence (byteOf p.val))) else s
  told.changePeer p fun r => { r with silence := some (s.now + Config.silencePeriod) }

/-- R110: the orphan hold of a peer expires. -/
def State.orphansDue (s : State) (p : Station) : State :=
  let told := if s.mode == .member && !s.inGeneral (Queued.isReclaim p) then
      s.autoGeneral (.fixed (.reclaim (byteOf p.val))) else s
  told.changePeer p fun r => { r with orphanHold := some (s.now + s.orphanPeriod) }

/-! Crank sequencer. -/

/-- R57: the CRANK frame is queued, or the settle timer restarts where the lane is full. -/
def State.beginCrank (s : State) (attempts : BitVec 2) : State :=
  if s.urgentRoom then
    (s.pushUrgent (phaseBody .crank attempts)).setCrank
      { s.crank with state := .cranking, settle := none, goPosted := false }
  else (s.capture .outboundFull .none (some .phase)).startSettle

/-- R57: the settle timer expires. -/
def State.settleExpires (s : State) : State :=
  match s.mode, s.replica with
  | .member, some r =>
    if r.lowStuck && decide (s.crank.extensions < Config.extensionLimit) then
      let extended := s.setCrank { s.crank with
        extensions := s.crank.extensions + 1
        settle := some (s.now + s.config.general.crankSettle) }
      extended.postPhase (.settleExtended (s.crank.extensions + 1))
    else s.beginCrank r.phase.attempts
  | _, _ => s.startSettle

def State.restartLockout (s : State) : State :=
  s.setCrank { s.crank with lockout := some (s.now + 1000 * s.config.general.crankLockout) }

/-- R60: the lockout timer expires. -/
def State.lockoutExpires (s : State) : State :=
  if s.mode = .member then
    if s.namedCrank && (match s.phaseRecord with
        | some p => p.phase == .stop && p.attempts != 0
        | none => false) then
      if s.urgentRoom then ((s.pushUrgent closingStop).toIdle).postPhase .lockoutEnded
      else (s.capture .outboundFull .none (some .phase)).restartLockout
    else s.toIdle.postPhase .lockoutEnded
  else s.restartLockout

/-! Slots. -/

/-- R126: the latch-limit timer expires. -/
def State.latchExpires (s : State) : State :=
  let restarted := s.setSlotUnit { s.slotUnit with latchLimit := some (s.now + s.config.general.latchLimit) }
  if s.mode = .member ∨ s.mode = .tainted then
    let asked := if restarted.inUrgent (Queued.isShedRequest none) then restarted
      else restarted.autoUrgent (.shedRequest causeLine s.pins.vsense)
    asked.capture .lineUnexplained .none none
  else restarted

/-- R127: the off deadline of a slot runs anew, or stops. -/
def State.setOffDeadline (s : State) (i : SlotNo) (d : Option Nat) : State :=
  s.putSlot i { s.slot i with offDeadline := d }

def State.restartOff (s : State) (i : SlotNo) : State := s.setOffDeadline i (some (s.now + (s.part i).offDeadline))

/-- R127: the off deadline of a slot expires. Where an own SHED_FAULT for the slot stands in the lane already, the timer
stops, as after one that is queued (log entry 41). -/
def State.offExpires (s : State) (i : SlotNo) : State :=
  if s.mode.reporting then
    if s.inUrgent (Queued.isShedFault i) then s.setOffDeadline i none
    else if s.urgentRoom then
      ((s.pushUrgent (.shedFault (byteOf i.val))).capture .stuckLoad (.slot i) none).setOffDeadline i none
    else
      ((s.capture .outboundFull .none (some .shedFault)).capture .stuckLoad (.slot i) none).restartOff i
  else s.restartOff i

/-- R129: a further off deadline has passed since a STUCK_CLEAR was dropped. -/
def State.retryClear (s : State) (i : SlotNo) : State :=
  (s.putSlot i { s.slot i with retry := none }).testStuckClear i

def State.setSettle (s : State) (i : SlotNo) (d : Option Nat) : State := s.putSlot i { s.slot i with settle := d }

def State.restartSettle (s : State) (i : SlotNo) : State := s.setSettle i (some (s.now + 2 * (s.part i).settle))

/-- R132: the settle timer of a slot expires. -/
def State.slotSettled (s : State) (i : SlotNo) : State :=
  if s.mode = .member then
    if s.generalRoom then (s.pushGeneral (.fixed (.settled (s.ownKey i) true))).setSettle i none
    else (s.capture .outboundFull .none (some .settled)).restartSettle i
  else s.restartSettle i

def State.setGate (s : State) (g : Option GateTimeout) : State := s.setSlotUnit { s.slotUnit with gate := g }

def State.restartGate (s : State) (g : GateTimeout) : State := s.setGate (some (s.gateTimeoutFor g.key g.period))

/-- R133: the gate timeout expires. In MEMBER it stops, also where an own SETTLED for the key stands in the lane (log
entry 40). -/
def State.gateExpires (s : State) (g : GateTimeout) : State :=
  if s.mode = .member then
    if s.inGeneral (Queued.isSettled g.key) then s.setGate none
    else if s.generalRoom then (s.pushGeneral (.fixed (.settled g.key false))).setGate none
    else (s.capture .outboundFull .none (some .settled)).restartGate g
  else s.restartGate g

/-- R134: when the hold time of a slot reaches its limit, if it counts. In UNCONFIGURED and OFFLINE none does (R120). -/
def State.holdLimitAt (s : State) (i : SlotNo) : Option Nat :=
  let part := s.part i
  let slot := s.slot i
  match part.holdLimit with
  | some limit =>
    if s.mode.live && part.used && part.cls == .deferrable && (slot.state == .held || slot.state == .trimmed) then
      some (s.now + (1000 * limit - slot.holdTime))
    else none
  | none => none

/-- R134: the hold time is set back by one full hold limit. -/
def State.holdBack (s : State) (i : SlotNo) : State :=
  s.putSlot i { s.slot i with
    holdTime := (s.slot i).holdTime - (match (s.part i).holdLimit with
      | some limit => 1000 * limit
      | none => 0) }

/-- R122: a slot becomes RELEASING with its RELEASE in the general lane. -/
def State.beginRelease (s : State) (i : SlotNo) : State :=
  (s.pushGeneral (.fixed (.release (byteOf i.val)))).putSlot i { s.slot i with state := .releasing }

/-- R134: the hold time reaches the limit. -/
def State.holdReached (s : State) (i : SlotNo) : State :=
  if s.mode.reporting then
    if s.generalRoom then (s.beginRelease i).postCause i .holdLimit
    else (s.capture .outboundFull .none (some .release)).holdBack i
  else s.holdBack i

/-! Pins. -/

/-- R63: what the other stations drive changes. A part held in reset takes no edge (R167). -/
def State.peerDrive (s : State) (low : Bool) : State :=
  let driven := s.setPins { s.pins with peerShed := low }
  if s.resetLow then driven else driven.edgeFrom s.shedHigh

/-- R127, R129: the FB pin of a slot changes. -/
def State.feedback (s : State) (i : SlotNo) (drawing : Bool) : State :=
  let was := s.pins.feedback[i.val]
  let t := s.setPins { s.pins with feedback := s.pins.feedback.set i.val drawing i.isLt }
  if was && !drawing then t.testStuckClear i else t

def supplyOffer (v : Byte) : WatchSource → Option EvalValue
  | .supply => some (.sample v)
  | _ => none

/-- R137: a VSENSE sample. -/
def State.sample (s : State) (v : Byte) : State :=
  (s.setPins { s.pins with vsense := v, nextSample := s.pins.nextSample + Config.samplePeriod }).watchEvent (supplyOffer v)

/-- R143: the pulse of a unit ends. -/
def State.endPulse (s : State) (second : Bool) : State :=
  (s.setUnit second { s.unit second with pulse := none }).edgeFrom s.shedHigh

/-! The meanings. -/

/-- HEARTBEAT_EXPIRY (R83). -/
def execHeartbeatExpiry (s : State) : Host.Outcome State Fault Refusal := .next (s.expire s.link.heartbeat State.beat)

/-- PROBE_DUE (R84). -/
def execProbeDue (s : State) : Host.Outcome State Fault Refusal := .next (s.expire s.link.probeTimer State.probeFalls)

/-- SYNC_TIMEOUT (R94, R95). -/
def execSyncTimeout (s : State) : Host.Outcome State Fault Refusal :=
  .next (s.expire s.station.syncTimer State.syncExpires)

/-- ISOLATION_BY_SILENCE (R101, R87). -/
def execIsolationBySilence (s : State) : Host.Outcome State Fault Refusal :=
  .next (s.expire s.silenceAt fun t => t.changeOutside .silence)

/-- SILENCE_TIMER_EXPIRY (R106). -/
def execSilenceTimerExpiry (p : Station) (s : State) : Host.Outcome State Fault Refusal :=
  .next (s.expire (s.peer p).silence fun t => t.peerSilent p)

/-- ORPHAN_HOLD_EXPIRY (R110). -/
def execOrphanHoldExpiry (p : Station) (s : State) : Host.Outcome State Fault Refusal :=
  .next (s.expire (s.peer p).orphanHold fun t => t.orphansDue p)

/-- CRANK_SETTLE_EXPIRY (R57). -/
def execCrankSettleExpiry (s : State) : Host.Outcome State Fault Refusal :=
  .next (s.expire s.crank.settle State.settleExpires)

/-- LOCKOUT_EXPIRY (R60). -/
def execLockoutExpiry (s : State) : Host.Outcome State Fault Refusal :=
  .next (s.expire s.crank.lockout State.lockoutExpires)

/-- SHED_FALLING_EDGE (R63, R64, R124): another station begins to drive SHED# low. -/
def execShedFallingEdge (s : State) : Host.Outcome State Fault Refusal := .next (s.peerDrive true).conclude

/-- SHED_RISING_EDGE (R63): no other station drives SHED# low any more. -/
def execShedRisingEdge (s : State) : Host.Outcome State Fault Refusal := .next (s.peerDrive false).conclude

/-- LATCH_LIMIT_EXPIRY (R126). -/
def execLatchLimitExpiry (s : State) : Host.Outcome State Fault Refusal :=
  .next (s.expire s.slotUnit.latchLimit State.latchExpires)

/-- FEEDBACK_CHANGE (R127). -/
def execFeedbackChange (i : SlotNo) (drawing : Bool) (s : State) : Host.Outcome State Fault Refusal :=
  .next (s.feedback i drawing).conclude

/-- OFF_DEADLINE_EXPIRY (R127). -/
def execOffDeadlineExpiry (i : SlotNo) (s : State) : Host.Outcome State Fault Refusal :=
  .next (s.expire (s.slot i).offDeadline fun t => t.offExpires i)

/-- STUCK_CLEAR_RETRY (R129). -/
def execStuckClearRetry (i : SlotNo) (s : State) : Host.Outcome State Fault Refusal :=
  .next (s.expire (s.slot i).retry fun t => t.retryClear i)

/-- SETTLE_TIMER_EXPIRY (R132). -/
def execSettleTimerExpiry (i : SlotNo) (s : State) : Host.Outcome State Fault Refusal :=
  .next (s.expire (s.slot i).settle fun t => t.slotSettled i)

/-- GATE_TIMEOUT_EXPIRY (R133). -/
def execGateTimeoutExpiry (s : State) : Host.Outcome State Fault Refusal :=
  match s.slotUnit.gate with
  | some g => .next (s.expire (some g.deadline) fun t => t.gateExpires g)
  | none => .next s

/-- HOLD_LIMIT (R134). -/
def execHoldLimit (i : SlotNo) (s : State) : Host.Outcome State Fault Refusal :=
  .next (s.expire (s.holdLimitAt i) fun t => t.holdReached i)

/-- R137, R167: the next point of the sample grid; a part held in reset takes no sample. -/
def State.sampleAt (s : State) : Option Nat := if s.resetLow then none else some s.pins.nextSample

/-- VSENSE_SAMPLE (R137). -/
def execVsenseSample (v : Byte) (s : State) : Host.Outcome State Fault Refusal :=
  .next (s.expire s.sampleAt fun t => t.sample v)

/-- WATCH_PULSE_EXPIRY (R143). -/
def execWatchPulseExpiry (second : Bool) (s : State) : Host.Outcome State Fault Refusal :=
  .next (s.expire (s.unit second).pulse fun t => t.endPulse second)

end Sys2Proof.Machine
end

