-- ==== Sys2Proof/Machine/Reads.lean ====
section
/-! DEFINITION. The commands that read and configure the station (R20, R104, R150, R154, R155, R163, R164, R166), and
those of the watch units (R145, R146). Each answers with the state after it and its response. -/

namespace Sys2Proof.Machine

/-- A response: its code and its body (10.3). -/
structure Reply where
  code : ResponseCode
  body : List Byte
  deriving DecidableEq, Repr

/-- What taking a command leaves. -/
structure Taken where
  state : State
  reply : Reply
  deriving DecidableEq, Repr

/-- R160: a refused command has no effect beyond its response. -/
def State.refuse (s : State) (code : ResponseCode) : Taken := { state := s, reply := { code := code, body := [] } }

def State.answer (s : State) (body : List Byte) : Taken := { state := s, reply := { code := .ok, body := body } }

def State.accept (s : State) : Taken := { state := s, reply := { code := .accepted, body := [] } }

/-- The checks of a rule in their order: the answer of the first that fails, else what the command does. -/
def State.checked (s : State) : List (Bool × ResponseCode) → Taken → Taken
  | [], done => done
  | (holds, code) :: rest, done => if holds then s.checked rest done else s.refuse code

/-! Configuration (R166). -/

/-- A field given as 0 takes its default. -/
def orDefault (given default : Nat) : Nat := if given = 0 then default else given

/-- R166, R173: the general part of these argument bytes, where every field is in range. -/
def GeneralPart.ofBytes (a0 a1 a2 a3 a4 a5 : Byte) : Option GeneralPart :=
  let orphan := orDefault a1.toNat 5
  let latch := orDefault (halfOf a2 a3).toNat 300
  let settle := orDefault a4.toNat 60
  let lockout := orDefault a5.toNat 10
  if orphan ≤ 60 ∧ 100 ≤ latch ∧ latch ≤ 2000 ∧ 20 ≤ settle ∧ settle ≤ 200 ∧ 2 ≤ lockout ∧ lockout ≤ 30 then
    some { given := true, mask := a0, orphanHold := orphan, latchLimit := latch, crankSettle := settle,
           crankLockout := lockout }
  else none

/-- R166, R173: a slot part of these argument bytes, where every field is in range. An unused slot is stored as unused,
with the values of an unused slot part and none of those given (log entry 52). The bits of the flags byte that R173 does
not assign are not read (log entry 54). -/
def SlotPart.ofBytes (a0 a1 a2 a3 a4 a5 : Byte) : Option SlotPart :=
  if a0.getLsbD 7 then
    let off := orDefault a3.toNat 30
    let hold := (halfOf a4 a5).toNat
    match LoadClass.ofCode (a0.extractLsb' 0 3).toNat with
    | some cls =>
      if 1 ≤ a1.toNat ∧ a1.toNat ≤ 200 ∧ 5 ≤ a2.toNat ∧ a2.toNat ≤ 250 ∧ 5 ≤ off ∧ off ≤ 250 ∧ hold ≤ 3600
          ∧ (hold = 0 ∨ cls = .deferrable) then
        some { given := true, used := true, cls := cls, maxAmps := a1.toNat, minAllowed := a0.getLsbD 6,
               settle := a2.toNat, offDeadline := off, feedback := a0.getLsbD 5,
               holdLimit := if hold = 0 then none else some hold }
      else none
    | none => none
  else some { SlotPart.default with given := true }

def State.setPart (s : State) (i : SlotNo) (p : SlotPart) : State :=
  s.setConfig { s.config with slots := s.config.slots.set i.val p i.isLt }

/-- CONFIGURE (R166). -/
def State.configure (s : State) (part a0 a1 a2 a3 a4 a5 : Byte) : Taken :=
  if s.mode = .unconfigured ∧ s.config.locked = false then
    if part = 0 then
      match GeneralPart.ofBytes a0 a1 a2 a3 a4 a5 with
      | some g => (s.setConfig { s.config with general := g }).answer []
      | none => s.refuse .badArg
    else match slotOf (part - 1) with
      | some i => match SlotPart.ofBytes a0 a1 a2 a3 a4 a5 with
        | some p => (s.setPart i p).answer []
        | none => s.refuse .badArg
      | none => s.refuse .badArg
  else s.refuse .refusedState

/-- R173: a general part as the six bytes of its arguments. -/
def GeneralPart.bytes (g : GeneralPart) : List Byte :=
  [g.mask, byteOf g.orphanHold] ++ natBytes g.latchLimit ++ [byteOf g.crankSettle, byteOf g.crankLockout]

/-- R173: a slot part as the six bytes of its arguments. -/
def SlotPart.bytes (p : SlotPart) : List Byte :=
  [BitVec.ofBool p.used ++ BitVec.ofBool p.minAllowed ++ BitVec.ofBool p.feedback ++ 0#2 ++ BitVec.ofNat 3 p.cls.code,
   byteOf p.maxAmps, byteOf p.settle, byteOf p.offDeadline] ++ natBytes (p.holdLimit.getD 0)

/-- R173: which parts are given, and the lock. -/
def ConfigRecord.flags (c : ConfigRecord) : Byte :=
  BitVec.ofBool c.locked ++ 0#2 ++ BitVec.ofBool c.general.given ++ BitVec.ofBool c.slots[3].given
    ++ BitVec.ofBool c.slots[2].given ++ BitVec.ofBool c.slots[1].given ++ BitVec.ofBool c.slots[0].given

/-- READ_CONFIG (R166; layout of R173, values after defaults, log entry 31). -/
def State.readConfig (s : State) : Taken :=
  s.answer (padTo 36 (s.config.general.bytes ++ s.config.slots.toList.flatMap SlotPart.bytes
    ++ [s.config.flags, byteOf s.self.val, byteOf s.straps.role.code]))

/-! READ_STATUS (R163; the layouts are those of log entry 6). -/

/-- The remaining time of a timer, with a presence flag before it. -/
def State.remaining (s : State) (deadline : Option Nat) : List Byte :=
  match deadline with
  | some d => 1 :: natBytes (d - s.now)
  | none => [0, 0, 0]

/-- The epoch and the digest, with a presence flag before them. -/
def State.epochAndDigest (s : State) : List Byte :=
  match s.replica with
  | some r => 1 :: (halfBytes r.epoch ++ halfBytes r.digest)
  | none => [0, 0, 0, 0, 0]

/-- R173: an amount in two bytes with a presence flag beside it. -/
def amountBytes : Option Nat → List Byte
  | some n => 1 :: natBytes n
  | none => [0, 0, 0]

/-- R41, R43: what page 0 reports of the replica; without one every byte is 0xFF and every amount's flag is clear
(R173). -/
def State.replicaPage (s : State) : List Byte :=
  let phase := s.replica.map (·.phase)
  [optByte (phase.map fun p => p.stateByte.toNat)] ++ amountBytes (phase.map (·.ceiling))
    ++ amountBytes (phase.map (·.reserve))
    ++ [stationByte (phase.bind (·.crankStation)), stationByte (phase.bind (·.supplyStation))]
    ++ amountBytes (s.replica.map (·.charged)) ++ amountBytes (phase.map (·.low)) ++ amountBytes (phase.map (·.high))
    ++ [keyByte (s.replica.bind (·.gate)), optByte (s.replica.map fun r => (admissionQueue r.claims).length),
        optByte (s.replica.map fun r => (barriers r.claims).length)]

def IsolationCause.optCode : Option IsolationCause → Nat
  | some c => c.code
  | none => 0

/-- Page 0: R86, R43, R41. -/
def State.pageState (s : State) : List Byte :=
  [byteOf s.mode.code, byteOf s.station.syncCount, byteOf (IsolationCause.optCode s.station.isolation)]
    ++ s.remaining s.station.syncTimer ++ s.epochAndDigest ++ s.replicaPage

/-- Page 1: R85, with the epoch and the digest of that rule, which page 0 carries too (log entry 48). -/
def State.pageLink (s : State) : List Byte :=
  [byteOf s.link.urgent.length, byteOf s.link.general.length, byteOf s.link.inbound.length, byteOf s.link.readback]
    ++ natBytes s.fault.badChecks ++ [flagByte s.link.probeDue] ++ s.epochAndDigest

/-- Page 2: R54, R120 and the straps. -/
def State.pageCrank (s : State) : List Byte :=
  [byteOf s.crank.state.code, byteOf s.crank.extensions, flagByte s.crank.hold, flagByte s.slotUnit.latchLimit.isSome,
   keyByte (s.slotUnit.gate.map (·.key)), flagByte s.slotUnit.leavePending, byteOf s.self.val,
   byteOf s.straps.role.code]

def claimValueBytes : Option ClaimValues → List Byte
  | some v => [byteOf v.cls.code, byteOf v.requested, byteOf (v.minimum.getD 0)]
  | none => [0xFF, 0xFF, 0xFF]

/-- Pages 3 to 6: R120. -/
def State.pageSlot (s : State) (i : SlotNo) : List Byte :=
  let r := s.slot i
  byteOf r.state.code :: (claimValueBytes r.values
    ++ [flagByte r.enable, optByte ((s.reading i).map fun b => if b then 1 else 0), flagByte r.latch,
        flagByte r.offDeadline.isSome, flagByte r.settle.isSome]
    ++ wordBytes r.holdTime ++ [flagByte r.wasOn, flagByte r.unclaimed])

/-- Pages 7 and 8: R136. -/
def WatchUnit.page (u : WatchUnit) : List Byte :=
  [byteOf u.state.code, byteOf u.source.code, byteOf u.relation.code] ++ intBytes u.compare ++ halfBytes u.mask
    ++ [u.reload, u.counter, flagByte u.sequence, u.actions.byte, flagByte u.pulse.isSome]

def State.page (s : State) : Nat → Option (List Byte)
  | 0 => some s.pageState
  | 1 => some s.pageLink
  | 2 => some s.pageCrank
  | 3 => some (s.pageSlot 0)
  | 4 => some (s.pageSlot 1)
  | 5 => some (s.pageSlot 2)
  | 6 => some (s.pageSlot 3)
  | 7 => some s.w0.page
  | 8 => some s.w1.page
  | _ => none

/-- READ_STATUS (R163). -/
def State.readStatus (s : State) (page : Byte) : Taken :=
  match s.page page.toNat with
  | some bytes => s.answer (padTo 32 bytes)
  | none => s.refuse .badArg

/-! Reads of the replica and of the peers. -/

/-- R20: a claim's position in the admission queue, from 1; 0 is not queued. -/
def Replica.position (r : Replica) (k : Key) : Nat :=
  let queue := admissionQueue r.claims
  if queue.any fun c => c.key == k then (queue.findIdx fun c => c.key == k) + 1 else 0

/-- R173: the 14 bytes of a READ_CLAIM answer. With no record under the key the bytes behind the epoch are 0: the
position by R173 (not queued), the record's ten by log entry 45. -/
def claimAnswer (r : Replica) (k : Key) : List Byte :=
  match r.find k with
  | some c =>
    let flags : Byte := 0#6 ++ BitVec.ofBool (r.gate == some k) ++ 1#1
    flags :: (halfBytes r.epoch ++ c.bytes ++ [byteOf (r.position k)])
  | none => 0 :: halfBytes r.epoch

/-- READ_CLAIM (R20; log entry 29 for OFFLINE without a replica, log entry 45 for the bytes of an answer that is not
present). -/
def State.readClaim (s : State) (key : Byte) : Taken :=
  if s.mode = .unconfigured ∨ s.mode = .joining then s.refuse .refusedState
  else match Key.ofCode key.toNat with
    | some k => s.answer (padTo 14 (match s.replica with
        | some r => claimAnswer r k
        | none => []))
    | none => s.refuse .badArg

/-- R104, R173: the local fields of a peer's record in the order of its rule: the last valid frame's timestamp behind its
presence flag; the two timers, silence in bit 0 and orphan hold in bit 1 of one byte, set while the timer runs (log entry
46); the disagreement counter; the last PRESENCE. For the station's own number each of them is none. -/
def State.peerBytes (s : State) (n : Station) : List Byte :=
  let p := if n = s.self then PeerRecord.reset else s.peer n
  let timers : Byte := 0#6 ++ BitVec.ofBool p.orphanHold.isSome ++ BitVec.ofBool p.silence.isSome
  amountBytes p.lastValid ++ [timers, if n = s.self then 0xFF else byteOf p.disagree] ++ (match p.presence with
    | some (st, v) => [byteOf st.code, v]
    | none => [0xFF, 0xFF])

/-- R104: the roster entry of a station, in the encoding of 11.3; where the station holds no replica its presence bit is
clear and every bit behind it (log entry 46). -/
def State.rosterBytes (s : State) (n : Station) : List Byte :=
  match s.replica with
  | some r => (r.entry n).bytes
  | none => List.replicate 13 0

/-- READ_PEER (R104, R163). -/
def State.readPeer (s : State) (station : Byte) : Taken :=
  match stationOf station with
  | some n => s.answer (padTo 20 (s.peerBytes n ++ s.rosterBytes n))
  | none => s.refuse .badArg

/-! Notices, the fault record and the history. -/

/-- R164, R173: the answer of READ_NOTICE. On an empty queue the notice's bytes are 0 (log entry 51). -/
def noticeAnswer (left : Nat) (lost : Bool) (n : Option Notice) : List Byte :=
  let flags : Byte := 0#6 ++ BitVec.ofBool n.isNone ++ BitVec.ofBool lost
  byteOf left :: flags :: (match n with
    | some n => n.bytes
    | none => List.replicate 16 0)

/-- READ_NOTICE (R164). -/
def State.readNotice (s : State) : Taken :=
  let rest := s.port.notices.tail
  (s.setPort { s.port with notices := rest, noticeLost := false }).answer
    (noticeAnswer rest.length s.port.noticeLost s.port.notices.head?)

/-- READ_FAULT (R150). -/
def State.readFault (s : State) : Taken :=
  s.answer (s.fault.recordBytes ++ s.fault.counters.toList.map byteOf ++ natBytes s.fault.badChecks)

/-- CLEAR_FAULT (R150). -/
def State.clearFault (s : State) : Taken :=
  (s.setFault { s.fault with record := none, lock := false, lost := false }).answer []

/-- R155, R173: the answer of READ_HISTORY. Behind the kind 0xFF of "no entry" its bytes are 0 (log entry 51). -/
def historyAnswer (h : History) (i : Nat) : List Byte :=
  byteOf h.entries.length :: byteOf h.missed :: (match h.entries[i]? with
    | some e => e.bytes
    | none => 0xFF :: List.replicate 10 0)

/-- READ_HISTORY (R155). -/
def State.readHistory (s : State) (index : Byte) : Taken :=
  s.checked [(s.mode != .unconfigured, .refusedState), (decide (index.toNat ≤ 31), .badArg),
    (s.history.frozen, .notFrozen)] (s.answer (historyAnswer s.history index.toNat))

/-- FREEZE_HISTORY (R154). -/
def State.freezeCommand (s : State) : Taken :=
  s.checked [(s.mode != .unconfigured, .refusedState)] (s.freeze.answer [])

/-- THAW_HISTORY (R155). -/
def State.thaw (s : State) : Taken :=
  s.checked [(s.mode != .unconfigured, .refusedState)] ((s.setHistory .reset).answer [])

/-! Watch units. -/

/-- R145: which unit a byte names. -/
def unitOf (b : Byte) : Option Bool := if b = 0 then some false else if b = 1 then some true else none

/-- R138: the relations and compare values allowed for a source. LINE has no compare value: any is accepted and stored
(log entry 43). -/
def WatchSource.allows (source : WatchSource) (relation : Relation) (compare : Int) : Bool :=
  match source with
  | .supply => relation != .isMatch && decide (0 ≤ compare ∧ compare ≤ 255)
  | .headroom => relation != .isMatch && decide (-12800 ≤ compare ∧ compare ≤ 1600)
  | .frame => relation == .isMatch && decide (0 ≤ compare ∧ compare ≤ 15)
  | .line => relation == .isMatch
  | .phase => relation == .isMatch && decide (0 ≤ compare ∧ compare ≤ 4)

/-- R145: the state and counter of a unit after its programming. -/
def WatchUnit.programmed (u : WatchUnit) (on : Bool) : WatchUnit :=
  if on then
    if u.state = .fired then u
    else if u.sequence then { u with state := .disarmed } else { u with state := .armed, counter := u.reload }
  else { u with state := .off }

/-- R173: the action set of a control byte. -/
def actionsOf (control : Byte) : ActionSet :=
  { notify := control.getLsbD 3, pullShed := control.getLsbD 2, freeze := control.getLsbD 1, rearm := control.getLsbD 0 }

/-- SET_WATCH (R145). The bits of its control and selector bytes that R173 does not assign are not read (log entry 54).
-/
def State.setWatch (s : State) (unit control selector : Byte) (compare mask : Half) (reload : Byte) : Taken :=
  if s.mode.live then
    match unitOf unit, WatchSource.ofCode (selector.extractLsb' 5 3).toNat,
      Relation.ofCode (selector.extractLsb' 0 2).toNat with
    | some second, some source, some relation =>
      let sequence := control.getLsbD 6
      if (second || !sequence) && source.allows relation compare.toInt && (source != .frame || mask != 0) then
        let u := { s.unit second with
          source := source, relation := relation, compare := compare.toInt, mask := mask, reload := reload,
          sequence := sequence, actions := actionsOf control }
        (s.setUnit second (u.programmed (control.getLsbD 7))).answer []
      else s.refuse .badArg
    | _, _, _ => s.refuse .badArg
  else s.refuse .refusedState

/-- R146: what ARM_WATCH makes of a unit that is not OFF. -/
def WatchUnit.rearmed (u : WatchUnit) : WatchUnit :=
  match u.state with
  | .fired => if u.sequence then { u with state := .disarmed } else { u with state := .armed, counter := u.reload }
  | .armed => { u with counter := u.reload }
  | _ => u

/-- ARM_WATCH (R146). -/
def State.armWatch (s : State) (unit : Byte) : Taken :=
  if s.mode.live then
    match unitOf unit with
    | some second =>
      if (s.unit second).state = .off then s.refuse .refusedState
      else (s.setUnit second (s.unit second).rearmed).answer []
    | none => s.refuse .badArg
  else s.refuse .refusedState

end Sys2Proof.Machine
end

