-- ==== Sys2Proof/Machine/Mailbox.lean ====
section
/-! DEFINITION. The commands that move the station or queue a frame (R18, R51, R53, R55, R59, R161, R162, R168), the
mailbox (R158 to R160), the SPI transfers (R157 to R159) and pin reset (R167); and the meanings of their rows. -/

namespace Sys2Proof.Machine

/-! Membership commands. -/

/-- R162: a JOIN from OFFLINE resets the table engine and the slot records, the unclaimed-draw flag among them: a slot
that drew before it went OFFLINE, and draws still, begins a new episode (DEDUCED, unsafe: log entry 60). -/
def State.freshTables (s : State) : State := (s.setReplica none).setSlotUnit .reset

/-- JOIN (R162). -/
def State.joinCommand (s : State) : Taken :=
  match s.mode with
  | .unconfigured =>
    if s.config.general.given then
      ((s.setConfig { s.config with locked := true }).changeState .joining .joinCommand).accept
    else s.refuse .refusedState
  | .offline =>
    if s.station.offline = some .leave then (s.freshTables.changeState .joining .joinCommand).accept
    else s.refuse .refusedState
  | _ => s.refuse .refusedState

/-- R62: a crank under way binds the crank station to the segment. -/
def Phase.binds : Phase → Bool
  | .crankPending | .crank | .recover => true
  | _ => false

def State.boundByCrank (s : State) : Bool :=
  s.crank.state != .idle || s.namedCrank && match s.phaseRecord with
    | some p => p.phase.binds
    | none => false

/-- R160: while the leave-pending flag is set no command queues a frame (log entry 17 for its place among the checks). -/
def State.mayQueue (s : State) : Bool := !s.slotUnit.leavePending

def State.setLeavePending (s : State) : State := s.setSlotUnit { s.slotUnit with leavePending := true }

/-- LEAVE (R162, R62). -/
def State.leaveCommand (s : State) : Taken :=
  s.checked [(s.mode == .member && s.mayQueue, .refusedState), (!s.boundByCrank, .refusedPhase),
    (s.generalRoom, .queueFull)] (s.setLeavePending.pushGeneral (.fixed .leave)).accept

/-- R120, R135: a slot at a soft restart. Its unclaimed-draw flag is clear, so a FREE slot that draws begins a new
episode and captures UNCLAIMED_DRAW again at the end of the event (R131; log entry 60). -/
def SlotRecord.restarted (part : SlotPart) (r : SlotRecord) : SlotRecord :=
  if part.used && part.cls == .critical && r.enable then
    { SlotRecord.reset with state := .carried, values := r.values, enable := true, wasOn := true }
  else .reset

/-- R136: a watch unit at a soft restart. -/
def WatchUnit.restarted (u : WatchUnit) : WatchUnit := { u with counter := u.reload, pulse := none }

/-- R168: the soft-restart values of every block; a drive that ends may let SHED# rise. The LINE entry of that rise has
no epoch and stands before the SYNC entry (log entry 56). -/
def State.softReset (s : State) : State :=
  let slots := mapSlots (fun i => SlotRecord.restarted (s.part i)) s.slotUnit.slots
  ((((((((s.setLink .reset).setReplica none).setMembers .reset).setCrank .reset).setSlotUnit
    { SlotUnit.reset with slots := slots }).setW0 s.w0.restarted).setW1 s.w1.restarted).setPort
      { s.port with notices := [], noticeLost := false }).edgeFrom s.shedHigh

/-- RESTART (R168). -/
def State.restartCommand (s : State) : Taken :=
  if s.mode = .unconfigured ∨ (s.mode = .offline ∧ s.station.offline = some .duplicate) then s.refuse .refusedState
  else
    let told := s.softReset.post (.restarted s.port.notices.length s.port.noticeLost)
    (told.changeState .joining .restart).answer []

/-! Slots. -/

/-- The checks of R161 on the minimum. -/
def minimumOk (part : SlotPart) (requested minimum : Byte) : Bool :=
  minimum == 0 || (decide (minimum.toNat < requested.toNat) && part.minAllowed)

/-- R122: an accepted CLAIM. -/
def State.sendClaim (s : State) (i : SlotNo) (requested minimum : Byte) : State :=
  let cls := (s.part i).cls
  (s.pushGeneral (.fixed (.claim i (BitVec.ofNat 3 cls.code) requested minimum))).putSlot i
    { s.slot i with
      state := .sending
      values := some { cls := cls, requested := requested.toNat, minimum := minimumOf minimum } }

/-- CLAIM (R161). -/
def State.claimCommand (s : State) (slot requested minimum : Byte) : Taken :=
  if s.mode = .member ∧ s.mayQueue = true then
    match slotOf slot with
    | some i =>
      let part := s.part i
      s.checked [(part.used, .badArg), ((s.slot i).state == .free, .refusedState),
        (decide (1 ≤ requested.toNat ∧ requested.toNat ≤ part.maxAmps), .badArg),
        (minimumOk part requested minimum, .badArg), (s.generalRoom, .queueFull)]
        (s.sendClaim i requested minimum).accept
    | none => s.refuse .badArg
  else s.refuse .refusedState

/-- R18: the slot is SENDING and its CLAIM has not started transmitting. -/
def State.claimUnsent (s : State) (i : SlotNo) : Bool :=
  (s.slot i).state == .sending && canWithdraw (s.link.sending .general) (Queued.isClaim i) s.link.general

/-- R18: the CLAIM is withdrawn. -/
def State.withdrawClaim (s : State) (i : SlotNo) : State :=
  ((s.withdrawGeneral (Queued.isClaim i)).putSlot i (s.slot i).freed).postCause i .withdrawn

/-- R161: a slot that a RELEASE command may name. -/
def LocalState.releasable : LocalState → Bool
  | .free | .releasing | .carried => false
  | _ => true

/-- RELEASE (R161, R18, R122). A RELEASE that withdraws a CLAIM queues no frame, so the leave-pending flag does not
reach it; of any other the flag is asked after the slot number and the slot's state (log entry 17). -/
def State.releaseCommand (s : State) (slot : Byte) : Taken :=
  if s.mode.reporting then
    match slotOf slot with
    | some i =>
      if (s.slot i).state.releasable then
        if s.claimUnsent i then (s.withdrawClaim i).answer []
        else s.checked [(s.mayQueue, .refusedState), (s.generalRoom, .queueFull)] (s.beginRelease i).accept
      else s.refuse .refusedState
    | none => s.refuse .badArg
  else s.refuse .refusedState

/-! Crank and engine. -/

/-- The attempts of the replica's phase record. -/
def State.attempts (s : State) : BitVec 2 :=
  match s.phaseRecord with
  | some p => p.attempts
  | none => 0

/-- The phase of the replica. -/
def State.phaseIs (s : State) (ps : List Phase) : Bool :=
  match s.phaseRecord with
  | some p => ps.contains p.phase
  | none => false

/-- R55: SETTLING with the extension count at 0. -/
def State.beginSettling (s : State) : State :=
  (s.pushUrgent (phaseBody .crankPending s.attempts)).setCrank { CrankUnit.reset with state := .settling }

/-- REQUEST_CRANK (R55). -/
def State.requestCrank (s : State) : Taken :=
  s.checked [(s.mode == .member && s.mayQueue, .refusedState), (s.namedCrank, .notRole),
    (s.crank.state != .lockout && s.attempts != 3, .refusedLockout),
    (s.crank.state == .idle && s.phaseIs [.stop], .refusedPhase), (s.urgentRoom, .queueFull)] s.beginSettling.accept

/-- R59: the first two checks of the five reports. -/
def State.reportChecks (s : State) : List (Bool × ResponseCode) :=
  [((s.mode == .member || s.mode == .tainted) && s.mayQueue, .refusedState), (s.namedCrank, .notRole)]

/-- A PHASE frame of a report is queued. -/
def State.reportPhase (s : State) (p : Phase) (attempts : BitVec 2) : State := s.pushUrgent (phaseBody p attempts)

/-- CRANK_DONE (R59). -/
def State.crankDone (s : State) : Taken :=
  s.checked (s.reportChecks ++ [(s.phaseIs [.crank], .refusedPhase), (s.urgentRoom, .queueFull)])
    (s.reportPhase .recover s.attempts).toIdle.accept

/-- R59: the attempts value a failed crank sends; with attempts already 3 it is a free value (log entry 16). -/
def State.failedAttempts (s : State) : BitVec 2 :=
  if s.attempts = 3 then Config.attemptsPastThree s.freeCount else s.attempts + 1

/-- The counter behind the free values advances where one was taken. -/
def State.spendFree (s : State) : State := if s.attempts = 3 then s.setFreeCount (s.freeCount + 1) else s

/-- R59, R60: a failed crank: a STOP is queued; the sequencer enters LOCKOUT where it carries attempts 3, else IDLE. -/
def State.failCrank (s : State) : State :=
  let sent := (s.reportPhase .stop s.failedAttempts).spendFree
  if s.failedAttempts = 3 then sent.startLockout else sent.toIdle

/-- CRANK_FAILED (R59, R60). -/
def State.crankFailed (s : State) : Taken :=
  s.checked (s.reportChecks ++ [(s.phaseIs [.crank], .refusedPhase), (s.urgentRoom, .queueFull)]) s.failCrank.accept

/-- R59: the frame of a phase stands in the urgent lane and has not started transmitting. -/
def State.phaseUnsent (s : State) (p : Phase) : Bool :=
  canWithdraw (s.link.sending .urgent) (Queued.isPhase p) s.link.urgent

/-- R59: a cancelled crank: the frame of CRANK_PENDING is withdrawn and no frame is queued, or a STOP is queued behind
whatever cannot be withdrawn. Of two such frames in the lane both are withdrawn (log entry 38). -/
def State.cancelCrank (s : State) : Taken :=
  let withdrawn := s.withdrawUrgent Queued.isCrankFrame
  s.checked (s.reportChecks ++ [(s.crank.state.underWay, .refusedPhase)])
    (if s.phaseUnsent .crankPending then withdrawn.toIdle.answer []
     else s.checked [(withdrawn.urgentRoom, .queueFull)] (withdrawn.reportPhase .stop s.attempts).toIdle.accept)

/-- ENGINE_RUNNING (R59). -/
def State.engineRunning (s : State) : Taken :=
  s.checked (s.reportChecks ++ [(s.phaseIs [.recover], .refusedPhase), (s.urgentRoom, .queueFull)])
    (s.reportPhase .run 0).accept

/-- ENGINE_STOPPED (R59). -/
def State.engineStopped (s : State) : Taken :=
  s.checked (s.reportChecks ++ [(s.phaseIs [.run, .recover], .refusedPhase), (s.urgentRoom, .queueFull)])
    (s.reportPhase .stop s.attempts).accept

/-- R51: the station is named in the supply station field of its own replica. -/
def State.namedSupply (s : State) : Bool :=
  match s.replica with
  | some r => r.phase.supplyStation == some s.self
  | none => false

/-- ANNOUNCE_BUDGET (R51). -/
def State.announceBudget (s : State) (ceiling reserve : Half) : Taken :=
  s.checked [(s.mode == .member && s.mayQueue, .refusedState), (s.namedSupply, .notRole),
    (decide (ceiling.toNat ≤ Config.ceilingLimit ∧ reserve.toNat ≤ ceiling.toNat), .badArg),
    (s.generalRoom, .queueFull)] (s.pushGeneral (.fixed (.budget ceiling reserve))).accept

/-- LIFT (R53). -/
def State.liftCommand (s : State) : Taken :=
  s.checked [(s.mode == .member && s.mayQueue, .refusedState), (s.generalRoom, .queueFull)]
    (s.pushGeneral (.fixed .lift)).accept

/-- ECHO (R163). -/
def State.echo (s : State) (bytes : List Byte) : Taken := s.answer bytes

/-! The mailbox. -/

/-- R160, check 3 and the effect: the rule that owns the command. -/
def State.perform (s : State) : Command → Taken
  | .configure part a0 a1 a2 a3 a4 a5 => s.configure part a0 a1 a2 a3 a4 a5
  | .readConfig => s.readConfig
  | .join => s.joinCommand
  | .leave => s.leaveCommand
  | .restart => s.restartCommand
  | .claim slot requested minimum => s.claimCommand slot requested minimum
  | .release slot => s.releaseCommand slot
  | .requestCrank => s.requestCrank
  | .cancelCrank => s.cancelCrank
  | .crankDone => s.crankDone
  | .crankFailed => s.crankFailed
  | .engineRunning => s.engineRunning
  | .engineStopped => s.engineStopped
  | .announceBudget ceiling reserve => s.announceBudget ceiling reserve
  | .lift => s.liftCommand
  | .readStatus page => s.readStatus page
  | .readClaim key => s.readClaim key
  | .readPeer station => s.readPeer station
  | .readNotice => s.readNotice
  | .readFault => s.readFault
  | .clearFault => s.clearFault
  | .readHistory index => s.readHistory index
  | .freezeHistory => s.freezeCommand
  | .thawHistory => s.thaw
  | .setWatch unit control selector compare mask reload => s.setWatch unit control selector compare mask reload
  | .armWatch unit => s.armWatch unit
  | .echo bytes => s.echo bytes

/-- R173: a response as it is shifted out. -/
def Reply.bytes (r : Reply) : List Byte := byteOf r.code.code :: r.body

/-- R160: what taking a record makes of the station. -/
def State.runRecord (s : State) (record : CommandRecord) : Taken :=
  match record.command with
  | .ok c => s.perform c
  | .error code => s.refuse code

/-- R159: the response is written into the response buffer and CMD_FULL is cleared. -/
def Taken.placed (t : Taken) : State :=
  t.state.setPort { t.state.port with command := none, response := some t.reply.bytes }

/-- R159: a command is taken when one waits and the response buffer is empty. -/
def State.takeCommand (s : State) : State :=
  match s.port.command, s.port.response with
  | some record, none => (s.runRecord record).placed
  | _, _ => s

/-- R159: the table engine is applying the head of the inbound queue at this rise of CS#. -/
def State.engineBusy (s : State) (applying : Bool) : Bool := applying && !s.link.inbound.isEmpty

/-- R159: the condition for taking a command may begin here: it is taken at once, or at the end of the application under
way (Machine/FrameRows.lean). -/
def State.takeAtRise (s : State) (applying : Bool) : State :=
  if s.engineBusy applying then
    s.setPort { s.port with due := s.port.command.isSome && s.port.response.isNone }
  else s.takeCommand

/-- R158: a record at the end of a WRITE transfer. -/
def State.offerRecord (s : State) (applying : Bool) (record : CommandRecord) : State :=
  if s.port.command.isSome then s.setPort { s.port with overwrite := true }
  else (s.setPort { s.port with command := some record }).takeAtRise applying

/-- A command of the module controller: the WRITE of its record, and its taking if the mailbox is free (log entry 1). A
part held in reset answers no transfer (R167). -/
def State.give (s : State) (c : Command) : State :=
  if s.resetLow then s else (s.offerRecord false (.ofWrite c.bytes)).conclude

/-! SPI transfers. -/

/-- R173: the transfer types. -/
inductive TransferType where
  | status | write | read
  deriving DecidableEq, Repr

/-- R173: the type that the first byte shifted in selects; one the port does not know is STATUS (R156). -/
def TransferType.ofByte (b : Byte) : TransferType := if b = 1 then .write else if b = 2 then .read else .status

/-- R156, R157: CS# falls, and the status byte is sampled. Where a transfer is under way already, it is dropped and this
one begins (log entry 5). -/
def State.selectPort (s : State) : State :=
  s.setPort { s.port with select := some { status := s.statusByte, overwrite := s.port.overwrite,
                                           full := s.port.response.isSome } }

/-- R157: a transfer ends that shifted out its status byte and these bytes; OVERWRITE is cleared if that byte reported
it. -/
def State.shiftOut (s : State) (o : Selected) (out : List Byte) : State :=
  s.setPort { s.port with select := none, sdo := o.status :: out, overwrite := s.port.overwrite && !o.overwrite }

/-- R159: a READ transfer ends. -/
def State.readRise (s : State) (o : Selected) (count : Nat) (applying : Bool) : State :=
  match o.full, s.port.response with
  | true, some bytes =>
    let out := s.shiftOut o (bytes.take count)
    if bytes.length ≤ count then (out.setPort { out.port with response := none }).takeAtRise applying else out
  | _, _ => s.shiftOut o ([0xFF#8].take count)

/-- R156 to R159: CS# rises on the transfer under way, with these bytes shifted in whole. One cut short inside its status
byte clears nothing (log entry 5); a WRITE without a record byte offers no record. -/
def State.rise (s : State) (shifted : List Byte) (applying : Bool) : State :=
  match s.port.select, shifted with
  | none, _ => s
  | some _, [] => s.setPort { s.port with select := none, sdo := [] }
  | some o, kind :: rest => match TransferType.ofByte kind with
    | .status => s.shiftOut o []
    | .write => if rest.isEmpty then s.shiftOut o [] else (s.shiftOut o []).offerRecord applying (.ofWrite rest)
    | .read => s.readRise o rest.length applying

/-- R156: what a command brings of an SPI transfer. A part held in reset answers none (R167). -/
def State.transfer (s : State) (span : Span) (shifted : List Byte) : State :=
  if s.resetLow then s
  else match span with
    | .whole => s.selectPort.rise shifted false
    | .fall => s.selectPort
    | .rise applying => s.rise shifted applying

/-- The bytes shifted in by a READ that shifts out this many bytes behind the status byte (R173). -/
def readBytes (count : Nat) : List Byte := 2 :: List.replicate count 0

/-! Pin reset. -/

/-- R166: the straps at the rise of RESET#. -/
def strapsOf (p : StrapPins) : Straps := { station := p.id, role := (Role.ofCode p.role.toNat).getD .none }

/-- R167: every block at its pin-reset values; what others drive on the pins stays (log entry 4). -/
def State.blank (s : State) (straps : Straps) : State :=
  { State.reset with
    pending := s.pending
    straps := straps
    pins := { Pins.reset with peerShed := s.pins.peerShed, feedback := s.pins.feedback }
    freeCount := s.freeCount }

/-- R167: RESET# falls, and the part is held in reset; or it rises, and the straps are sampled (log entry 32). -/
def State.pinReset (s : State) (edge : ResetEdge) (pins : StrapPins) : State :=
  match edge with
  | .fall => (s.blank s.straps).setResetLow true
  | .rise => s.blank (strapsOf pins)

/-! The meanings. -/

/-- PIN_RESET (R167). -/
def execPinReset (edge : ResetEdge) (straps : StrapPins) (s : State) : Host.Outcome State Fault Refusal :=
  .next (s.pinReset edge straps)

/-- SPI_STATUS_TRANSFER (R157). -/
def execSpiStatusTransfer (t : Transfer (List Byte)) (s : State) : Host.Outcome State Fault Refusal :=
  .next (s.transfer t.span t.shifts).conclude

/-- SPI_WRITE_TRANSFER (R158). -/
def execSpiWriteTransfer (t : Transfer (List Byte)) (s : State) : Host.Outcome State Fault Refusal :=
  .next (s.transfer t.span (1 :: t.shifts)).conclude

/-- SPI_READ_TRANSFER (R159). -/
def execSpiReadTransfer (t : Transfer Nat) (s : State) : Host.Outcome State Fault Refusal :=
  .next (s.transfer t.span (readBytes t.shifts)).conclude

/-- CONFIGURE (R166). -/
def execConfigure (part a0 a1 a2 a3 a4 a5 : Byte) (s : State) : Host.Outcome State Fault Refusal :=
  .next (s.give (.configure part a0 a1 a2 a3 a4 a5))

/-- READ_CONFIG (R166). -/
def execReadConfig (s : State) : Host.Outcome State Fault Refusal := .next (s.give .readConfig)

/-- JOIN (R162). -/
def execJoin (s : State) : Host.Outcome State Fault Refusal := .next (s.give .join)

/-- LEAVE (R162). -/
def execLeave (s : State) : Host.Outcome State Fault Refusal := .next (s.give .leave)

/-- RESTART (R168). -/
def execRestart (s : State) : Host.Outcome State Fault Refusal := .next (s.give .restart)

/-- CLAIM (R161). -/
def execClaim (slot requested minimum : Byte) (s : State) : Host.Outcome State Fault Refusal :=
  .next (s.give (.claim slot requested minimum))

/-- RELEASE (R161, R18). -/
def execRelease (slot : Byte) (s : State) : Host.Outcome State Fault Refusal := .next (s.give (.release slot))

/-- REQUEST_CRANK (R55). -/
def execRequestCrank (s : State) : Host.Outcome State Fault Refusal := .next (s.give .requestCrank)

/-- CANCEL_CRANK (R59). -/
def execCancelCrank (s : State) : Host.Outcome State Fault Refusal := .next (s.give .cancelCrank)

/-- CRANK_DONE (R59). -/
def execCrankDone (s : State) : Host.Outcome State Fault Refusal := .next (s.give .crankDone)

/-- CRANK_FAILED (R59, R60). -/
def execCrankFailed (s : State) : Host.Outcome State Fault Refusal := .next (s.give .crankFailed)

/-- ENGINE_RUNNING (R59). -/
def execEngineRunning (s : State) : Host.Outcome State Fault Refusal := .next (s.give .engineRunning)

/-- ENGINE_STOPPED (R59). -/
def execEngineStopped (s : State) : Host.Outcome State Fault Refusal := .next (s.give .engineStopped)

/-- ANNOUNCE_BUDGET (R51). -/
def execAnnounceBudget (ceiling reserve : Half) (s : State) : Host.Outcome State Fault Refusal :=
  .next (s.give (.announceBudget ceiling reserve))

/-- LIFT (R53). -/
def execLift (s : State) : Host.Outcome State Fault Refusal := .next (s.give .lift)

/-- READ_STATUS (R163). -/
def execReadStatus (page : Byte) (s : State) : Host.Outcome State Fault Refusal := .next (s.give (.readStatus page))

/-- READ_CLAIM (R20). -/
def execReadClaim (key : Byte) (s : State) : Host.Outcome State Fault Refusal := .next (s.give (.readClaim key))

/-- READ_PEER (R104). -/
def execReadPeer (station : Byte) (s : State) : Host.Outcome State Fault Refusal := .next (s.give (.readPeer station))

/-- READ_NOTICE (R164). -/
def execReadNotice (s : State) : Host.Outcome State Fault Refusal := .next (s.give .readNotice)

/-- READ_FAULT (R150). -/
def execReadFault (s : State) : Host.Outcome State Fault Refusal := .next (s.give .readFault)

/-- CLEAR_FAULT (R150). -/
def execClearFault (s : State) : Host.Outcome State Fault Refusal := .next (s.give .clearFault)

/-- READ_HISTORY (R155). -/
def execReadHistory (index : Byte) (s : State) : Host.Outcome State Fault Refusal := .next (s.give (.readHistory index))

/-- FREEZE_HISTORY (R154). -/
def execFreezeHistory (s : State) : Host.Outcome State Fault Refusal := .next (s.give .freezeHistory)

/-- THAW_HISTORY (R155). -/
def execThawHistory (s : State) : Host.Outcome State Fault Refusal := .next (s.give .thawHistory)

/-- SET_WATCH (R145). -/
def execSetWatch (unit control selector : Byte) (compare mask : Half) (reload : Byte) (s : State) :
    Host.Outcome State Fault Refusal :=
  .next (s.give (.setWatch unit control selector compare mask reload))

/-- ARM_WATCH (R146). -/
def execArmWatch (unit : Byte) (s : State) : Host.Outcome State Fault Refusal := .next (s.give (.armWatch unit))

/-- ECHO (R163). -/
def execEcho (bytes : List Byte) (s : State) : Host.Outcome State Fault Refusal := .next (s.give (.echo bytes))

end Sys2Proof.Machine
end

