-- ==== Sys2Proof/Machine/FrameRows.lean ====
section
/-! DEFINITION. The meanings of the sixteen rows that apply a frame: the application of the head of the inbound queue
(Machine/Applications.lean), and at its end the changes of station state (R87) and then the command (R159) that waited for
it (log entry 44). -/

namespace Sys2Proof.Machine

/-- R80: the head of the inbound queue is a frame of this kind. -/
def State.headIs (s : State) (kind : FrameKind) : Bool :=
  match s.link.inbound with
  | f :: _ => f.body.kind == kind
  | [] => false

/-- R159: the command whose condition began during the application is taken at the end of it. -/
def State.takeDue (s : State) : State := ((s.setPort { s.port with due := false }).takeCommand).conclude

/-- R80: a frame of this kind, where one stands at the head of the inbound queue, is applied whole. -/
def State.applyKind (s : State) : FrameKind → State
  | .presence => s.plainFrame .presence State.takePresence
  | .syncRequest => s.plainFrame .syncRequest State.takeSyncRequest
  | .snapshot => s.snapshotFrame
  | .join => s.tableFrame .join joinEffect
  | .leave => s.tableFrame .leave leaveEffect
  | .claim => s.tableFrame .claim claimEffect
  | .release => s.tableFrame .release releaseEffect
  | .settled => s.tableFrame .settled settledEffect
  | .phase => s.tableFrame .phase phaseEffect
  | .budget => s.tableFrame .budget budgetEffect
  | .shedRequest => s.tableFrame .shedRequest shedRequestEffect
  | .lift => s.tableFrame .lift liftEffect
  | .shedFault => s.tableFrame .shedFault shedFaultEffect
  | .stuckClear => s.tableFrame .stuckClear stuckClearEffect
  | .absence => s.tableFrame .absence absenceEffect
  | .reclaim => s.tableFrame .reclaim reclaimEffect

/-- R80, R87: one application, at whose end the changes of station state that waited for it take effect. -/
def State.application (s : State) (kind : FrameKind) : State :=
  if s.headIs kind && !s.link.late.isEmpty then (s.applyKind kind).makeLate else s.applyKind kind

/-- One application of a frame of this kind, and the taking of the command that is due at its end. -/
def State.applyRow (s : State) (kind : FrameKind) : State :=
  if s.headIs kind && s.port.due then (s.application kind).takeDue else s.application kind

/-- PRESENCE_FRAME (R82). -/
def execPresenceFrame (s : State) : Host.Outcome State Fault Refusal := .next (s.applyRow .presence)

/-- SYNC_REQUEST_FRAME (R96). -/
def execSyncRequestFrame (s : State) : Host.Outcome State Fault Refusal := .next (s.applyRow .syncRequest)

/-- SNAPSHOT_FRAME (R97, R98). -/
def execSnapshotFrame (s : State) : Host.Outcome State Fault Refusal := .next (s.applyRow .snapshot)

/-- JOIN_FRAME (R113). -/
def execJoinFrame (s : State) : Host.Outcome State Fault Refusal := .next (s.applyRow .join)

/-- LEAVE_FRAME (R117, R118). -/
def execLeaveFrame (s : State) : Host.Outcome State Fault Refusal := .next (s.applyRow .leave)

/-- CLAIM_FRAME (R12 to R15). -/
def execClaimFrame (s : State) : Host.Outcome State Fault Refusal := .next (s.applyRow .claim)

/-- RELEASE_FRAME (R16, R17). -/
def execReleaseFrame (s : State) : Host.Outcome State Fault Refusal := .next (s.applyRow .release)

/-- SETTLED_FRAME (R38, R39). -/
def execSettledFrame (s : State) : Host.Outcome State Fault Refusal := .next (s.applyRow .settled)

/-- PHASE_FRAME (R45 to R48). -/
def execPhaseFrame (s : State) : Host.Outcome State Fault Refusal := .next (s.applyRow .phase)

/-- BUDGET_FRAME (R49). -/
def execBudgetFrame (s : State) : Host.Outcome State Fault Refusal := .next (s.applyRow .budget)

/-- SHED_REQUEST_FRAME (R52). -/
def execShedRequestFrame (s : State) : Host.Outcome State Fault Refusal := .next (s.applyRow .shedRequest)

/-- LIFT_FRAME (R53). -/
def execLiftFrame (s : State) : Host.Outcome State Fault Refusal := .next (s.applyRow .lift)

/-- SHED_FAULT_FRAME (R128). -/
def execShedFaultFrame (s : State) : Host.Outcome State Fault Refusal := .next (s.applyRow .shedFault)

/-- STUCK_CLEAR_FRAME (R130). -/
def execStuckClearFrame (s : State) : Host.Outcome State Fault Refusal := .next (s.applyRow .stuckClear)

/-- ABSENCE_FRAME (R107 to R109). -/
def execAbsenceFrame (s : State) : Host.Outcome State Fault Refusal := .next (s.applyRow .absence)

/-- RECLAIM_FRAME (R111). -/
def execReclaimFrame (s : State) : Host.Outcome State Fault Refusal := .next (s.applyRow .reclaim)

end Sys2Proof.Machine
end

