-- ==== Sys2Proof/Machine/Dispatch.lean ====
section
/-! DEFINITION. The effect of each command on everything but the queue: one arm per row of the table. -/

namespace Sys2Proof.Machine

def exec (i : Instr) (s : State) : Host.Outcome State Fault Refusal :=
  match i with
  | .pinReset edge straps => Sys2Proof.Machine.execPinReset edge straps s
  | .spiStatusTransfer t => Sys2Proof.Machine.execSpiStatusTransfer t s
  | .spiWriteTransfer t => Sys2Proof.Machine.execSpiWriteTransfer t s
  | .spiReadTransfer t => Sys2Proof.Machine.execSpiReadTransfer t s
  | .configure part a0 a1 a2 a3 a4 a5 => Sys2Proof.Machine.execConfigure part a0 a1 a2 a3 a4 a5 s
  | .readConfig => Sys2Proof.Machine.execReadConfig s
  | .join => Sys2Proof.Machine.execJoin s
  | .leave => Sys2Proof.Machine.execLeave s
  | .restart => Sys2Proof.Machine.execRestart s
  | .claim slot requested minimum => Sys2Proof.Machine.execClaim slot requested minimum s
  | .release slot => Sys2Proof.Machine.execRelease slot s
  | .requestCrank => Sys2Proof.Machine.execRequestCrank s
  | .cancelCrank => Sys2Proof.Machine.execCancelCrank s
  | .crankDone => Sys2Proof.Machine.execCrankDone s
  | .crankFailed => Sys2Proof.Machine.execCrankFailed s
  | .engineRunning => Sys2Proof.Machine.execEngineRunning s
  | .engineStopped => Sys2Proof.Machine.execEngineStopped s
  | .announceBudget ceiling reserve => Sys2Proof.Machine.execAnnounceBudget ceiling reserve s
  | .lift => Sys2Proof.Machine.execLift s
  | .readStatus page => Sys2Proof.Machine.execReadStatus page s
  | .readClaim key => Sys2Proof.Machine.execReadClaim key s
  | .readPeer station => Sys2Proof.Machine.execReadPeer station s
  | .readNotice => Sys2Proof.Machine.execReadNotice s
  | .readFault => Sys2Proof.Machine.execReadFault s
  | .clearFault => Sys2Proof.Machine.execClearFault s
  | .readHistory index => Sys2Proof.Machine.execReadHistory index s
  | .freezeHistory => Sys2Proof.Machine.execFreezeHistory s
  | .thawHistory => Sys2Proof.Machine.execThawHistory s
  | .setWatch unit control selector compare mask reload => Sys2Proof.Machine.execSetWatch unit control selector compare mask reload s
  | .armWatch unit => Sys2Proof.Machine.execArmWatch unit s
  | .echo bytes => Sys2Proof.Machine.execEcho bytes s
  | .startBit => Sys2Proof.Machine.execStartBit s
  | .lostContention => Sys2Proof.Machine.execLostContention s
  | .readbackFailure => Sys2Proof.Machine.execReadbackFailure s
  | .frameCompletedClean => Sys2Proof.Machine.execFrameCompletedClean s
  | .frameReceived frame => Sys2Proof.Machine.execFrameReceived frame s
  | .presenceFrame => Sys2Proof.Machine.execPresenceFrame s
  | .syncRequestFrame => Sys2Proof.Machine.execSyncRequestFrame s
  | .snapshotFrame => Sys2Proof.Machine.execSnapshotFrame s
  | .joinFrame => Sys2Proof.Machine.execJoinFrame s
  | .leaveFrame => Sys2Proof.Machine.execLeaveFrame s
  | .claimFrame => Sys2Proof.Machine.execClaimFrame s
  | .releaseFrame => Sys2Proof.Machine.execReleaseFrame s
  | .settledFrame => Sys2Proof.Machine.execSettledFrame s
  | .phaseFrame => Sys2Proof.Machine.execPhaseFrame s
  | .budgetFrame => Sys2Proof.Machine.execBudgetFrame s
  | .shedRequestFrame => Sys2Proof.Machine.execShedRequestFrame s
  | .liftFrame => Sys2Proof.Machine.execLiftFrame s
  | .shedFaultFrame => Sys2Proof.Machine.execShedFaultFrame s
  | .stuckClearFrame => Sys2Proof.Machine.execStuckClearFrame s
  | .absenceFrame => Sys2Proof.Machine.execAbsenceFrame s
  | .reclaimFrame => Sys2Proof.Machine.execReclaimFrame s
  | .heartbeatExpiry => Sys2Proof.Machine.execHeartbeatExpiry s
  | .probeDue => Sys2Proof.Machine.execProbeDue s
  | .syncTimeout => Sys2Proof.Machine.execSyncTimeout s
  | .isolationBySilence => Sys2Proof.Machine.execIsolationBySilence s
  | .silenceTimerExpiry peer => Sys2Proof.Machine.execSilenceTimerExpiry peer s
  | .orphanHoldExpiry peer => Sys2Proof.Machine.execOrphanHoldExpiry peer s
  | .crankSettleExpiry => Sys2Proof.Machine.execCrankSettleExpiry s
  | .lockoutExpiry => Sys2Proof.Machine.execLockoutExpiry s
  | .shedFallingEdge => Sys2Proof.Machine.execShedFallingEdge s
  | .shedRisingEdge => Sys2Proof.Machine.execShedRisingEdge s
  | .latchLimitExpiry => Sys2Proof.Machine.execLatchLimitExpiry s
  | .feedbackChange slot drawing => Sys2Proof.Machine.execFeedbackChange slot drawing s
  | .offDeadlineExpiry slot => Sys2Proof.Machine.execOffDeadlineExpiry slot s
  | .stuckClearRetry slot => Sys2Proof.Machine.execStuckClearRetry slot s
  | .settleTimerExpiry slot => Sys2Proof.Machine.execSettleTimerExpiry slot s
  | .gateTimeoutExpiry => Sys2Proof.Machine.execGateTimeoutExpiry s
  | .holdLimit slot => Sys2Proof.Machine.execHoldLimit slot s
  | .vsenseSample sample => Sys2Proof.Machine.execVsenseSample sample s
  | .watchPulseExpiry second => Sys2Proof.Machine.execWatchPulseExpiry second s

end Sys2Proof.Machine
end

