-- ==== Sys2Proof/Safety.lean ====
section
/-! DEFINITION. The predicates that the statements about the station speak in: what every event leaves, the capacities of
its queues, the laws of the device, and the premises under which a command is taken. -/

namespace Sys2Proof.Machine

/-! What every event leaves. -/

/-- Every slot record is as the state requires it: its enable follows the rule of R123, its off deadline runs exactly
while the conditions of R127 hold (unless a SHED_FAULT has been queued), its unclaimed-draw flag marks R131's episode;
and the history holds at most 32 entries (R153). -/
def State.Settled (s : State) : Prop :=
  (∀ i : SlotNo, s.refreshed i (s.slot i) = s.slot i) ∧ s.history.entries.length ≤ Config.historyCapacity

/-- R70, R79, R164, R153: no queue holds more than its capacity. -/
def State.Bounded (s : State) : Prop :=
  s.link.urgent.length ≤ Config.urgentCapacity ∧ s.link.general.length ≤ Config.generalCapacity
    ∧ s.link.inbound.length ≤ Config.inboundCapacity ∧ s.port.notices.length ≤ Config.noticeCapacity
    ∧ s.history.entries.length ≤ Config.historyCapacity

/-- R78, R87: the inbound queue holds only frames that the station state admits. -/
def State.InboundFits (s : State) : Prop := ∀ f ∈ s.link.inbound, admits s.mode s.self f = true

/-- R73, R80, R87: no frame waits in the inbound queue while the station's own is in transmission, and a change of
station state waits only while one does: an application is under way (log entry 44). -/
def State.LateUnderWay (s : State) : Prop :=
  (s.link.tx.isSome = true → s.link.inbound = []) ∧ (s.link.late ≠ [] → s.link.inbound ≠ [])

/-- R54, R56: the crank hold stands only while a crank is under way. -/
def State.HoldUnderCrank (s : State) : Prop := s.crank.hold = true → s.crank.state.underWay = true

/-- R123, law 8: every enable is on exactly when the rule has it on. -/
def State.EnablesFollow (s : State) : Prop := ∀ i : SlotNo, s.enabled i = s.enableRule i

/-- Law 7 (R64): while SHED# is low no slot that mirrors a low-class claim is on. -/
def State.LowOffUnderShed (s : State) : Prop :=
  s.shedHigh = false → ∀ (i : SlotNo) (v : ClaimValues),
    (s.slot i).state ≠ .carried → (s.slot i).values = some v → v.cls.low = true → s.enabled i = false

/-- R134: the slot's hold time counts, towards this limit; in UNCONFIGURED and OFFLINE none does (R120). -/
def State.countsHold (s : State) (i : SlotNo) (limit : Nat) : Prop :=
  s.mode.live = true ∧ (s.part i).used = true ∧ (s.part i).cls = .deferrable ∧ (s.part i).holdLimit = some limit
    ∧ ((s.slot i).state = .held ∨ (s.slot i).state = .trimmed)

/-- Law 12 (R148): what one event makes of a locked fault record. -/
def FaultKept (s t : State) : Prop :=
  s.fault.lock = true → t.fault.lock = true ∧ t.fault.record = s.fault.record

/-- R167: RESET# is low and every block at its pin-reset values; the queue, the local time, the straps, the inputs and
the free counter stand as they are. -/
def State.HeldInReset (s : State) : Prop :=
  s = { State.reset with
    pending := s.pending, resetLow := true, now := s.now, straps := s.straps, pins := s.pins, freeCount := s.freeCount }

/-! The mailbox. -/

/-- R158, R159: a record written now is taken at once; a part held in reset answers no transfer (R167). -/
structure State.MailboxFree (s : State) : Prop where
  awake : s.resetLow = false
  noCommand : s.port.command = none
  noResponse : s.port.response = none

/-- The row of the table that writes a command's record. -/
def Command.row : Command → Instr
  | .configure part a0 a1 a2 a3 a4 a5 => .configure part a0 a1 a2 a3 a4 a5
  | .readConfig => .readConfig
  | .join => .join
  | .leave => .leave
  | .restart => .restart
  | .claim slot requested minimum => .claim slot requested minimum
  | .release slot => .release slot
  | .requestCrank => .requestCrank
  | .cancelCrank => .cancelCrank
  | .crankDone => .crankDone
  | .crankFailed => .crankFailed
  | .engineRunning => .engineRunning
  | .engineStopped => .engineStopped
  | .announceBudget ceiling reserve => .announceBudget ceiling reserve
  | .lift => .lift
  | .readStatus page => .readStatus page
  | .readClaim key => .readClaim key
  | .readPeer station => .readPeer station
  | .readNotice => .readNotice
  | .readFault => .readFault
  | .clearFault => .clearFault
  | .readHistory index => .readHistory index
  | .freezeHistory => .freezeHistory
  | .thawHistory => .thawHistory
  | .setWatch unit control selector compare mask reload => .setWatch unit control selector compare mask reload
  | .armWatch unit => .armWatch unit
  | .echo bytes => .echo bytes

/-- R163: an ECHO carries at most 23 bytes. -/
def Command.sized (c : Command) : Prop := c.bytes.length ≤ 24

/-- The state with a response in its buffer and no command waiting. -/
def State.responds (s : State) (code : ResponseCode) (body : List Byte) : State :=
  s.setPort { s.port with command := none, response := some (byteOf code.code :: body) }

/-- The row that applies a frame of this kind. -/
def frameRow : FrameKind → Instr
  | .presence => .presenceFrame
  | .syncRequest => .syncRequestFrame
  | .snapshot => .snapshotFrame
  | .join => .joinFrame
  | .leave => .leaveFrame
  | .claim => .claimFrame
  | .release => .releaseFrame
  | .settled => .settledFrame
  | .phase => .phaseFrame
  | .budget => .budgetFrame
  | .shedRequest => .shedRequestFrame
  | .lift => .liftFrame
  | .shedFault => .shedFaultFrame
  | .stuckClear => .stuckClearFrame
  | .absence => .absenceFrame
  | .reclaim => .reclaimFrame

/-- The table engine applies no frame at the rise of CS# that this span of a transfer ends with (R159). -/
def State.idleRise (s : State) : Span → Bool
  | .whole => true
  | .fall => false
  | .rise applying => !(s.engineBusy applying)

/-- The port, as it stands when this span of a transfer ends: CS# has fallen on it, unless the span is a rise alone. -/
def State.selected (s : State) : Span → Option Selected
  | .whole => s.selectPort.port.select
  | _ => s.port.select

/-- The record that a transfer takes at its rise, if it takes one: that of a WRITE into a free mailbox, or the one that
waits for a READ to empty the response buffer (R158, R159). -/
def takenAtRise (s : State) (span : Span) (shifted : List Byte) : Option CommandRecord :=
  match s.selected span, shifted with
  | some o, kind :: rest =>
    if s.resetLow = false ∧ s.idleRise span = true then
      match TransferType.ofByte kind with
      | .status => none
      | .write =>
        if rest.isEmpty || s.port.command.isSome || s.port.response.isSome then none else some (.ofWrite rest)
      | .read => match o.full, s.port.response with
        | true, some response => if response.length ≤ rest.length then s.port.command else none
        | _, _ => none
    else none
  | _, _ => none

/-- The record that a command's event takes, if it takes one: at the rise of CS#, by a CLEAR_FAULT, or at the end of the
application that it was due at (R158, R159). -/
def takenRecord (c : Instr) (s : State) : Option CommandRecord :=
  match c with
  | .spiStatusTransfer t => takenAtRise s t.span t.shifts
  | .spiWriteTransfer t => takenAtRise s t.span (1 :: t.shifts)
  | .spiReadTransfer t => takenAtRise s t.span (readBytes t.shifts)
  | .clearFault =>
    if s.resetLow || s.port.command.isSome || s.port.response.isSome then none
    else some (.ofWrite Command.clearFault.bytes)
  | c => match s.link.inbound with
    | f :: _ => if c = frameRow f.body.kind ∧ s.port.due = true ∧ s.port.response = none then s.port.command else none
    | [] => none

/-- R148, R150: the events that empty the fault record: a pin reset, and the taking of a CLEAR_FAULT. -/
def emptiesFault (c : Instr) (s : State) : Prop :=
  (∃ edge pins, c = .pinReset edge pins) ∨ ∃ r, takenRecord c s = some r ∧ r.command = .ok .clearFault

/-- The premises under which a row of the mailbox is taken at once, in a state such as every event leaves. -/
structure State.Open (s : State) : Prop where
  settled : s.Settled
  free : s.MailboxFree

/-- R59: what every report of the crank and the engine asks, in such a state. -/
structure State.Reports (s : State) : Prop where
  ready : s.Open
  mode : s.mode = .member ∨ s.mode = .tainted
  staying : s.slotUnit.leavePending = false
  named : s.namedCrank = true

/-- R59: the attempts value that a CRANK_FAILED sends; with attempts already 3 it is a free value (log entry 16). -/
def State.nextAttempts (s : State) : BitVec 2 :=
  if s.attempts = 3 then Config.attemptsPastThree s.freeCount else s.attempts + 1

/-! The conditions of the commands (R160): each in the order of its rule, with the answer where it fails. -/

/-- The answer of the first of these conditions that does not hold. -/
def FirstFails : List (Prop × ResponseCode) → ResponseCode → Prop
  | [], _ => False
  | (condition, answer) :: rest, code => (¬ condition ∧ answer = code) ∨ (condition ∧ FirstFails rest code)

/-- R166: the fields of a general part are in range, 0 standing for a default. -/
def GeneralInRange (a1 a2 a3 a4 a5 : Byte) : Prop :=
  a1.toNat ≤ 60 ∧ (halfOf a2 a3 = 0 ∨ (100 ≤ (halfOf a2 a3).toNat ∧ (halfOf a2 a3).toNat ≤ 2000))
    ∧ (a4 = 0 ∨ (20 ≤ a4.toNat ∧ a4.toNat ≤ 200)) ∧ (a5 = 0 ∨ (2 ≤ a5.toNat ∧ a5.toNat ≤ 30))

/-- R166: the fields of a used slot's part are in range, 0 standing for a default where there is one. -/
def SlotInRange (a0 a1 a2 a3 a4 a5 : Byte) : Prop :=
  ∃ cls, LoadClass.ofCode (a0.extractLsb' 0 3).toNat = some cls ∧ 1 ≤ a1.toNat ∧ a1.toNat ≤ 200 ∧ 5 ≤ a2.toNat
    ∧ a2.toNat ≤ 250 ∧ (a3 = 0 ∨ (5 ≤ a3.toNat ∧ a3.toNat ≤ 250))
    ∧ (halfOf a4 a5 = 0 ∨ ((halfOf a4 a5).toNat ≤ 3600 ∧ cls = .deferrable))

/-- R145: what a SET_WATCH may ask of a unit. -/
def WatchInRange (unit control selector : Byte) (compare mask : Half) : Prop :=
  unit.toNat ≤ 1 ∧ (control.getLsbD 6 = true → unit.toNat = 1) ∧
    ∃ source relation, WatchSource.ofCode (selector.extractLsb' 5 3).toNat = some source ∧
      Relation.ofCode (selector.extractLsb' 0 2).toNat = some relation ∧ source.allows relation compare.toInt = true ∧
      (source = .frame → mask ≠ 0)

/-- The slot that a byte names satisfies a predicate, where it names one. -/
def onSlot (slot : Byte) (holds : SlotNo → Prop) : Prop := ∀ i, slotOf slot = some i → holds i

/-- R59: the first two conditions of the five reports (the leave-pending flag by R160, log entry 17). -/
def State.reporter (s : State) : List (Prop × ResponseCode) :=
  [((s.mode = .member ∨ s.mode = .tainted) ∧ s.slotUnit.leavePending = false, .refusedState),
    (s.namedCrank = true, .notRole)]

/-- A MEMBER whose leave-pending flag is clear (R160, log entry 17). -/
def State.mayAsk (s : State) : Prop := s.mode = .member ∧ s.slotUnit.leavePending = false

/-- R20, R51, R53, R55, R59, R104, R145, R146, R154, R155, R161 to R163, R166, R168: the conditions of each command, in
order, with the answer where one fails. -/
def State.conditions (s : State) : Command → List (Prop × ResponseCode)
  | .configure part a0 a1 a2 a3 a4 a5 =>
    [(s.mode = .unconfigured ∧ s.config.locked = false, .refusedState), (part.toNat ≤ 4, .badArg),
      ((part = 0 → GeneralInRange a1 a2 a3 a4 a5) ∧
        (part ≠ 0 → a0.getLsbD 7 = true → SlotInRange a0 a1 a2 a3 a4 a5), .badArg)]
  | .join =>
    [((s.mode = .unconfigured ∧ s.config.general.given = true) ∨
        (s.mode = .offline ∧ s.station.offline = some .leave), .refusedState)]
  | .leave =>
    [(s.mayAsk, .refusedState), (s.boundByCrank = false, .refusedPhase), (s.link.general.length < 6, .queueFull)]
  | .restart =>
    [(s.mode ≠ .unconfigured ∧ ¬ (s.mode = .offline ∧ s.station.offline = some .duplicate), .refusedState)]
  | .claim slot requested minimum =>
    [(s.mayAsk, .refusedState), (slot.toNat ≤ 3 ∧ onSlot slot fun i => (s.part i).used = true, .badArg),
      (onSlot slot fun i => (s.slot i).state = .free, .refusedState),
      (onSlot slot fun i => 1 ≤ requested.toNat ∧ requested.toNat ≤ (s.part i).maxAmps, .badArg),
      (onSlot slot fun i => minimum = 0 ∨ (minimum.toNat < requested.toNat ∧ (s.part i).minAllowed = true), .badArg),
      (s.link.general.length < 6, .queueFull)]
  | .release slot =>
    [(s.mode = .member ∨ s.mode = .tainted ∨ s.mode = .isolated, .refusedState), (slot.toNat ≤ 3, .badArg),
      (onSlot slot fun i =>
        (s.slot i).state ≠ .free ∧ (s.slot i).state ≠ .releasing ∧ (s.slot i).state ≠ .carried, .refusedState),
      (onSlot slot fun i => s.claimUnsent i = true ∨ s.slotUnit.leavePending = false, .refusedState),
      (onSlot slot fun i => s.claimUnsent i = true ∨ s.link.general.length < 6, .queueFull)]
  | .requestCrank =>
    [(s.mayAsk, .refusedState), (s.namedCrank = true, .notRole),
      (s.crank.state ≠ .lockout ∧ s.attempts ≠ 3, .refusedLockout),
      (s.crank.state = .idle ∧ s.phaseIs [.stop] = true, .refusedPhase), (s.link.urgent.length < 3, .queueFull)]
  | .cancelCrank => s.reporter ++
    [(s.crank.state = .settling ∨ s.crank.state = .cranking, .refusedPhase),
      (s.phaseUnsent .crankPending = true ∨
        (withdrawFrom (s.link.sending .urgent) Queued.isCrankFrame s.link.urgent).length < 3, .queueFull)]
  | .crankDone | .crankFailed => s.reporter ++
    [(s.phaseIs [.crank] = true, .refusedPhase), (s.link.urgent.length < 3, .queueFull)]
  | .engineRunning => s.reporter ++
    [(s.phaseIs [.recover] = true, .refusedPhase), (s.link.urgent.length < 3, .queueFull)]
  | .engineStopped => s.reporter ++
    [(s.phaseIs [.run, .recover] = true, .refusedPhase), (s.link.urgent.length < 3, .queueFull)]
  | .announceBudget ceiling reserve =>
    [(s.mayAsk, .refusedState), (s.namedSupply = true, .notRole),
      (ceiling.toNat ≤ 1600 ∧ reserve.toNat ≤ ceiling.toNat, .badArg), (s.link.general.length < 6, .queueFull)]
  | .lift => [(s.mayAsk, .refusedState), (s.link.general.length < 6, .queueFull)]
  | .readStatus page => [(page.toNat ≤ 8, .badArg)]
  | .readClaim key => [(s.mode ≠ .unconfigured ∧ s.mode ≠ .joining, .refusedState), (key.toNat ≤ 63, .badArg)]
  | .readPeer station => [(station.toNat ≤ 15, .badArg)]
  | .readHistory index =>
    [(s.mode ≠ .unconfigured, .refusedState), (index.toNat ≤ 31, .badArg), (s.history.frozen = true, .notFrozen)]
  | .freezeHistory | .thawHistory => [(s.mode ≠ .unconfigured, .refusedState)]
  | .setWatch unit control selector compare mask _ =>
    [(s.mode.live = true, .refusedState), (WatchInRange unit control selector compare mask, .badArg)]
  | .armWatch unit =>
    [(s.mode.live = true, .refusedState), (unit.toNat ≤ 1, .badArg),
      ((s.unit (decide (unit.toNat = 1))).state ≠ .off, .refusedState)]
  | .readConfig | .readNotice | .readFault | .clearFault | .echo _ => []

/-- R60: the sequencer at its entry into LOCKOUT. -/
def State.lockedOut (s : State) : CrankUnit :=
  { CrankUnit.reset with state := .lockout, lockout := some (s.now + 1000 * s.config.general.crankLockout) }

/-- The body of a PHASE frame (R170). -/
def phaseFrameBody (p : Phase) (attempts : BitVec 2) : Body := .phase (BitVec.ofNat 3 p.code) attempts

/-- R60, the second case: in this station state, with replica r, an IDLE sequencer enters LOCKOUT: MEMBER, named, STOP
with attempts 3, and no closing STOP of its own in the urgent lane or among these inbound frames. The closing STOP is
told by its content, STOP with attempts 0, whatever queued it (log entry 19). -/
def State.OwesLockout (s : State) (mode : StationState) (r : Replica) (inbound : List Frame) : Prop :=
  mode = .member ∧ r.phase.crankStation = some s.self ∧ r.phase.phase = .stop ∧ r.phase.attempts = 3 ∧
    s.inUrgent (fun q => q == .fixed (phaseFrameBody .stop 0)) = false ∧
    ∀ f ∈ inbound, ¬ (f.sender = s.self ∧ f.body = phaseFrameBody .stop 0)

/-- R61: in this station state, with replica r, the station is OFFLINE or no longer named, or the phase has strayed from
what the sequencer expects. -/
def State.Strays (s : State) (mode : StationState) (r : Replica) : Prop :=
  mode = .offline ∨ r.phase.crankStation ≠ some s.self ∨
    (s.crank.state = .settling ∧ r.phase.phase ≠ .stop ∧ r.phase.phase ≠ .crankPending) ∨
    (s.crank.state = .cranking ∧ r.phase.phase ≠ .crankPending ∧ r.phase.phase ≠ .crank)

/-- R61: the application of frame f, ignored or not, that leaves this station state and replica r abandons the crank
under way: its own CRANK_PENDING or CRANK was ignored, or the station strays. -/
def State.Abandons (s : State) (f : Frame) (ignored : Option IgnoreCause) (mode : StationState) (r : Replica) : Prop :=
  s.crank.state.underWay = true ∧
    ((f.sender = s.self ∧ ignored ≠ none ∧
        ∃ n, f.body = phaseFrameBody .crankPending n ∨ f.body = phaseFrameBody .crank n) ∨ s.Strays mode r)

/-! Applications. -/

/-- The next step takes this frame from the head of the inbound queue, with no yield, on replica r, and no command is
due at its end (R159), nor any change of station state (R87). -/
structure State.Applies (s : State) (f : Frame) (r : Replica) (rest : List Frame) : Prop where
  head : s.link.inbound = f :: rest
  alone : s.port.due = false
  quiet : s.link.late = []
  holds : s.replica = some r
  taken : f.verdict s.mode s.self r ≠ .yields

/-- The epilogue's answer for a frame of this own effect. -/
def Replica.applied (r : Replica) (effect : Replica → OwnEffect) : Replica := (r.apply effect).after

/-- R121: a slot shows the record of its key, or FREE with no claim values where there is none. -/
def SlotRecord.Shows (slot : SlotRecord) (record : Option Claim) : Prop :=
  match record with
  | some c => slot.state = c.state.mirror ∧
      slot.values = some { cls := c.cls, requested := c.requested, minimum := c.minimum }
  | none => slot.state = .free ∧ slot.values = none

/-- R164: from s to t this notice is the first to be posted, where the queue has room for it. -/
def PostsFirst (s t : State) (epoch : Option Half) (content : NoticeContent) : Prop :=
  s.port.notices.length < 16 →
    s.port.notices ++ [{ stamp := s.stamp, epoch := epoch, content := content }] <+: t.port.notices

/-- R100, R109, R118: the station state after the application of f, with replica `after`, whose own effect came to
`ignored`. -/
def State.modeAfter (s : State) (f : Frame) (ignored : Option IgnoreCause) (after : Replica) : StationState :=
  if f.sender = s.self ∧ f.body.kind = .join ∧ s.mode = .entering ∧ after.isPresent s.self = true then .member
  else if f.sender = s.self ∧ f.body = .leave then .offline
  else if f.body = .absence (byteOf s.self.val) ∧ ignored = none ∧ s.mode = .member then .entering
  else s.mode

/-- R100, R109: the application of f, which leaves the station ENTERING, queues its JOIN: an ABSENCE about itself that
was not ignored, or its own JOIN that leaves it absent. -/
def State.RejoinsAfter (s : State) (f : Frame) (ignored : Option IgnoreCause) (after : Replica) : Prop :=
  (f.body = .absence (byteOf s.self.val) ∧ ignored = none) ∨
    (f.sender = s.self ∧ f.body.kind = .join ∧ s.mode = .entering ∧ after.isPresent s.self = false)

/-- R64: a frame of this own effect explains a falling edge of SHED#. -/
def Explains (f : Frame) (e : OwnEffect) : Prop :=
  e.ignored = none ∧ (f.body.kind = .shedRequest ∨ (f.body.kind = .phase ∧ e.rep.phase.phase = .crankPending))

/-- R105, R110: the timers of every peer's record, after an application that took the replica from `before` to `after`. A
peer that has become present is measured from its last good frame. -/
def TimersFollow (s t : State) (before after : Replica) : Prop :=
  ∀ n : Station,
    (t.peer n).silence = (if n ≠ s.self ∧ after.isPresent n = true ∧ t.mode.watching = true then
      (if before.isPresent n = true then (s.peer n).silence else some ((s.peer n).lastValid.getD s.now + 350)) else none) ∧
    (t.peer n).orphanHold = (if n ≠ s.self ∧ after.isPresent n = false ∧ after.hasReclaimable n = true ∧
        t.mode.watching = true then
      some ((s.peer n).orphanHold.getD (s.now + 1000 * s.config.general.orphanHold)) else none)

/-- R98, R121, R125, R105, R110: what the load of replica r leaves. SHED# is read at its end, where a crank it abandons
has released its hold. A slot that mirrors (neither SENDING, RELEASING nor CARRIED, and configured as used) shows its
loaded record. -/
structure State.Loaded (s t : State) (r : Replica) : Prop where
  replica : t.replica = some r
  sync : t.station.syncCount = 0 ∧ t.station.syncTimer = none
  shows : ∀ i, (s.part i).used = true → (s.slot i).state.apart = false → (t.slot i).Shows (r.find (s.ownKey i))
  told : s.port.notices.length ≤ 6 → ∀ i, (s.part i).used = true → (s.slot i).state.apart = false →
    (t.slot i).state ≠ (s.slot i).state →
      ∃ n ∈ t.port.notices, n.content = .slot i none none .loaded
  line : t.pins = s.pins ∧ t.w0 = s.w0 ∧ t.w1 = s.w1
  released : s.crank.state.underWay = true → s.Strays t.mode r → t.crank.hold = false
  holds : s.crank.state.underWay = true → ¬ s.Strays t.mode r → t.crank.hold = s.crank.hold
  latches : ∀ i, (t.slot i).latch = (!t.shedHigh && (t.slot i).latchable)
  latchLimit : t.slotUnit.latchLimit =
    (if ∃ i, (t.slot i).latch = true then some (s.now + s.config.general.latchLimit) else none)
  silence : ∀ n, (t.peer n).silence = (if n ≠ s.self ∧ r.isPresent n = true then some (s.now + 350) else none)
  orphanHold : ∀ n, (t.peer n).orphanHold =
    (if n ≠ s.self ∧ r.isPresent n = false ∧ r.hasReclaimable n = true then
      some (s.now + 1000 * s.config.general.orphanHold) else none)

/-- The own effect of each table-changing kind. -/
def tableEffect : FrameKind → Option (Frame → Replica → OwnEffect)
  | .presence | .syncRequest | .snapshot => none
  | .join => some joinEffect
  | .leave => some leaveEffect
  | .claim => some claimEffect
  | .release => some releaseEffect
  | .settled => some settledEffect
  | .phase => some phaseEffect
  | .budget => some budgetEffect
  | .shedRequest => some shedRequestEffect
  | .lift => some liftEffect
  | .shedFault => some shedFaultEffect
  | .stuckClear => some stuckClearEffect
  | .absence => some absenceEffect
  | .reclaim => some reclaimEffect

/-- The counter of a fault kind (R149). -/
def State.counter (s : State) (k : FaultKind) : Nat := s.fault.counters[k.index.val]

/-- R147, R149: from s to t one capture of this kind has been counted. -/
def Counted (s t : State) (k : FaultKind) : Prop := t.counter k = Nat.min 255 (s.counter k + 1)

/-- R70, R147, R148: from s to t one frame of this kind has been dropped at a full lane: OUTBOUND_FULL has been counted,
and a record that was not locked holds it, with this timestamp. -/
def Drops (s t : State) (stamp : Half) (kind : FrameKind) : Prop :=
  Counted s t .outboundFull ∧ (s.fault.lock = false → t.fault.record = some
    { kind := .outboundFull, subject := .none, frame := some kind, epoch := s.epoch, stamp := stamp })

/-- From s to t nothing has moved in the replica, the station unit, the watch units, the pins and the configuration. -/
def Untouched (s t : State) : Prop :=
  t.replica = s.replica ∧ t.station = s.station ∧ t.w0 = s.w0 ∧ t.w1 = s.w1 ∧ t.pins = s.pins ∧ t.config = s.config

/-- R118, R87: where a station goes that leaves for another state: to OFFLINE, if its own completed LEAVE is discarded
there. -/
def leavingFor (ownLeave : Bool) (new : StationState) : StationState := if ownLeave then .offline else new

/-- The station's own completed LEAVE stands among these frames. -/
def hasOwnLeave (self : Station) (frames : List Frame) : Bool := frames.any fun f => f.sender == self && f.body == .leave

/-- R139, R141: one evaluation, matching (`hit`) or not, takes a unit from u to v: what it makes of the counter and,
where the unit fires, of the state. -/
def Counts (u v : WatchUnit) (hit : Prop) : Prop :=
  (¬ hit → v = if u.source = .supply ∨ u.source = .headroom then { u with counter := u.reload } else u) ∧
  (hit → u.counter ≠ 0 → v = { u with counter := u.counter - 1 }) ∧
  (hit → u.counter = 0 → v =
    { u with
      state := if u.actions.rearm then .armed else .fired
      counter := if u.actions.rearm then u.reload else 0
      pulse := v.pulse } ∧ (u.actions.pullShed = false → v.pulse = u.pulse))

/-- R141 to R144: what else a firing of a unit does, from s to t: its history entry, its notice, its pulse with the
SHED_REQUEST, and the freeze. -/
structure Fires (s t : State) (second : Bool) (value : EvalValue) : Prop where
  entry : s.history.frozen = false → ∃ e ∈ t.history.entries, e.event =
    .watch second .armed (if (s.unit second).actions.rearm then .armed else .fired) value
  notify : (s.unit second).actions.notify = true → PostsFirst s t s.epoch
    (.watch second (s.unit second).source value (s.unit second).actions
      (if (s.unit second).actions.rearm then .armed else .fired)
      (if second then none
       else some (s.w1.sequence && (s.w1.state == .armed || s.w1.state == .disarmed))))
  pulse : (s.unit second).actions.pullShed = true → (t.unit second).pulse = some (s.now + 50) ∧ t.shedHigh = false
  request : (s.unit second).actions.pullShed = true → s.link.urgent.length < 3 →
    t.link = { s.link with urgent :=
      if (s.mode = .member ∨ s.mode = .tainted) ∧ s.inUrgent (Queued.isShedRequest (some 0)) = false then
        s.link.urgent ++ [.fixed (.shedRequest 0 s.pins.vsense)]
      else s.link.urgent }
  quiet : (s.unit second).actions.pullShed = false → t.link = s.link
  freeze : (s.unit second).actions.freeze = true → t.history.frozen = true

/-- R141 to R144: what an event that fires a unit leaves, whatever offered the evaluation, from s to t: the unit's
history entry; under NOTIFY its notice; under PULL_SHED its pulse, with SHED# low and, of a station that was MEMBER or
TAINTED when the frame or the event came, a SHED_REQUEST of cause WATCH, of another none; under FREEZE a frozen
history. Where the queue or the lane has room at the end, it had room at the firing. -/
structure Fired (s t : State) (second : Bool) (value : EvalValue) : Prop where
  entry : s.history.frozen = false → ∃ e ∈ t.history.entries, e.event =
    .watch second .armed (if (s.unit second).actions.rearm then .armed else .fired) value
  notify : (s.unit second).actions.notify = true → t.port.notices.length < 16 → ∃ n ∈ t.port.notices,
    n.stamp = s.stamp ∧ n.epoch = t.epoch ∧ n.content =
      .watch second (s.unit second).source value (s.unit second).actions
        (if (s.unit second).actions.rearm then .armed else .fired)
        (if second then none
         else some (s.w1.sequence && (s.w1.state == .armed || s.w1.state == .disarmed)))
  pulse : (s.unit second).actions.pullShed = true → (t.unit second).pulse = some (s.now + 50) ∧ t.shedHigh = false
  request : (s.unit second).actions.pullShed = true → s.mode = .member ∨ s.mode = .tainted →
    t.link.urgent.length < 3 → t.inUrgent (Queued.isShedRequest (some 0)) = true
  unasked : s.mode ≠ .member → s.mode ≠ .tainted →
    t.inUrgent (Queued.isShedRequest (some 0)) = s.inUrgent (Queued.isShedRequest (some 0))
  freeze : (s.unit second).actions.freeze = true → t.history.frozen = true

/-- R140: what a firing of W0 makes of W1, from s to t: DISARMED in SEQUENCE it is ARMED with its counter reloaded;
ARMED in SEQUENCE on the same source its counter is reloaded, and it does not count the evaluation; else, not ARMED, it
stays. -/
structure Reacts (s t : State) : Prop where
  arms : s.w1.state = .disarmed → s.w1.sequence = true →
    t.w1 = { s.w1 with state := .armed, counter := s.w1.reload }
  reloads : s.w1.state = .armed → s.w1.sequence = true → s.w1.source = s.w0.source →
    t.w1 = { s.w1 with counter := s.w1.reload }
  stays : s.w1.state ≠ .armed → ¬ (s.w1.state = .disarmed ∧ s.w1.sequence = true) → t.w1 = s.w1

/-- R137 to R140: the evaluations of one event take the units from s to t, where the sources in `offered` are offered
the value that `value` gives, which matches a unit as `hit` says. A unit that is ARMED alone counts what its source is
offered, and stays as it was where its source is offered nothing; what fires is `Fired`, and W1 follows W0. With both
ARMED and W0 firing, a W1 in SEQUENCE on another source that is offered too is reloaded before it counts its own
evaluation (R141; the order is the model's choice, log entry 42). -/
def Evaluates (s t : State) (offered : WatchSource → Prop) (hit : WatchUnit → Prop) (value : WatchUnit → EvalValue) : Prop :=
  (∀ second : Bool, (s.unit second).state = .armed → (s.unit (!second)).state ≠ .armed →
    let w := s.unit second
    (offered w.source → Counts w (t.unit second) (hit w) ∧
      (hit w → w.counter = 0 → Fired s t second (value w) ∧ (second = false → Reacts s t))) ∧
    (¬ offered w.source → t.unit second = w)) ∧
  (s.w0.state = .armed → s.w1.state = .armed → s.w1.sequence = true → s.w1.source = s.w0.source → offered s.w0.source →
    hit s.w0 → s.w0.counter = 0 → Counts s.w0 t.w0 True ∧ Fired s t false (value s.w0) ∧ Reacts s t) ∧
  (s.w0.state = .armed → s.w1.state = .armed → s.w1.sequence = true → s.w1.source ≠ s.w0.source → offered s.w0.source →
    offered s.w1.source → hit s.w0 → s.w0.counter = 0 → Counts s.w0 t.w0 True ∧ Fired s t false (value s.w0) ∧
      Counts { s.w1 with counter := s.w1.reload } t.w1 (hit s.w1))

/-- Law 5 (R29): after the shedding pass, C is within the limit or no claim of these classes is HELD or TRIMMED. -/
def WithinOrShed (limit : Nat) (classes : List LoadClass) (r : Replica) : Prop :=
  r.charged ≤ limit ∨ ∀ c ∈ r.claims, c.cls ∈ classes → c.state.given = false

/-- R1, R3: the claim table of a replica: in key order, each record coherent. -/
def Replica.Sound (r : Replica) : Prop := keyOrdered r.claims = true ∧ ∀ c ∈ r.claims, c.coherent = true

/-- R1, R3: the claim table of the station's replica, where it holds one. -/
def State.TableSound (s : State) : Prop := ∀ r, s.replica = some r → r.Sound

end Sys2Proof.Machine
end

