-- ==== Sys2Proof/Certificates/Slice0/Obligations.lean ====
section
/-! DEFINITION. The statements about the station, each one claim for the provers (OBLIGATIONS.json). -/

open Sys2Proof Sys2Proof.Machine

/-! The machine. -/

/-- A step with a command at the front of the queue is exec of that command on the state with the queue's rest. -/
def Obligations.StepTakesFront : Prop :=
  ∀ (c : Instr) (s : State), step (s.setPending (c :: s.pending)) = exec c s

/-- The model's choice (log entry 3): on an empty queue 1 ms of local time passes, and nothing else changes but the hold
time of a DEFERRABLE slot with a hold limit that is HELD or TRIMMED (R134), outside UNCONFIGURED and OFFLINE, where the
records stand as they are (R120). -/
def Obligations.EmptyQueueTicks : Prop :=
  ∀ s : State, s.pending = [] →
    ∃ t, step s = .next t ∧ t.now = s.now + 1 ∧ t = (s.setSlots t.slotUnit.slots).setNow (s.now + 1) ∧
      ∀ i : SlotNo,
        (∀ limit, s.countsHold i limit →
          t.slot i = { s.slot i with holdTime := Nat.min (limit * 1000) ((s.slot i).holdTime + 1) }) ∧
        ((∀ limit, ¬ s.countsHold i limit) → t.slot i = s.slot i)

/-- No command has any other outcome than a next state; it leaves the queue alone, and the straps too unless it is a pin
reset. R166: a locked configuration does not change until pin reset. -/
def Obligations.CommandsKeepQueueAndLock : Prop :=
  (∀ (c : Instr) (s : State), ∃ t, exec c s = .next t ∧ t.pending = s.pending ∧
     ((∀ edge pins, c ≠ .pinReset edge pins) → t.straps = s.straps)) ∧
  (∀ (c : Instr) (s t : State), s.config.locked = true → (∀ edge pins, c ≠ .pinReset edge pins) →
     exec c s = .next t → t.config = s.config)

/-- What pin reset leaves, by the rules that give each block its value after it (R54, R72, R79, R83, R84, R86, R104,
R120, R136, R148, R149, R153, R159, R164, R166). Every invariant below holds right after reset. -/
def Obligations.ResetLeaves : Prop :=
  (let s := State.reset
   s.station.state = .unconfigured ∧ s.replica = none ∧ s.link.urgent = [] ∧ s.link.general = [] ∧ s.link.inbound = []
     ∧ s.link.late = [] ∧ s.link.tx = none ∧ s.link.readback = 0 ∧ s.link.heartbeat = none ∧ s.link.probeTimer = none
     ∧ s.crank.state = .idle ∧ s.crank.hold = false ∧ s.crank.extensions = 0
     ∧ (∀ i : SlotNo, (s.slot i).state = .free ∧ (s.slot i).values = none ∧ (s.slot i).enable = false
         ∧ (s.slot i).latch = false ∧ (s.part i).used = false)
     ∧ (∀ n : Station, s.peer n = .reset) ∧ s.w0.state = .off ∧ s.w1.state = .off
     ∧ s.fault.record = none ∧ s.fault.lock = false ∧ s.fault.lost = false ∧ s.fault.badChecks = 0
     ∧ (∀ k : FaultKind, s.fault.counters[k.index.val] = 0)
     ∧ s.history.entries = [] ∧ s.history.frozen = false ∧ s.history.missed = 0
     ∧ s.port.command = none ∧ s.port.response = none ∧ s.port.overwrite = false ∧ s.port.notices = []
     ∧ s.port.noticeLost = false ∧ s.config.locked = false ∧ s.config.general.given = false) ∧
  (State.reset.Settled ∧ State.reset.Bounded ∧ State.reset.InboundFits ∧ State.reset.LateUnderWay
     ∧ State.reset.HoldUnderCrank ∧ State.reset.TableSound)

/-! Invariants of every step. -/

/-- Every step leaves each slot record as the state requires it, and at most 32 history entries. -/
def Obligations.StepKeepsSettled : Prop := ∀ s t : State, s.Settled → step s = .next t → t.Settled

/-- R123 (law 8) and R64 (law 7): in a settled state every enable follows the rule, and while SHED# is low no slot that
mirrors a low-class claim is on. -/
def Obligations.SettledEnables : Prop := ∀ s : State, s.Settled → s.EnablesFollow ∧ s.LowOffUnderShed

/-- R148, law 12: a locked fault record does not change until CLEAR_FAULT or pin reset. -/
def Obligations.StepKeepsLockedFault : Prop :=
  ∀ s t : State, step s = .next t → (∀ c rest, s.pending = c :: rest → ¬ emptiesFault c s) → FaultKept s t

/-- R70, R79, R153, R164: no lane and no queue ever holds more than its capacity. -/
def Obligations.StepKeepsBounds : Prop := ∀ s t : State, s.Bounded → step s = .next t → t.Bounded

/-- R78, R87: the inbound queue only ever holds frames that the station state admits. R54, R56: the crank hold only ever
stands while the sequencer is SETTLING or CRANKING. R73, R80, R87: no frame waits in the inbound queue while the
station's own is in transmission, and a change of station state waits only for an application under way (log entry 44).
-/
def Obligations.StepKeepsInboundAndHold : Prop :=
  (∀ s t : State, s.InboundFits → step s = .next t → t.InboundFits) ∧
  (∀ s t : State, s.InboundFits → s.LateUnderWay → step s = .next t → t.LateUnderWay) ∧
  (∀ s t : State, s.HoldUnderCrank → step s = .next t → t.HoldUnderCrank)

/-- R1, R3: the claim table stays in key order, no key twice, with every record's fields together as R3 has them. -/
def Obligations.StepKeepsTableSound : Prop := ∀ s t : State, s.TableSound → step s = .next t → t.TableSound

/-! The mailbox. `s.Open` says that s is a state such as every event leaves, with a free mailbox. -/

/-- R160 to R163, R166 and the rules of the other commands: each of the 27 is answered with the code of the first of its
conditions that fails (`State.conditions` lists them in the order of its rule), and with OK or ACCEPTED where none
fails. The model's choices among the conditions: the leave-pending flag is asked with the station state, but of a
RELEASE fourth, after the slot number and the slot's state (log entry 17); a SET_WATCH on LINE may carry any compare
value (log entry 43), and the bits of its record and of a CONFIGURE's flags byte that R173 does not assign are not read
(log entry 54); CANCEL_CRANK finds room in the urgent lane with every crank frame withdrawn (log entry 38). A refused
command has no effect beyond its response. A record whose code is none of the 27 is answered UNKNOWN; one with a code of
the 27 that is not the record of any command, over-long ones among them, is answered BAD_ARG. -/
def Obligations.RefusalChangesNothing : Prop :=
  (∀ (c : Command) (s : State) (code : ResponseCode), s.Open → c.sized → (s.perform c).reply.code = code →
     code ≠ .ok → code ≠ .accepted → exec c.row s = .next (s.responds code [])) ∧
  (∀ (c : Command) (s : State), s.Open → c.sized →
     (∀ code, FirstFails (s.conditions c) code → exec c.row s = .next (s.responds code [])) ∧
     ((∀ p ∈ s.conditions c, p.1) →
       ∃ t body code, exec c.row s = .next t ∧ t.port.command = none ∧ t.port.response = some (byteOf code :: body) ∧
         (code = ResponseCode.ok.code ∨ code = ResponseCode.accepted.code))) ∧
  (∀ (s : State) (code : Byte) (args : List Byte), s.Open →
     let shifted := s.setPort { s.port with select := none, sdo := [s.statusByte], overwrite := false }
     let answers (r : ResponseCode) := exec (.spiWriteTransfer ⟨.whole, code :: args⟩) s = .next (shifted.responds r [])
     (code = 0 ∨ 27 < code.toNat → answers .unknown) ∧
     (1 ≤ code.toNat → code.toNat ≤ 27 → (∀ c : Command, c.sized → c.bytes ≠ code :: args) → answers .badArg))

/-- R161, R122: a CLAIM within its checks queues the CLAIM frame in the general lane and makes the slot SENDING with its
values; it is answered ACCEPTED and changes nothing else. -/
def Obligations.ClaimAccepted : Prop :=
  ∀ (s : State) (i : SlotNo) (slot requested minimum : Byte), s.Open → s.mode = .member →
    s.slotUnit.leavePending = false → slotOf slot = some i → (s.part i).used = true → (s.slot i).state = .free →
    1 ≤ requested.toNat → requested.toNat ≤ (s.part i).maxAmps →
    (minimum = 0 ∨ (minimum.toNat < requested.toNat ∧ (s.part i).minAllowed = true)) → s.link.general.length < 6 →
    exec (.claim slot requested minimum) s = .next (((s.setLink { s.link with
        general := s.link.general ++ [.fixed (.claim i (BitVec.ofNat 3 (s.part i).cls.code) requested minimum)] }).putSlot i
      { s.slot i with
        state := .sending
        values := some { cls := (s.part i).cls, requested := requested.toNat,
                         minimum := if minimum = 0 then none else some minimum.toNat } }).responds .accepted [])

/-- R161, R122, R123: a RELEASE of a slot whose CLAIM is not in the lane unsent queues a RELEASE frame; the slot becomes
RELEASING and its enable is off from this event. Of the other blocks nothing changes. R18: a RELEASE for a slot whose
CLAIM has not started transmitting withdraws the CLAIM; the slot is FREE, and no frame is queued, with the leave-pending
flag set or clear (the model's reading, log entry 17); the SLOT notice WITHDRAWN is posted, with the slot number and the
cause alone (the model's reading, log entry 35). -/
def Obligations.ReleaseAnswered : Prop :=
  (∀ (s : State) (i : SlotNo) (slot : Byte), s.Open → s.mode.reporting = true → slotOf slot = some i →
     (s.slot i).state.releasable = true → s.claimUnsent i = false → s.slotUnit.leavePending = false →
     s.link.general.length < 6 →
     ∃ t, exec (.release slot) s = .next t ∧
       t = ((s.setLink { s.link with general := s.link.general ++ [.fixed (.release (byteOf i.val))] }).setSlots
         t.slotUnit.slots).responds .accepted [] ∧
       (t.slot i).state = .releasing ∧ (t.slot i).enable = false ∧ (t.slot i).values = (s.slot i).values ∧
       ∀ j, j ≠ i → t.slot j = s.slot j) ∧
  (∀ (s : State) (i : SlotNo) (slot : Byte), s.Open → s.mode.reporting = true → slotOf slot = some i →
     s.claimUnsent i = true →
     ∃ t, exec (.release slot) s = .next t ∧
       t.link = { s.link with
         general := withdrawFrom (s.link.sending .general) (Queued.isClaim i) s.link.general } ∧
       (t.slot i).state = .free ∧ (t.slot i).values = none ∧ (t.slot i).enable = false ∧
       (∀ j, j ≠ i → t.slot j = s.slot j) ∧ t.port.response = some [byteOf ResponseCode.ok.code] ∧
       (s.port.notices.length < 16 → t.port.notices = s.port.notices ++
         [{ stamp := s.stamp, epoch := s.epoch, content := .slot i none none .withdrawn }]) ∧
       t.replica = s.replica ∧ t.station = s.station ∧ t.crank = s.crank ∧ t.members = s.members ∧ t.config = s.config)

/-- R162, R94: a JOIN in UNCONFIGURED with the general part given locks the configuration; one from OFFLINE by LEAVE
drops the replica and the slot records. Either enters JOINING, starts the sync sequence at its first attempt and queues
SYNC_REQUEST with the station's epoch, or 0 without a replica; it is answered ACCEPTED. R162, R123: a LEAVE in MEMBER
with no crank to bind it queues a LEAVE frame and sets the leave-pending flag; every enable but a CARRIED slot's goes
off in the same event. -/
def Obligations.JoinAndLeaveAccepted : Prop :=
  (∀ s : State, s.Open → s.InboundFits → s.link.general.length < 6 →
     ((s.mode = .unconfigured ∧ s.config.general.given = true) ∨
       (s.mode = .offline ∧ s.station.offline = some .leave)) →
     ∃ t, exec .join s = .next t ∧ t.mode = .joining ∧ t.station.syncCount = 1 ∧
       t.station.syncTimer = some (s.now + 250) ∧ t.port.command = none ∧
       t.port.response = some [byteOf ResponseCode.accepted.code] ∧
       (s.mode = .unconfigured → t.config = { s.config with locked := true } ∧ t.replica = s.replica ∧
         t.link.general = s.link.general ++ [.fixed (.syncRequest (s.epoch.getD 0))]) ∧
       (s.mode = .offline → t.config = s.config ∧ t.replica = none ∧
         (∀ i, (t.slot i).state = .free ∧ (t.slot i).enable = false) ∧
         t.link.general = s.link.general ++ [.fixed (.syncRequest 0)]) ∧
       (∀ n, (t.peer n).silence = none ∧ (t.peer n).orphanHold = none)) ∧
  (∀ s : State, s.Open → s.mode = .member → s.slotUnit.leavePending = false → s.boundByCrank = false →
     s.link.general.length < 6 →
     ∃ t, exec .leave s = .next t ∧
       t = ((s.setLink { s.link with general := s.link.general ++ [.fixed .leave] }).setSlotUnit t.slotUnit).responds
         .accepted [] ∧
       t.slotUnit.leavePending = true ∧ ∀ i, (t.slot i).state = (s.slot i).state ∧ (t.slot i).values = (s.slot i).values ∧
         ((t.slot i).state ≠ .carried → (t.slot i).enable = false))

/-- R168, R135, R164: a RESTART outside UNCONFIGURED and OFFLINE by duplicate enters JOINING with no replica, lanes that
hold its SYNC_REQUEST alone, an empty inbound queue, the sequencer IDLE, and the notices RESTARTED and SYNC first in a
fresh queue; the configuration stays, the watch units keep their programming with their counters reloaded and no pulse,
a used CRITICAL slot that was on is CARRIED and stays on, and every other slot is FREE and off, with no timer running.
R83, R84, R104, R120: heartbeat, probe, latch limit and gate timeout are stopped, and every peer's record is empty.
R148, R149, R153: the fault record, its lock, the counters and the history with its freeze stand as they did, and the
SYNC entry is written; a FREE slot that draws is captured then as UNCLAIMED_DRAW (R131), also one captured before: the
restart clears its flag (the model's reading, log entry 60). That alone moves a counter. -/
def Obligations.RestartRejoins : Prop :=
  ∀ s : State, s.Open → s.mode ≠ .unconfigured → ¬ (s.mode = .offline ∧ s.station.offline = some .duplicate) →
    ∃ t, exec .restart s = .next t ∧ t.mode = .joining ∧ t.replica = none ∧ t.link.urgent = [] ∧
      t.link.general = [.fixed (.syncRequest 0)] ∧ t.link.tx = none ∧ t.link.inbound = [] ∧ t.link.readback = 0 ∧
      t.link.heartbeat = none ∧ t.link.probeDue = false ∧ t.link.probeTimer = none ∧ t.link.late = [] ∧
      t.members = .reset ∧
      t.crank = .reset ∧ t.config = s.config ∧ t.slotUnit.leavePending = false ∧ t.slotUnit.latchLimit = none ∧
      t.slotUnit.gate = none ∧
      t.port.response = some [byteOf ResponseCode.ok.code] ∧
      [{ stamp := s.stamp, epoch := none, content := .restarted s.port.notices.length s.port.noticeLost },
       { stamp := s.stamp, epoch := none, content := .sync s.mode .joining .restart }] <+: t.port.notices ∧
      (∀ i, ((s.part i).used = true ∧ (s.part i).cls = .critical ∧ (s.slot i).enable = true →
          (t.slot i).state = .carried ∧ (t.slot i).enable = true ∧ (t.slot i).values = (s.slot i).values) ∧
        (¬ ((s.part i).used = true ∧ (s.part i).cls = .critical ∧ (s.slot i).enable = true) →
          (t.slot i).state = .free ∧ (t.slot i).enable = false)) ∧
      (∀ i, (t.slot i).settle = none ∧ (t.slot i).offDeadline = none ∧ (t.slot i).retry = none ∧
        (t.slot i).latch = false ∧ (t.slot i).holdTime = 0) ∧
      t.w0 = { s.w0 with counter := s.w0.reload, pulse := none } ∧ t.w1 = { s.w1 with counter := s.w1.reload, pulse := none } ∧
      t.fault.badChecks = s.fault.badChecks ∧ (∀ k : FaultKind, k ≠ .unclaimedDraw → t.counter k = s.counter k) ∧
      (s.fault.lock = true → t.fault.lock = true ∧ t.fault.record = s.fault.record) ∧
      ((∀ i, s.reading i ≠ some true) → t.fault = s.fault) ∧
      t.history.frozen = s.history.frozen ∧ (s.history.frozen = true → t.history.entries = s.history.entries) ∧
      (s.history.frozen = false →
        (s.history.entries.length ≤ 26 → s.history.entries <+: t.history.entries) ∧
        ∃ e ∈ t.history.entries, e.epoch = none ∧ e.event = .sync s.self s.mode .joining .restart)

/-- R55: a REQUEST_CRANK within its checks queues PHASE CRANK_PENDING with the replica's attempts value, and the
sequencer enters SETTLING with no extension counted; nothing else changes. -/
def Obligations.RequestCrankAccepted : Prop :=
  ∀ s : State, s.Open → s.HoldUnderCrank → s.mode = .member → s.slotUnit.leavePending = false → s.namedCrank = true →
    s.attempts ≠ 3 → s.crank.state = .idle → s.phaseIs [.stop] = true → s.link.urgent.length < 3 →
    exec .requestCrank s = .next (((s.setLink { s.link with
        urgent := s.link.urgent ++ [.fixed (phaseFrameBody .crankPending s.attempts)] }).setCrank
      { CrankUnit.reset with state := .settling }).responds .accepted [])

/-- R59: CRANK_DONE in phase CRANK queues PHASE RECOVER with attempts unchanged; the hold is released and the sequencer
is IDLE. R59, R60: CRANK_FAILED in phase CRANK queues PHASE STOP with attempts + 1 (with attempts already 3, a value the
manual leaves open: log entry 16) and releases the hold; where the value sent is 3 the sequencer enters LOCKOUT for the
configured period, else it is IDLE. -/
def Obligations.CrankReportsAccepted : Prop :=
  (∀ s : State, s.Reports → s.phaseIs [.crank] = true → s.link.urgent.length < 3 →
     ∃ t, exec .crankDone s = .next t ∧
       t.link = { s.link with urgent := s.link.urgent ++ [.fixed (phaseFrameBody .recover s.attempts)] } ∧
       t.crank = .reset ∧ t.port = (s.responds .accepted []).port ∧ t.replica = s.replica ∧ t.station = s.station ∧
       t.members = s.members ∧ t.config = s.config ∧ t.fault = s.fault ∧ t.w0 = s.w0 ∧ t.w1 = s.w1 ∧ t.pins = s.pins) ∧
  (∀ s : State, s.Reports → s.phaseIs [.crank] = true → s.link.urgent.length < 3 →
     ∃ t, exec .crankFailed s = .next t ∧
       t.link = { s.link with urgent := s.link.urgent ++ [.fixed (phaseFrameBody .stop s.nextAttempts)] } ∧
       (s.nextAttempts = 3 → t.crank = s.lockedOut) ∧ (s.nextAttempts ≠ 3 → t.crank = .reset) ∧
       t.port.command = none ∧ t.port.response = some [byteOf ResponseCode.accepted.code] ∧
       t.freeCount = (if s.attempts = 3 then s.freeCount + 1 else s.freeCount) ∧
       t.replica = s.replica ∧ t.station = s.station ∧ t.members = s.members ∧ t.config = s.config ∧ t.pins = s.pins)

/-- R59: ENGINE_RUNNING in phase RECOVER queues PHASE RUN with attempts 0; ENGINE_STOPPED in phase RUN or RECOVER queues
PHASE STOP with attempts unchanged. Neither changes anything else. R51, R53: ANNOUNCE_BUDGET by the supply station and
LIFT queue their frame in the general lane; nothing else changes. -/
def Obligations.EngineAndBudgetCommands : Prop :=
  (∀ s : State, s.Reports → s.link.urgent.length < 3 →
     (s.phaseIs [.recover] = true → exec .engineRunning s = .next ((s.setLink { s.link with
       urgent := s.link.urgent ++ [.fixed (phaseFrameBody .run 0)] }).responds .accepted [])) ∧
     (s.phaseIs [.run, .recover] = true → exec .engineStopped s = .next ((s.setLink { s.link with
       urgent := s.link.urgent ++ [.fixed (phaseFrameBody .stop s.attempts)] }).responds .accepted []))) ∧
  (∀ (s : State) (ceiling reserve : Half), s.Open → s.mode = .member → s.slotUnit.leavePending = false →
     s.link.general.length < 6 →
     (s.namedSupply = true → ceiling.toNat ≤ 1600 → reserve.toNat ≤ ceiling.toNat →
       exec (.announceBudget ceiling reserve) s = .next ((s.setLink { s.link with
         general := s.link.general ++ [.fixed (.budget ceiling reserve)] }).responds .accepted [])) ∧
     exec .lift s = .next ((s.setLink { s.link with
       general := s.link.general ++ [.fixed .lift] }).responds .accepted []))

/-- R59: CANCEL_CRANK with a crank under way withdraws the sequencer's frame, if it has not started transmitting,
releases the hold and leaves the sequencer IDLE. If the CRANK_PENDING was withdrawn it is answered OK; otherwise a PHASE
STOP is queued and it is answered ACCEPTED. Where two frames of the sequencer stand in the lane, both are withdrawn (the
model's reading, log entry 38). -/
def Obligations.CancelCrankAnswered : Prop :=
  ∀ s : State, s.Reports → s.crank.state.underWay = true →
    let left := withdrawFrom (s.link.sending .urgent) Queued.isCrankFrame s.link.urgent
    (s.phaseUnsent .crankPending = true →
      ∃ t, exec .cancelCrank s = .next t ∧ t.link = { s.link with urgent := left } ∧ t.crank = .reset ∧
        t.port = (s.responds .ok []).port ∧ t.replica = s.replica ∧ t.station = s.station ∧ t.fault = s.fault) ∧
    (s.phaseUnsent .crankPending = false → left.length < 3 →
      ∃ t, exec .cancelCrank s = .next t ∧
        t.link = { s.link with urgent := left ++ [.fixed (phaseFrameBody .stop s.attempts)] } ∧ t.crank = .reset ∧
        t.port = (s.responds .accepted []).port ∧ t.replica = s.replica ∧ t.station = s.station ∧ t.fault = s.fault)

/-- R166: in UNCONFIGURED, not locked, a CONFIGURE with every field in range stores its part, 0 standing for the default
of a field that has one; an unused slot part is stored as unused, with the values of log entry 4 (`SlotPart.default`)
and none of those given (the model's choice, log entry 52). The bits of the flags byte that R173 does not assign are not
read (the model's choice, log entry 54). Nothing else changes. -/
def Obligations.ConfigureStores : Prop :=
  ∀ (s : State) (part a0 a1 a2 a3 a4 a5 : Byte), s.Open → s.mode = .unconfigured → s.config.locked = false →
    (part = 0 → a1.toNat ≤ 60 →
      (halfOf a2 a3 = 0 ∨ (100 ≤ (halfOf a2 a3).toNat ∧ (halfOf a2 a3).toNat ≤ 2000)) →
      (a4 = 0 ∨ (20 ≤ a4.toNat ∧ a4.toNat ≤ 200)) → (a5 = 0 ∨ (2 ≤ a5.toNat ∧ a5.toNat ≤ 30)) →
      exec (.configure part a0 a1 a2 a3 a4 a5) s = .next ((s.setConfig { s.config with general :=
        { given := true, mask := a0
          orphanHold := if a1 = 0 then 5 else a1.toNat
          latchLimit := if halfOf a2 a3 = 0 then 300 else (halfOf a2 a3).toNat
          crankSettle := if a4 = 0 then 60 else a4.toNat
          crankLockout := if a5 = 0 then 10 else a5.toNat } }).responds .ok [])) ∧
    (∀ (i : SlotNo) (cls : LoadClass), part.toNat = i.val + 1 → a0.getLsbD 7 = true →
      LoadClass.ofCode (a0.extractLsb' 0 3).toNat = some cls → 1 ≤ a1.toNat → a1.toNat ≤ 200 → 5 ≤ a2.toNat →
      a2.toNat ≤ 250 → (a3 = 0 ∨ (5 ≤ a3.toNat ∧ a3.toNat ≤ 250)) →
      (halfOf a4 a5 = 0 ∨ ((halfOf a4 a5).toNat ≤ 3600 ∧ cls = .deferrable)) →
      exec (.configure part a0 a1 a2 a3 a4 a5) s = .next ((s.setPart i
        { given := true, used := true, cls := cls, maxAmps := a1.toNat, minAllowed := a0.getLsbD 6, settle := a2.toNat
          offDeadline := if a3 = 0 then 30 else a3.toNat
          feedback := a0.getLsbD 5
          holdLimit := if halfOf a4 a5 = 0 then none else some (halfOf a4 a5).toNat }).responds .ok [])) ∧
    (∀ i : SlotNo, part.toNat = i.val + 1 → a0.getLsbD 7 = false →
      exec (.configure part a0 a1 a2 a3 a4 a5) s = .next ((s.setPart i { SlotPart.default with given := true }).responds .ok []))

/-- R20, R104, R150, R155, R163, R166: the seven commands that only read are answered OK with a body of the length R173
gives, and change nothing else; so is ECHO, with its own bytes. The bytes of the READ_STATUS pages and of READ_PEER are
the model's layouts (log entry 6; the timers byte of READ_PEER and its bytes without a replica are log entry 46, the
epoch and digest of page 1 are log entry 48), READ_CONFIG shows values after defaults (log entry 31), and the bytes
behind READ_CLAIM's "not present" (log entry 45), behind READ_HISTORY's "no entry" and behind a clear epoch flag (log
entry 51) are 0, and a yes or no is 1 or 0 (log entry 55): all are the model's choices. -/
def Obligations.ReadsAnswer : Prop :=
  ∀ s : State, s.Open →
    (∃ body, exec .readConfig s = .next (s.responds .ok body) ∧ body.length = 36 ∧
      s.config.general.bytes ++ s.config.slots.toList.flatMap SlotPart.bytes ++
        [s.config.flags, byteOf s.self.val, byteOf s.straps.role.code] <+: body) ∧
    (∀ (page : Byte) (bytes : List Byte), s.page page.toNat = some bytes →
      ∃ body, exec (.readStatus page) s = .next (s.responds .ok body) ∧ body.length = 32 ∧ bytes <+: body) ∧
    (∀ (key : Byte) (r : Replica) (k : Key), s.mode ≠ .unconfigured → s.mode ≠ .joining → s.replica = some r →
      Key.ofCode key.toNat = some k →
      ∃ body, exec (.readClaim key) s = .next (s.responds .ok body) ∧ body.length = 14 ∧ claimAnswer r k <+: body) ∧
    (∀ (b : Byte) (n : Station), stationOf b = some n →
      ∃ body, exec (.readPeer b) s = .next (s.responds .ok body) ∧ body.length = 20 ∧
        s.peerBytes n ++ s.rosterBytes n <+: body) ∧
    (∃ body, exec .readFault s = .next (s.responds .ok body) ∧ body.length = 22 ∧
      body = s.fault.recordBytes ++ s.fault.counters.toList.map byteOf ++ natBytes s.fault.badChecks) ∧
    (∀ index : Byte, s.mode ≠ .unconfigured → index.toNat ≤ 31 → s.history.frozen = true →
      ∃ body, exec (.readHistory index) s = .next (s.responds .ok body) ∧ body.length = 13 ∧
        body = historyAnswer s.history index.toNat) ∧
    (∀ bytes : List Byte, bytes.length ≤ 23 → exec (.echo bytes) s = .next (s.responds .ok bytes))

/-- R164: READ_NOTICE takes the oldest notice from the queue and clears the notice-lost flag, which it reports with the
count left; on an empty queue it reports that there was none, with 16 bytes 0 (the model's choice, log entry 51). R150,
R154, R155: CLEAR_FAULT empties the fault record, its lock and its lost flag, and keeps the counters; FREEZE_HISTORY
freezes the history; THAW_HISTORY empties it, unfreezes it and sets the missed count to 0. Nothing else changes. -/
def Obligations.NoticeFaultAndHistoryCommands : Prop :=
  (∀ s : State, s.Open →
     (∀ n rest, s.port.notices = n :: rest →
       exec .readNotice s = .next ((s.setPort { s.port with notices := rest, noticeLost := false }).responds .ok
         (byteOf rest.length :: flagByte s.port.noticeLost :: n.bytes))) ∧
     (s.port.notices = [] →
       exec .readNotice s = .next ((s.setPort { s.port with noticeLost := false }).responds .ok
         (0 :: (2 + flagByte s.port.noticeLost) :: List.replicate 16 0)))) ∧
  (∀ s : State, s.Open →
     exec .clearFault s =
       .next ((s.setFault { s.fault with record := none, lock := false, lost := false }).responds .ok []) ∧
     (s.mode ≠ .unconfigured →
       exec .freezeHistory s = .next ((s.setHistory { s.history with frozen := true }).responds .ok []) ∧
       exec .thawHistory s = .next ((s.setHistory { entries := [], frozen := false, missed := 0 }).responds .ok [])))

/-- R145: SET_WATCH with a unit, a source, a relation and a compare value that the table of R138 pairs, a FRAME mask
that is not 0, and SEQUENCE for W1 alone, programs the unit: off selected, OFF; on selected, DISARMED in SEQUENCE and
ARMED with the counter reloaded in SINGLE, but a FIRED unit stays FIRED. Nothing else changes. On LINE, which has no
compare value, any is accepted and stored (log entry 43), and the bits of the control and selector bytes that R173 does
not assign are not read (log entry 54): the model's choices. R146: ARM_WATCH of a unit that is not OFF: FIRED in SINGLE
becomes ARMED with the counter reloaded, FIRED in SEQUENCE becomes DISARMED, ARMED has its counter reloaded, DISARMED
stays as it is. Nothing else changes. -/
def Obligations.WatchCommands : Prop :=
  (∀ (s : State) (second : Bool) (unit control selector reload : Byte) (compare mask : Half) (source : WatchSource)
     (relation : Relation), s.Open → s.mode.live = true → unit.toNat = (if second then 1 else 0) →
     (selector.extractLsb' 5 3).toNat = source.code → (selector.extractLsb' 0 2).toNat = relation.code →
     source.allows relation compare.toInt = true → (source = .frame → mask ≠ 0) →
     (control.getLsbD 6 = true → second = true) →
     let old := s.unit second
     let sequence := control.getLsbD 6
     let fired := old.state = .fired
     exec (.setWatch unit control selector compare mask reload) s = .next ((s.setUnit second
       { old with
         state := if control.getLsbD 7 then (if fired then .fired else if sequence then .disarmed else .armed) else .off
         source := source, relation := relation, compare := compare.toInt, mask := mask, reload := reload
         counter := if control.getLsbD 7 ∧ ¬ fired ∧ ¬ sequence then reload else old.counter
         sequence := sequence, actions := actionsOf control }).responds .ok [])) ∧
  (∀ (s : State) (second : Bool) (unit : Byte), s.Open → s.mode.live = true →
     unit.toNat = (if second then 1 else 0) →
     let old := s.unit second
     let answers (u : WatchUnit) := exec (.armWatch unit) s = .next ((s.setUnit second u).responds .ok [])
     (old.state = .fired → old.sequence = false → answers { old with state := .armed, counter := old.reload }) ∧
     (old.state = .fired → old.sequence = true → answers { old with state := .disarmed }) ∧
     (old.state = .armed → answers { old with counter := old.reload }) ∧
     (old.state = .disarmed → answers old))

/-! The port's transfers and the pins. -/

/-- R156 to R159, R173. A part that is not held in reset answers every transfer (log entry 5 for its spans). The first
byte shifted in selects the type; one that is neither 0x01 nor 0x02 is STATUS. At the fall of CS# the status byte is
sampled; a whole transfer is its fall and then its rise with the engine idle; a fall while a transfer is under way drops
that one and begins anew (the model's choice, log entry 5), and a rise with no transfer under way does nothing (the
model's choice, log entry 2). At the rise a STATUS transfer has shifted out that status byte, whose OVERWRITE flag it
clears; one cut short inside the byte clears nothing. A WRITE drops its record with OVERWRITE set while a command waits;
its record waits itself while a response stands unread, whatever the status byte showed; into a free mailbox it is taken
as the row of its command is. A READ begun with RSP_FULL set shifts out the response; once every byte of it has gone the
buffer is empty and a waiting command is taken; one that stops short leaves it. A READ begun with RSP_FULL clear shifts
out 0xFF and leaves a response placed meanwhile. Where the table engine is applying a frame at the rise the command is
due, and it is taken at the end of that application. -/
def Obligations.SpiTransfers : Prop :=
  (∀ (s : State) (span : Span) (kind : Byte) (rest : List Byte),
     (kind = 1 → exec (.spiStatusTransfer ⟨span, kind :: rest⟩) s = exec (.spiWriteTransfer ⟨span, rest⟩) s) ∧
     (kind = 2 → exec (.spiStatusTransfer ⟨span, kind :: rest⟩) s = exec (.spiReadTransfer ⟨span, rest.length⟩) s)) ∧
  (∀ (s : State) (shifted : List Byte) (record : List Byte) (count : Nat) (applying : Bool), s.Settled →
     s.resetLow = false →
     let sampled : Selected :=
       { status := s.statusByte, overwrite := s.port.overwrite, full := s.port.response.isSome }
     let fallen := s.setPort { s.port with select := some sampled }
     (exec (.spiStatusTransfer ⟨.fall, shifted⟩) s = .next fallen ∧ exec (.spiWriteTransfer ⟨.fall, record⟩) s = .next fallen ∧
       exec (.spiReadTransfer ⟨.fall, count⟩) s = .next fallen) ∧
     (exec (.spiStatusTransfer ⟨.whole, shifted⟩) s = exec (.spiStatusTransfer ⟨.rise false, shifted⟩) fallen ∧
       exec (.spiWriteTransfer ⟨.whole, record⟩) s = exec (.spiWriteTransfer ⟨.rise false, record⟩) fallen ∧
       exec (.spiReadTransfer ⟨.whole, count⟩) s = exec (.spiReadTransfer ⟨.rise false, count⟩) fallen) ∧
     (s.port.select = none → exec (.spiStatusTransfer ⟨.rise applying, shifted⟩) s = .next s ∧
       exec (.spiWriteTransfer ⟨.rise applying, record⟩) s = .next s ∧
       exec (.spiReadTransfer ⟨.rise applying, count⟩) s = .next s)) ∧
  (∀ (s : State) (o : Selected) (applying : Bool), s.Settled → s.resetLow = false → s.port.select = some o →
     let out (bytes : List Byte) := s.setPort { s.port with
       select := none, sdo := o.status :: bytes, overwrite := s.port.overwrite && !o.overwrite }
     let busy := applying = true ∧ s.link.inbound ≠ []
     (∀ kind rest, kind ≠ 1 → kind ≠ 2 →
       exec (.spiStatusTransfer ⟨.rise applying, kind :: rest⟩) s = .next (out [])) ∧
     exec (.spiStatusTransfer ⟨.rise applying, []⟩) s = .next (s.setPort { s.port with select := none, sdo := [] }) ∧
     exec (.spiWriteTransfer ⟨.rise applying, []⟩) s = .next (out []) ∧
     (∀ record, record ≠ [] →
       let held := (out []).setPort { (out []).port with
         command := some { bytes := record.take 24, overLong := decide (24 < record.length) } }
       (s.port.command.isSome = true → exec (.spiWriteTransfer ⟨.rise applying, record⟩) s =
         .next ((out []).setPort { (out []).port with overwrite := true })) ∧
       (s.port.command = none → s.port.response.isSome = true → ¬ busy →
         exec (.spiWriteTransfer ⟨.rise applying, record⟩) s = .next held) ∧
       (s.port.command = none → busy → exec (.spiWriteTransfer ⟨.rise applying, record⟩) s =
         .next (held.setPort { held.port with due := s.port.response.isNone }))) ∧
     (∀ c : Command, s.port.command = none → ¬ busy → c.sized →
       exec (.spiWriteTransfer ⟨.rise applying, c.bytes⟩) s = exec c.row (out [])) ∧
     (∀ count, o.full = false ∨ s.port.response = none →
       exec (.spiReadTransfer ⟨.rise applying, count⟩) s = .next (out ([0xFF].take count))) ∧
     (∀ count response, o.full = true → s.port.response = some response →
       let emptied := (out response).setPort { (out response).port with response := none }
       (count < response.length →
         exec (.spiReadTransfer ⟨.rise applying, count⟩) s = .next (out (response.take count))) ∧
       (response.length ≤ count → s.port.command = none → ¬ busy →
         exec (.spiReadTransfer ⟨.rise applying, count⟩) s = .next emptied) ∧
       (∀ c : Command, response.length ≤ count → c.sized → s.port.command = some (.ofWrite c.bytes) → ¬ busy →
         exec (.spiReadTransfer ⟨.rise applying, count⟩) s =
           exec c.row (emptied.setPort { emptied.port with command := none })) ∧
       (response.length ≤ count → busy → exec (.spiReadTransfer ⟨.rise applying, count⟩) s =
         .next (emptied.setPort { emptied.port with due := s.port.command.isSome })))) ∧
  (∀ (s : State) (f : Frame) (rest : List Frame) (c : Command), s.link.inbound = f :: rest → s.resetLow = false →
     s.port.due = true → s.port.command = some (.ofWrite c.bytes) → s.port.response = none → c.sized →
     let applied := s.application f.body.kind
     exec (frameRow f.body.kind) s =
       exec c.row (applied.setPort { applied.port with command := none, due := false }))

/-- R167. RESET# low holds the part in reset: every block at its pin-reset values, every enable off, no drive of SHED#,
no bit on the link, ATTN# released; every command but a pin reset then changes nothing but what others drive on the
pins, and no transfer is answered. After the rise of RESET# every block holds its pin-reset value with the straps
sampled. What others drive on the pins stays, the queue is the model's own, and the free counter too (the model's
choices, log entries 4 and 32). R165: ATTN# is low exactly while a response stands or a notice of an enabled kind waits.
-/
def Obligations.PinResetSamples : Prop :=
  (∀ (s : State) (straps : StrapPins),
     exec (.pinReset .rise straps) s = .next { State.reset with
       pending := s.pending
       straps := { station := straps.id, role := (Role.ofCode straps.role.toNat).getD .none }
       pins := { Pins.reset with peerShed := s.pins.peerShed, feedback := s.pins.feedback }
       freeCount := s.freeCount } ∧
     exec (.pinReset .fall straps) s = .next { State.reset with
       pending := s.pending
       resetLow := true
       straps := s.straps
       pins := { Pins.reset with peerShed := s.pins.peerShed, feedback := s.pins.feedback }
       freeCount := s.freeCount }) ∧
  (∀ s : State, s.HeldInReset →
     (∀ i, s.enabled i = false) ∧ s.ownDrive = false ∧ s.link.tx = none ∧ s.attention = false ∧
     ∀ c : Instr, (∀ edge pins, c ≠ .pinReset edge pins) →
       ∃ t, exec c s = .next t ∧ t = s.setPins t.pins ∧ t.HeldInReset ∧
         ((∀ i d, c ≠ .feedbackChange i d) → c ≠ .shedFallingEdge → c ≠ .shedRisingEdge → t = s)) ∧
  (∀ s : State, s.attention = true ↔
     s.port.response.isSome = true ∨ ∃ n ∈ s.port.notices, s.config.general.mask.getLsbD n.content.kind = true)

/-! The link. -/

/-- R66, R67, R68, R69, R73: at a start bit a station that is ready, with an empty inbound queue and no frame in
transmission, begins the frame it offers: in ISOLATED a probe that is due, else the head of its urgent lane, else of its
general lane. The frame carries the station's number, its sync state and its epoch and digest of this moment. Otherwise
nothing happens. Lost contention puts the frame back at its place in its lane and changes nothing else. -/
def Obligations.StartBitAndContention : Prop :=
  ∀ s : State, s.Settled →
    let frame (body : Body) : Frame := { sender := s.self, sync := s.mode.sync, epoch := s.epoch.getD 0,
                                         digest := (s.replica.map (·.digest)).getD 0, body := body }
    let begun (source : Source) (body : Body) :=
      s.setLink { s.link with tx := some { source := source, frame := frame body } }
    let ready := s.mode.live = true ∧ s.link.inbound = [] ∧ s.link.tx = none
    (ready → s.mode = .isolated → s.link.probeDue = true →
      exec .startBit s = .next (begun .probe (.presence (byteOf StationState.isolated.code) s.pins.vsense))) ∧
    (∀ q rest, ready → s.mode ≠ .isolated → s.link.urgent = q :: rest →
      exec .startBit s = .next (begun .urgent (s.bodyOf q))) ∧
    (∀ q rest, ready → s.mode ≠ .isolated → s.link.urgent = [] → s.link.general = q :: rest →
      exec .startBit s = .next (begun .general (s.bodyOf q))) ∧
    ((¬ ready ∨ (s.mode = .isolated ∧ s.link.probeDue = false) ∨
        (s.mode ≠ .isolated ∧ s.link.urgent = [] ∧ s.link.general = [])) → exec .startBit s = .next s) ∧
    exec .lostContention s = .next (s.setLink { s.link with tx := none })

/-- R74, R76, R101: a failed readback takes the frame off the wires and leaves it in its lane, raises the
readback-failure count, up to 3, and captures READBACK with the frame's kind. A count of 3 in ENTERING, MEMBER or
TAINTED isolates the station with cause READBACK (or takes it OFFLINE, where its own completed LEAVE is discarded:
R118); its inbound queue is empty from then on. R84: a probe that fails is no longer due, and the next is 100 ms away;
the model isolates at a failure that finds the count at 3 already, too (log entry 22). Without a frame in transmission
nothing happens (log entry 2). -/
def Obligations.ReadbackFails : Prop :=
  ∀ s : State, s.Settled →
    (s.link.tx = none → exec .readbackFailure s = .next s) ∧
    ∀ tx, s.link.tx = some tx →
      let count := Nat.min 3 (s.link.readback + 1)
      ∃ t, exec .readbackFailure s = .next t ∧ t.link.tx = none ∧ t.link.readback = count ∧ Counted s t .readback ∧
        (s.fault.lock = false → t.fault.record = some
          { kind := .readback, subject := .none, frame := some tx.frame.body.kind, epoch := s.epoch, stamp := s.stamp }) ∧
        (count < 3 ∨ s.mode.beating = false →
          t.station = s.station ∧ t.replica = s.replica ∧ t.crank = s.crank ∧ t.link.urgent = s.link.urgent ∧
            t.link.general = s.link.general ∧ t.link.inbound = s.link.inbound) ∧
        (count = 3 → s.mode.beating = true →
          t.mode = leavingFor (hasOwnLeave s.self s.link.inbound) .isolated ∧ t.link.inbound = [] ∧
            t.link.heartbeat = none ∧ (t.mode = .isolated → t.station.isolation = some .readback) ∧
            t.replica = s.replica) ∧
        (tx.source = .probe → s.mode = .isolated → t.mode = .isolated ∧ t.link.probeDue = false ∧
          t.link.probeTimer = some (s.now + 100))

/-- R75, R78, R83: at a clean completion, outside ISOLATED, of any frame but a CRANK_PENDING while SETTLING and a LEAVE
while TAINTED, the frame leaves its lane, the readback-failure count becomes 0, the heartbeat restarts where it runs,
and the frame joins the station's own inbound queue where the state admits it. Nothing else changes. -/
def Obligations.CleanCompletion : Prop :=
  ∀ (s : State) (tx : Transmission), s.Settled → s.link.tx = some tx → s.mode ≠ .isolated →
    tx.source ≠ .probe → ¬ (tx.frame.body.isPhase .crankPending = true ∧ s.crank.state = .settling) →
    ¬ (s.mode = .tainted ∧ tx.frame.body = .leave) →
    exec .frameCompletedClean s = .next (s.setLink { s.link with
      urgent := if tx.source = .urgent then s.link.urgent.tail else s.link.urgent
      general := if tx.source = .general then s.link.general.tail else s.link.general
      tx := none
      readback := 0
      heartbeat := if s.mode.beating then some (s.now + 100) else s.link.heartbeat
      inbound := if admits s.mode s.self tx.frame = true ∧ s.link.inbound.length < 8 then s.link.inbound ++ [tx.frame]
        else s.link.inbound })

/-- The completions that move another block. R56: the request's own CRANK_PENDING that completes clean while SETTLING
begins the crank hold, so SHED# is low; one of an earlier, cancelled request, with the request's own behind it in the
urgent lane, begins none. R118: the station's own LEAVE that completes while TAINTED takes it OFFLINE, with both lanes
emptied and every enable off. R102: while ISOLATED by READBACK a clean completion takes the station to TAINTED, unless
silence holds: then it stays, with cause SILENCE. R84: a probe that completes is no longer due, and the next is 100 ms
away. The model's readings: the request's own is the last CRANK_PENDING in the lane (log entry 19), an own LEAVE that
completes while ISOLATED leaves the station TAINTED (log entry 21), and silence is `State.silent` (log entry 24). -/
def Obligations.CleanCompletionMoves : Prop :=
  ∀ (s : State) (tx : Transmission), s.Settled → s.InboundFits → s.link.tx = some tx →
    let behind := if tx.source = .urgent then s.link.urgent.tail else s.link.urgent
    ∃ t, exec .frameCompletedClean s = .next t ∧ t.link.tx = none ∧ t.link.readback = 0 ∧ t.replica = s.replica ∧
      (tx.frame.body.isPhase .crankPending = true → s.crank.state = .settling →
        ((∀ q ∈ behind, q.isPhase .crankPending = false) → t.crank = { s.crank with hold := true } ∧ t.shedHigh = false) ∧
        ((∃ q ∈ behind, q.isPhase .crankPending = true) → t.crank = s.crank ∧ t.shedHigh = s.shedHigh)) ∧
      (s.mode = .tainted → tx.frame.body = .leave →
        t.mode = .offline ∧ t.station.offline = some .leave ∧ t.link.urgent = [] ∧ t.link.general = [] ∧
          ∀ i, (t.slot i).enable = false) ∧
      (s.mode = .isolated → s.station.isolation = some .readback →
        (s.silent = false → t.mode = .tainted ∧ t.station.syncCount = 1) ∧
        (s.silent = true → t.mode = .isolated ∧ t.station.isolation = some .silence)) ∧
      (s.mode = .isolated → s.station.isolation ≠ some .readback → tx.source = .probe →
        t.mode = .isolated ∧ t.link.probeDue = false ∧ t.link.probeTimer = some (s.now + 100))

/-- R77, R78, R101, R104, R105, R149: a frame that fails its check is counted as BAD_CHECK and goes nowhere. A good
frame of another station marks its sender heard and restarts its silence timer, in ISOLATED too, where it goes no
further (what it makes of the isolation is ReceptionMoves); outside ISOLATED it joins the inbound queue, where the state
admits it and there is room, and nothing else changes. R79: one that changes no table and meets 8 frames there is
dropped without a fault. -/
def Obligations.FrameReceived : Prop :=
  ∀ (s : State) (w : WireFrame), s.Settled → s.resetLow = false → s.link.tx = none →
    (goodFrame w = none →
      ∃ t, exec (.frameReceived w) s = .next t ∧ t.fault.badChecks = Nat.min 65535 (s.fault.badChecks + 1) ∧
        Counted s t .badCheck ∧ t.link = s.link ∧ t.replica = s.replica ∧ t.station = s.station ∧
        t.members = s.members ∧ t.slotUnit = s.slotUnit ∧ t.crank = s.crank) ∧
    (∀ f, goodFrame w = some f → f.sender ≠ s.self → s.mode = .isolated → s.InboundFits →
      ∃ t, exec (.frameReceived w) s = .next t ∧ t.replica = s.replica ∧ t.link.inbound = [] ∧
        t.members.lastGood = some s.now ∧
        t.peer f.sender = { s.peer f.sender with
          lastValid := some s.now, silence := (s.peer f.sender).silence.map fun _ => s.now + 350 } ∧
        ∀ n, n ≠ f.sender → t.peer n = s.peer n) ∧
    (∀ f, goodFrame w = some f → f.sender ≠ s.self → s.mode ≠ .isolated →
      (admits s.mode s.self f = true → s.link.inbound.length < 8 ∨ f.body.kind.tableChanging = false) →
      exec (.frameReceived w) s = .next (((s.changePeer f.sender fun p =>
          { p with lastValid := some s.now, silence := p.silence.map fun _ => s.now + 350 }).setMembers
        { (s.changePeer f.sender fun p =>
            { p with lastValid := some s.now, silence := p.silence.map fun _ => s.now + 350 }).members with
          lastGood := some s.now }).setLink { s.link with
            inbound := if admits s.mode s.self f = true ∧ s.link.inbound.length < 8 then s.link.inbound ++ [f]
              else s.link.inbound }))

/-- R79, R87: a good table-changing frame that meets 8 frames in the inbound queue is dropped with INBOUND_OVERRUN at
once; the frame under application is completed whole, and the change to TAINTED waits for its end. R119, R87: a good
frame with the station's own number captures DUPLICATE_STATION and takes the station OFFLINE by DUPLICATE, with its
lanes emptied, its hold released, a crank abandoned and every enable off: at once with no frame in the inbound queue,
else at the end of the application. R102: a good frame of another station ends isolation by SILENCE, unless the
readback-failure count is 3: then the cause becomes READBACK. R87: the row that applies the head completes it
(`State.applyKind`), and then makes the changes that wait: an overrun takes a MEMBER or ENTERING station to TAINTED
(OFFLINE, where its own completed LEAVE is discarded: R118), silence an ENTERING, MEMBER or TAINTED one to ISOLATED, a
duplicate any to OFFLINE. The model's reading: a frame in the inbound queue is under application (log entry 44). -/
def Obligations.ReceptionMoves : Prop :=
  (∀ (s : State) (w : WireFrame) (f : Frame), s.Settled → s.resetLow = false → s.InboundFits → s.link.tx = none →
    goodFrame w = some f →
    ∃ t, exec (.frameReceived w) s = .next t ∧
      (f.sender ≠ s.self → s.mode = .member ∨ s.mode = .entering → s.link.inbound.length = 8 →
        f.body.kind.tableChanging = true →
        Counted s t .inboundOverrun ∧ t.station = s.station ∧ t.link.inbound = s.link.inbound ∧
          .overrun ∈ t.link.late ∧ t.replica = s.replica) ∧
      (f.sender = s.self → Counted s t .duplicateStation ∧ t.replica = s.replica ∧
        (s.link.inbound = [] → t.mode = .offline ∧ t.station.offline = some .duplicate ∧
          (s.mode ≠ .offline → t.link.urgent = [] ∧ t.link.general = [] ∧ t.link.inbound = [] ∧
            t.crank.hold = false ∧ (s.crank.state.underWay = true → t.crank = .reset) ∧ ∀ i, (t.slot i).enable = false)) ∧
        (s.link.inbound ≠ [] → t.station = s.station ∧ t.link.inbound = s.link.inbound ∧ .duplicate ∈ t.link.late)) ∧
      (f.sender ≠ s.self → s.mode = .isolated → s.station.isolation = some .silence →
        (s.link.readback ≠ 3 → t.mode = .tainted ∧ t.station.syncCount = 1) ∧
        (s.link.readback = 3 → t.mode = .isolated ∧ t.station.isolation = some .readback))) ∧
  (∀ (s : State) (f : Frame) (rest : List Frame), s.link.inbound = f :: rest → s.port.due = false →
    let u := s.applyKind f.body.kind
    (s.link.late = [] → exec (frameRow f.body.kind) s = .next u) ∧
    ∃ t, exec (frameRow f.body.kind) s = .next t ∧ t.link.late = [] ∧ t.replica = u.replica ∧
      (s.link.late = [.overrun] →
        (u.mode = .member ∨ u.mode = .entering →
          t.mode = leavingFor (hasOwnLeave s.self u.link.inbound) .tainted ∧
            t.link.inbound = u.link.inbound.filter (admits t.mode s.self) ∧
            (t.mode = .tainted → t.station.syncCount = 1)) ∧
        (u.mode ≠ .member → u.mode ≠ .entering → t.station = u.station)) ∧
      (s.link.late = [.silence] →
        (u.mode.beating = true →
          t.mode = leavingFor (hasOwnLeave s.self u.link.inbound) .isolated ∧ t.link.inbound = [] ∧
            (t.mode = .isolated → t.station.isolation = some .silence)) ∧
        (u.mode.beating = false → t.station = u.station)) ∧
      (.silence ∈ s.link.late → t.mode.beating = false) ∧
      (.duplicate ∈ s.link.late → t.mode = .offline ∧ t.station.offline = some .duplicate ∧
        (u.mode ≠ .offline → t.link.urgent = [] ∧ t.link.general = [] ∧ t.link.inbound = [] ∧
          ∀ i, (t.slot i).enable = false)))

/-! Applications. -/

/-- R80, R81, R24, R88: the head frame, of any of the thirteen table-changing kinds, is applied whole: the epoch
advances by one, the own effect is made, the epilogue follows and the digest is recomputed; the frame leaves the inbound
queue, and so do those behind it that a new station state does not admit. Local time, straps, configuration and pins
stay. R121: a slot that mirrors the station's own record shows it after the application too. R15: the slot of the
station's own CLAIM shows the record created, with an APPLIED notice; of one ignored, a SENDING slot is FREE, or shows
the record that stands (DUPLICATE_KEY). R16, R17: the own RELEASE frees its RELEASING slot, or leaves it RELEASING
(STUCK_HELD). R39: a SETTLED for an own claim is reported, with its cause alone, also where the table holds no record of
that key (the model's choice, log entry 61). The amounts and states of these notices are log entries 10, 12, 35, 36 and
58. R64, R125: with no watch unit ARMED, an explaining frame clears all latches, stops the latch limit and withdraws the
own LINE_UNEXPLAINED requests; no other frame moves a latch. R105, R110: the peers' timers follow the replica. R100,
R109, R118: the own JOIN that leaves an ENTERING station present makes it MEMBER; the own LEAVE takes it OFFLINE by
LEAVE, with both lanes empty and every enable off; an ABSENCE about itself takes a MEMBER to ENTERING; any other frame
leaves the station state. With room in the lane a JOIN is queued by that ABSENCE, and by an own JOIN that leaves the
station absent, unless one stands there. -/
def Obligations.TableFrameApplies : Prop :=
  ∀ (s : State) (f : Frame) (r : Replica) (rest : List Frame) (effect : Frame → Replica → OwnEffect),
    s.Applies f r rest → s.InboundFits → tableEffect f.body.kind = some effect →
    let after := r.applied (effect f)
    let e := effect f { r with epoch := r.epoch + 1 }
    let undisturbed (i : SlotNo) := ∀ x ∈ (r.apply (effect f)).log, x.key ≠ s.ownKey i
    after.epoch = r.epoch + 1 ∧ after.digest = after.computeDigest ∧
    ∃ t, exec (frameRow f.body.kind) s = .next t ∧ t.replica = some after ∧
      t.link.inbound = rest.filter (admits t.mode s.self) ∧ t.now = s.now ∧ t.straps = s.straps ∧ t.config = s.config ∧
      t.pins = s.pins ∧
      (∀ i, (s.part i).used = true → (s.slot i).state.apart = false → (s.slot i).Shows (r.find (s.ownKey i)) →
        (t.slot i).Shows (after.find (s.ownKey i))) ∧
      (∀ i code requested minimum, f.body = .claim i code requested minimum → f.sender = s.self →
        (s.part i).used = true → (s.slot i).state = .sending →
        (e.ignored = none → (t.slot i).Shows (after.find (s.ownKey i)) ∧
          PostsFirst s t (some after.epoch)
            (.slot i (some (t.slot i).state) ((after.find (s.ownKey i)).map (·.held)) .applied)) ∧
        (∀ cause, e.ignored = some cause → cause ≠ .duplicateKey →
          (undisturbed i → (t.slot i).Shows none) ∧
            PostsFirst s t (some after.epoch) (.slot i (some .free) none (.ignored cause))) ∧
        (e.ignored = some .duplicateKey → (t.slot i).Shows (after.find (s.ownKey i)) ∧
          ∀ c, r.find (s.ownKey i) = some c →
            PostsFirst s t (some after.epoch) (.slot i (some c.state.mirror) (some c.held) (.ignored .duplicateKey)))) ∧
      (∀ i : SlotNo, f.body = .release (byteOf i.val) → f.sender = s.self → (s.slot i).state = .releasing →
        (e.ignored = none → (t.slot i).Shows none ∧
          PostsFirst s t (some after.epoch) (.slot i (some .free) (some 0) .applied)) ∧
        (e.ignored = some .stuckHeld → (t.slot i).state = .releasing ∧ PostsFirst s t (some after.epoch)
          (.slot i (some .stuck) none (.ignored .stuckHeld))) ∧
        (∀ cause, e.ignored = some cause → cause ≠ .stuckHeld →
          (undisturbed i → (t.slot i).Shows none) ∧
            PostsFirst s t (some after.epoch) (.slot i (some .free) none (.ignored cause)))) ∧
      (∀ i byOwner, f.body = .settled (s.ownKey i) byOwner →
        PostsFirst s t (some after.epoch) (.slot i none none
          (match e.ignored with
            | some cause => .ignored cause
            | none => .gateOpened byOwner))) ∧
      (s.w0.state ≠ .armed → s.w1.state ≠ .armed →
        (Explains f e → (∀ i, (t.slot i).latch = false) ∧ t.slotUnit.latchLimit = none ∧
          ∀ q ∈ (if s.link.sending .urgent then t.link.urgent.tail else t.link.urgent), q.isShedRequest (some 1) = false) ∧
        (¬ Explains f e → ∀ i, (t.slot i).latch = (s.slot i).latch)) ∧
      TimersFollow s t r after ∧ t.mode = s.modeAfter f e.ignored after ∧
      (f.sender = s.self → f.body = .leave → t.station.offline = some .leave ∧ t.link.urgent = [] ∧
        t.link.general = [] ∧ ∀ i, (t.slot i).enable = false) ∧
      (s.RejoinsAfter f e.ignored after → s.inGeneral Queued.isJoin = false → s.link.general.length < 6 →
        s.link.general ++ [.fixed s.joinBody] <+: t.link.general) ∧
      (t.mode = .member → s.mode = .entering → t.station.wasMember = true ∧ t.station.wasIsolated = false)

/-- R90, R91: at a frame it yields at, other than a SNAPSHOT addressed to it, a station captures DIGEST_YIELD, applies
nothing and enters TAINTED (OFFLINE, where its own completed LEAVE is discarded: R118); its replica stays as it was. -/
def Obligations.YieldingStationTaints : Prop :=
  ∀ (s : State) (f : Frame) (r : Replica) (rest : List Frame), s.link.inbound = f :: rest → s.port.due = false →
    s.link.late = [] → s.replica = some r → f.verdict s.mode s.self r = .yields →
    (∀ e image, f.body ≠ .snapshot (byteOf s.self.val) e image) →
    ∃ t, exec (frameRow f.body.kind) s = .next t ∧ Counted s t .digestYield ∧ t.replica = some r ∧
      t.mode = leavingFor (hasOwnLeave s.self rest) .tainted ∧
      (s.fault.lock = false → t.fault.record = some
        { kind := .digestYield, subject := .station f.sender, frame := some f.body.kind, epoch := some r.epoch,
          stamp := s.stamp }) ∧
      ∀ n, (t.peer n).disagree = (s.peer n).disagree

/-- R82, R92: a PRESENCE that the station does not yield at records its sender's state and sample, if the state is one
of the seven; a disagreement is counted against the sender. The replica stays as it was. R96: a MEMBER that applies a
SYNC_REQUEST queues one SNAPSHOT for the requester, unless its general lane holds one for it already; where the lane is
full the answer is dropped with OUTBOUND_FULL (R70); a station in any other state queues none for it. R97: a SNAPSHOT
for another requester withdraws the station's own answer to it, so that none is left but one in transmission. Neither
changes the replica or the station state. -/
def Obligations.PresenceAndSyncFrames : Prop :=
  (∀ (s : State) (f : Frame) (r : Replica) (rest : List Frame) (state sample : Byte), s.Applies f r rest →
     f.body = .presence state sample →
     ∃ t, exec .presenceFrame s = .next t ∧ t.replica = some r ∧ t.mode = s.mode ∧ t.link.inbound = rest ∧
       (t.peer f.sender).presence = (match StationState.ofCode state.toNat with
         | some st => some (st, sample)
         | none => (s.peer f.sender).presence) ∧
       (t.peer f.sender).disagree = (if f.verdict s.mode s.self r = .differs then
         Nat.min 255 ((s.peer f.sender).disagree + 1) else (s.peer f.sender).disagree) ∧
       ∀ n, n ≠ f.sender → t.peer n = s.peer n) ∧
  (∀ (s : State) (f : Frame) (r : Replica) (rest : List Frame), s.Applies f r rest →
     (∀ theirs, f.body = .syncRequest theirs →
       let answers (u : State) := u.link.general.filter fun q => q == .snapshot f.sender
       ∃ t, exec .syncRequestFrame s = .next t ∧ t.replica = some r ∧ t.mode = s.mode ∧ t.link.inbound = rest ∧
         s.link.general <+: t.link.general ∧
         (s.mode = .member → answers s = [] → s.link.general.length < 6 →
           s.link.general ++ [.snapshot f.sender] <+: t.link.general ∧ answers t = [.snapshot f.sender]) ∧
         (s.mode = .member → answers s = [] → s.link.general.length = 6 → t.link.general = s.link.general ∧
           Nat.min 255 (s.counter .outboundFull + 1) ≤ t.counter .outboundFull ∧
           (s.fault.lock = false → t.fault.record = some
             { kind := .outboundFull, subject := .none, frame := some .snapshot, epoch := some r.epoch, stamp := s.stamp })) ∧
         (s.mode ≠ .member ∨ answers s ≠ [] → answers t = answers s)) ∧
     (∀ b epoch image p, f.body = .snapshot b epoch image → stationOf b = some p → p ≠ s.self →
       s.mode ≠ .joining → s.mode ≠ .tainted →
       ∃ t, exec .snapshotFrame s = .next t ∧ t.replica = some r ∧ t.mode = s.mode ∧
         withdrawFrom (s.link.sending .general) (fun q => q == .snapshot p) s.link.general <+: t.link.general ∧
         ∀ q ∈ (if s.link.sending .general then t.link.general.tail else t.link.general), q ≠ .snapshot p))

/-- R98, R172: a JOINING or TAINTED station loads the SNAPSHOT addressed to it at its head, where the image passes its
checks: the replica is the image's, the sync sequence ends, and the station becomes MEMBER, if it was TAINTED and the
roster shows it present, or else ENTERING. An image that fails is a bad check and changes neither. R91: a station that
yields at a SNAPSHOT addressed to it captures DIGEST_YIELD and does the same at once, as a TAINTED station; where the
image fails it is TAINTED. (Where its own completed LEAVE waits, that entry takes it OFFLINE: log entry 21.) What a load
hands on: R121, each slot that mirrors shows the loaded record, with a LOADED notice where it changed, which shows its
cause alone (log entry 35); R125, the latches are cleared, and while SHED# is low the loaded low-class HELD and TRIMMED
slots latch, read at the end of the load, where a crank it abandons has released its hold (R61); R105, R110, the peers'
timers are set from the loaded roster and claims. The table that the image's records make is log entry 18. -/
def Obligations.SnapshotLoads : Prop :=
  (∀ (s : State) (f : Frame) (rest : List Frame) (epoch : Half) (image : List Byte),
     s.link.inbound = f :: rest → s.port.due = false → s.link.late = [] → f.body = .snapshot (byteOf s.self.val) epoch image →
     s.mode = .joining ∨ s.mode = .tainted →
     ∃ t, exec .snapshotFrame s = .next t ∧
       (∀ r, Replica.ofImage epoch image f.epoch f.digest = some r → s.Loaded t r ∧
         t.mode = (if s.mode = .tainted ∧ r.isPresent s.self = true then .member else .entering)) ∧
       (Replica.ofImage epoch image f.epoch f.digest = none → t.replica = s.replica ∧ t.station = s.station ∧
         t.fault.badChecks = Nat.min 65535 (s.fault.badChecks + 1) ∧ Counted s t .badCheck)) ∧
  (∀ (s : State) (f : Frame) (rest : List Frame) (own : Replica) (epoch : Half) (image : List Byte),
     s.link.inbound = f :: rest → s.port.due = false → s.link.late = [] → f.body = .snapshot (byteOf s.self.val) epoch image →
     s.replica = some own → f.verdict s.mode s.self own = .yields → hasOwnLeave s.self rest = false →
     ∃ t, exec .snapshotFrame s = .next t ∧ Counted s t .digestYield ∧
       (∀ r, Replica.ofImage epoch image f.epoch f.digest = some r → s.Loaded t r ∧
         t.mode = (if r.isPresent s.self = true then .member else .entering)) ∧
       (Replica.ofImage epoch image f.epoch f.digest = none → t.replica = some own ∧ t.mode = .tainted ∧
         t.fault.badChecks = Nat.min 65535 (s.fault.badChecks + 1) ∧ Counted s t .badCheck))

/-! Own effects, on the replica r of an application (its epoch already advanced). -/

/-- A frame that is ignored changes no field of the replica and reports no transition of its own (R12, R17, R38, R45,
R49, R52, R53, R107, R111, R113, R117, R128, R130). -/
def Obligations.IgnoredChangesNothing : Prop :=
  ∀ (f : Frame) (r : Replica) (effect : Frame → Replica → OwnEffect) (cause : IgnoreCause),
    tableEffect f.body.kind = some effect → (effect f r).ignored = some cause →
    (effect f r).rep = r ∧ (effect f r).log = []

/-- R12, R13: the checks of a CLAIM in their order; one that passes them all creates one record, WAITING with held 0,
the arrival counter's number and skip count 0, and changes no other. -/
def Obligations.ClaimCreates : Prop :=
  ∀ (f : Frame) (r : Replica) (slot : SlotNo) (code : BitVec 3) (requested minimum : Byte),
    f.body = .claim slot code requested minimum →
    let k : Key := { station := f.sender, slot := slot }
    let cap := (r.entry f.sender).cap slot
    let e := claimEffect f r
    let fieldsOk := (LoadClass.ofCode code.toNat).isSome = true ∧ 1 ≤ requested.toNat ∧ requested.toNat ≤ 200 ∧
      (minimum = 0 ∨ minimum.toNat < requested.toNat)
    (r.isPresent f.sender = false → e.ignored = some .absentSender) ∧
    (r.isPresent f.sender = true →
      (¬ fieldsOk → e.ignored = some .badField) ∧
      (fieldsOk →
        (cap.used = false → e.ignored = some .noCapability) ∧
        (cap.used = true →
          (LoadClass.ofCode code.toNat ≠ some cap.cls → e.ignored = some .classMismatch) ∧
          (LoadClass.ofCode code.toNat = some cap.cls →
            (cap.maxAmps < requested.toNat → e.ignored = some .overCapability) ∧
            (requested.toNat ≤ cap.maxAmps →
              ((r.find k).isSome = true → e.ignored = some .duplicateKey) ∧
              (r.find k = none →
                (4294967295 ≤ r.arrival → e.ignored = some .arrivalsExhausted) ∧
                (r.arrival < 4294967295 →
                  e.ignored = none ∧ e.rep = { r with claims := e.rep.claims, arrival := r.arrival + 1 } ∧
                  e.rep.find k = some
                    { key := k, cls := cap.cls, requested := requested.toNat
                      minimum := if minimum = 0 then none else some minimum.toNat
                      held := 0, state := .waiting, prior := none, arrival := r.arrival, skip := 0 } ∧
                  ∀ j, j ≠ k → e.rep.find j = r.find j)))))))

/-- R16, R17: a RELEASE removes the record it names, in WAITING, HELD, TRIMMED or SHED, and opens the gate if the record
held it; no other record changes. A STUCK record stays, ignored as STUCK_HELD. R38: the checks of a SETTLED in their
order; one that passes them opens the gate and changes nothing else. -/
def Obligations.ReleaseAndSettledEffects : Prop :=
  (∀ (f : Frame) (r : Replica) (b : Byte), f.body = .release b →
     let e := releaseEffect f r
     (r.isPresent f.sender = false → e.ignored = some .absentSender) ∧
     (r.isPresent f.sender = true → slotOf b = none → e.ignored = some .badField) ∧
     (∀ slot, r.isPresent f.sender = true → slotOf b = some slot →
       let k : Key := { station := f.sender, slot := slot }
       (r.find k = none → e.ignored = some .noRecord) ∧
       (∀ c, r.find k = some c →
         (c.state = .stuck → e.ignored = some .stuckHeld) ∧
         (c.state = .waiting ∨ c.state = .held ∨ c.state = .trimmed ∨ c.state = .shed →
           e.ignored = none ∧ e.rep.find k = none ∧ e.rep.gate = (if r.gate = some k then none else r.gate) ∧
           e.rep = { r with claims := e.rep.claims, gate := e.rep.gate } ∧
           ∀ j, j ≠ k → e.rep.find j = r.find j)))) ∧
  (∀ (f : Frame) (r : Replica) (k : Key) (byOwner : Bool), f.body = .settled k byOwner →
     let e := settledEffect f r
     (r.isPresent f.sender = false → e.ignored = some .absentSender) ∧
     (r.isPresent f.sender = true → byOwner = true → k.station ≠ f.sender → e.ignored = some .badField) ∧
     (r.isPresent f.sender = true → (byOwner = true → k.station = f.sender) →
       (r.gate ≠ some k → e.ignored = some .notHolder) ∧
       (r.gate = some k → e.ignored = none ∧ e.rep = { r with gate := none } ∧ e.log = [])))

/-- R45, R46: the checks of a PHASE in their order and the nine legal steps; RECOVER to RUN clears brownout and sets
attempts to 0. A PHASE changes no other field. -/
def Obligations.PhaseSteps : Prop :=
  ∀ (f : Frame) (r : Replica) (code : BitVec 3) (attempts : BitVec 2), f.body = .phase code attempts →
    let e := phaseEffect f r
    let steps (new : Phase) (n : BitVec 2) (brownout : Bool) := e.ignored = none ∧
      e.rep = { r with phase := { r.phase with phase := new, attempts := n, brownout := brownout } }
    (r.isPresent f.sender = false → e.ignored = some .absentSender) ∧
    (r.isPresent f.sender = true → r.phase.crankStation ≠ some f.sender → e.ignored = some .notRole) ∧
    (r.isPresent f.sender = true → r.phase.crankStation = some f.sender →
      (Phase.ofCode code.toNat = none → e.ignored = some .badField) ∧
      (∀ new, Phase.ofCode code.toNat = some new →
        match r.phase.phase, new with
        | .run, .stop | .stop, .crankPending | .crankPending, .crank | .crankPending, .stop | .crank, .recover
        | .crank, .stop | .recover, .stop => steps new attempts r.phase.brownout
        | .stop, .stop => if attempts = 0 then steps .stop 0 r.phase.brownout else e.ignored = some .illegalStep
        | .recover, .run => steps .run 0 false
        | _, _ => e.ignored = some .illegalStep))

/-- R49, R52, R53: a BUDGET of the supply station sets S, R and the budget source and clears brownout; a SHED_REQUEST
sets brownout; a LIFT clears it. None changes another field of the replica. -/
def Obligations.BudgetAndBrownout : Prop :=
  ∀ (f : Frame) (r : Replica),
    (∀ ceiling reserve, f.body = .budget ceiling reserve →
      let e := budgetEffect f r
      (r.isPresent f.sender = false → e.ignored = some .absentSender) ∧
      (r.isPresent f.sender = true → r.phase.supplyStation ≠ some f.sender → e.ignored = some .notRole) ∧
      (r.isPresent f.sender = true → r.phase.supplyStation = some f.sender →
        (1600 < ceiling.toNat ∨ ceiling.toNat < reserve.toNat → e.ignored = some .badField) ∧
        (ceiling.toNat ≤ 1600 → reserve.toNat ≤ ceiling.toNat → e.ignored = none ∧
          e.rep = { r with phase := { r.phase with ceiling := ceiling.toNat, reserve := reserve.toNat, announced := true, brownout := false } }))) ∧
    (∀ cause sample, f.body = .shedRequest cause sample →
      let e := shedRequestEffect f r
      (r.isPresent f.sender = false → e.ignored = some .absentSender) ∧
      (r.isPresent f.sender = true →
        (cause ≠ 0 ∧ cause ≠ 1 → e.ignored = some .badField) ∧
        (cause = 0 ∨ cause = 1 → e.ignored = none ∧ e.rep = { r with phase := { r.phase with brownout := true } }))) ∧
    (f.body = .lift →
      let e := liftEffect f r
      (r.isPresent f.sender = false → e.ignored = some .absentSender) ∧
      (r.isPresent f.sender = true →
        e.ignored = none ∧ e.rep = { r with phase := { r.phase with brownout := false } }))

/-- R128, R130: a SHED_FAULT makes a SHED, HELD or TRIMMED record of its sender STUCK at its requested amount; a
STUCK_CLEAR makes a STUCK record SHED with held 0, and opens the gate if the record held it. Skip count and every other
record stay. -/
def Obligations.StuckFrames : Prop :=
  ∀ (f : Frame) (r : Replica) (b : Byte) (slot : SlotNo) (c : Claim), r.isPresent f.sender = true →
    slotOf b = some slot → r.find { station := f.sender, slot := slot } = some c →
    let k : Key := { station := f.sender, slot := slot }
    (f.body = .shedFault b →
      let e := shedFaultEffect f r
      (c.state = .shed ∨ c.state = .held ∨ c.state = .trimmed → e.ignored = none ∧
        e.rep.find k = some { c with state := .stuck, held := c.requested } ∧ e.rep.gate = r.gate ∧
        ∀ j, j ≠ k → e.rep.find j = r.find j) ∧
      (c.state ≠ .shed → c.state ≠ .held → c.state ≠ .trimmed → e.ignored = some .notApplicable)) ∧
    (f.body = .stuckClear b →
      let e := stuckClearEffect f r
      (c.state = .stuck → e.ignored = none ∧ e.rep.find k = some { c with state := .shed, held := 0 } ∧
        e.rep.gate = (if r.gate = some k then none else r.gate) ∧ ∀ j, j ≠ k → e.rep.find j = r.find j) ∧
      (c.state ≠ .stuck → e.ignored = some .notStuck))

/-- R107, R108, R111, R50, R37: an ABSENCE of a present peer, from a MEMBER sender, makes the peer's roster entry
absent; a HELD, TRIMMED or STUCK claim of the peer becomes ORPHANED with its held amount kept and its state as prior
state, a WAITING or SHED claim below CRITICAL leaves the table, and a CRITICAL one stays as it is; other stations'
claims stay. Where the peer was the supply station, S falls to half of it, R to S at most, the source is FALLBACK and
the field is none; where it was the crank station, the field is none and a crank under way goes to STOP; nothing else of
the phase record changes. A RECLAIM of an absent peer removes its reclaimable orphans alone. Either opens the gate where
it removes the holder's record. -/
def Obligations.AbsenceAndReclaim : Prop :=
  ∀ (f : Frame) (r : Replica) (b : Byte) (n : Station), r.Sound → r.isPresent f.sender = true → f.sync = .member →
    stationOf b = some n → n ≠ f.sender →
    let gateOf (e : OwnEffect) := ∀ k, e.rep.gate = some k ↔
      r.gate = some k ∧ ((r.find k).isSome = true → (e.rep.find k).isSome = true)
    (f.body = .absence b →
      let e := absenceEffect f r
      (r.isPresent n = false → e.ignored = some .alreadyAbsent) ∧
      (r.isPresent n = true → e.ignored = none ∧ e.rep.entry n = .absent ∧ ∀ m, m ≠ n → e.rep.entry m = r.entry m) ∧
      (r.isPresent n = true →
        (let lost := r.phase.supplyStation = some n
         let cranked := r.phase.crankStation = some n
         e.rep.phase = { r.phase with
           ceiling := if lost then r.phase.ceiling / 2 else r.phase.ceiling
           reserve := if lost then Nat.min r.phase.reserve (r.phase.ceiling / 2) else r.phase.reserve
           announced := if lost then false else r.phase.announced
           supplyStation := if lost then none else r.phase.supplyStation
           crankStation := if cranked then none else r.phase.crankStation
           phase := if cranked ∧ (r.phase.phase = .crankPending ∨ r.phase.phase = .crank ∨ r.phase.phase = .recover) then
             .stop else r.phase.phase }) ∧
        gateOf e ∧ e.rep.arrival = r.arrival ∧ e.rep.epoch = r.epoch) ∧
      (r.isPresent n = true → ∀ c, r.find c.key = some c →
        (c.key.station ≠ n → e.rep.find c.key = some c) ∧
        (c.key.station = n →
          (c.state = .held → e.rep.find c.key = some { c with state := .orphaned, prior := some .held }) ∧
          (c.state = .trimmed → e.rep.find c.key = some { c with state := .orphaned, prior := some .trimmed }) ∧
          (c.state = .stuck → e.rep.find c.key = some { c with state := .orphaned, prior := some .stuck }) ∧
          (c.state = .waiting ∨ c.state = .shed → c.cls ≠ .critical → e.rep.find c.key = none) ∧
          (c.state = .waiting ∨ c.state = .shed → c.cls = .critical → e.rep.find c.key = some c)))) ∧
    (f.body = .reclaim b →
      let e := reclaimEffect f r
      (r.isPresent n = true → e.ignored = some .notAbsent) ∧
      (r.isPresent n = false → e.ignored = none ∧ gateOf e ∧
        e.rep = { r with claims := e.rep.claims, gate := e.rep.gate } ∧
        ∀ c, r.find c.key = some c →
          e.rep.find c.key =
            (if c.key.station = n ∧ c.state = .orphaned ∧ c.cls ≠ .critical ∧ c.prior ≠ some .stuck then none
             else some c)))

/-- R103, R113 to R115, R117, R50: a LEAVE of a present station makes its roster entry absent, removes every claim of it
and clears the role fields that name it; nothing else of the phase record changes. A JOIN whose role and used
capabilities are in range makes its sender's entry present with the role admitted part by part; where the crank station
field becomes none a crank under way goes to STOP, and nothing else of the phase record changes. A slot with no entry is
left with no record, and so is one whose entry fails a check, which is reported as discarded with that check's cause
(log entry 39); an entry that is in order stands against its slot as R115 says: it resumes a record of the same class
and requested amount if was-on is set, and otherwise the slot holds a new WAITING record of the entry's values, unless
the arrival counter is exhausted. Neither frame touches another station's entry or claims. R37, R115, R117: the gate
opens where the holder's record is removed or replaced, and a resumed holder keeps it. -/
def Obligations.JoinAndLeave : Prop :=
  ∀ (f : Frame) (r : Replica), r.Sound →
    (f.body = .leave → r.isPresent f.sender = true →
      let e := leaveEffect f r
      e.ignored = none ∧ e.rep.entry f.sender = .absent ∧ (∀ m, m ≠ f.sender → e.rep.entry m = r.entry m) ∧
        e.rep.phase = { r.phase with
          crankStation := if r.phase.crankStation = some f.sender then none else r.phase.crankStation
          supplyStation := if r.phase.supplyStation = some f.sender then none else r.phase.supplyStation } ∧
        (∀ k, e.rep.find k = (if k.station = f.sender then none else r.find k)) ∧
        ∀ k, e.rep.gate = some k ↔ r.gate = some k ∧ (k.station = f.sender → r.find k = none)) ∧
    (∀ roleByte c0 c1 c2 c3 entries role k0 k1 k2 k3, f.body = .join roleByte c0 c1 c2 c3 entries →
      Role.ofCode roleByte.toNat = some role → c0.capability = some k0 → c1.capability = some k1 →
      c2.capability = some k2 → c3.capability = some k3 → entries.length ≤ 4 →
      let e := joinEffect f r
      let caps := #v[k0, k1, k2, k3]
      let crank := admitPart role.crankPart r.phase.crankStation f.sender
      let supply := admitPart role.supplyPart r.phase.supplyStation f.sender
      e.ignored = none ∧
        e.rep.entry f.sender = { present := true, role := roleOf crank.2.1 supply.2.1, caps := caps } ∧
        (∀ m, m ≠ f.sender → e.rep.entry m = r.entry m) ∧
        e.rep.phase = { r.phase with
          crankStation := crank.1
          supplyStation := supply.1
          phase := if r.phase.crankStation ≠ none ∧ crank.1 = none ∧
              (r.phase.phase = .crankPending ∨ r.phase.phase = .crank ∨ r.phase.phase = .recover) then
            .stop else r.phase.phase } ∧
        (∀ k, k.station ≠ f.sender → e.rep.find k = r.find k ∧ (e.rep.gate = some k ↔ r.gate = some k)) ∧
        ∀ slot : SlotNo,
          let k : Key := { station := f.sender, slot := slot }
          let opens := (r.find k).isSome = true → e.rep.gate ≠ some k
          (entryFor slot entries = none → e.rep.find k = none ∧ opens) ∧
          (∀ entry cause, entryFor slot entries = some entry → entryFailure caps [] entry = some cause →
            e.rep.find k = none ∧ (slot, .discarded cause) ∈ e.outcomes ∧ opens) ∧
          ∀ entry, entryFor slot entries = some entry → entryFailure caps [] entry = none →
            (∀ c, r.find k = some c → entry.wasOn = true → c.cls = caps[slot.val].cls →
              c.requested = entry.requested.toNat →
              e.rep.find k = some (match c.state, c.prior with
                | .orphaned, some prior => { c with state := prior.state, prior := none }
                | _, _ => c) ∧ (e.rep.gate = some k ↔ r.gate = some k)) ∧
            (∀ c, r.find k = some c →
              entry.wasOn = false ∨ c.cls ≠ caps[slot.val].cls ∨ c.requested ≠ entry.requested.toNat → opens) ∧
            ((∀ c, r.find k = some c →
                entry.wasOn = false ∨ c.cls ≠ caps[slot.val].cls ∨ c.requested ≠ entry.requested.toNat) →
              r.arrival + 4 ≤ 4294967295 →
              ∃ arrival, r.arrival ≤ arrival ∧ arrival < r.arrival + 4 ∧ e.rep.find k = some
                { key := k, cls := caps[slot.val].cls, requested := entry.requested.toNat
                  minimum := if entry.minimum = 0 then none else some entry.minimum.toNat
                  held := 0, state := .waiting, prior := none, arrival := arrival, skip := 0 }))

/-! Budget, shedding and admission. -/

/-- R22: the available current. The table's five phases, with brownout clear and set; S - R is never negative and A_low
never above A_high where the record's fields are in range; the admission pass runs, with the gate open, in every phase
but CRANK; the start replica's amounts are 80 and 120 units. -/
def Obligations.AvailableCurrent : Prop :=
  ∀ (p : PhaseRecord) (r : Replica), r.phase = p → p.inRange = true → r.gate = none →
    (∀ k : LoadClass, p.available k = if k = .comfort ∨ k = .passenger ∨ k = .deferrable then p.low else p.high) ∧
    p.high = p.ceiling ∧ p.reserve ≤ p.ceiling ∧ p.low ≤ p.high ∧
    (p.brownout = true → p.low = 0) ∧
    (p.brownout = false →
      (p.phase = .run → p.low = p.ceiling) ∧ (p.phase = .stop → p.low + p.reserve = p.ceiling) ∧
      (p.phase = .crankPending → p.low = 0) ∧ (p.phase = .crank → p.low = 0) ∧
      (p.phase = .recover → p.low = p.ceiling)) ∧
    (admissionRuns r = true ↔ p.phase ≠ .crank) ∧
    Replica.start.phase.phase = .stop ∧ Replica.start.phase.brownout = false ∧
    Replica.start.phase.ceiling = 120 ∧ Replica.start.phase.reserve = 40 ∧
    Replica.start.phase.low = 80 ∧ Replica.start.phase.high = 120

/-- R90: the yield rule. With d the sender's epoch minus the receiver's modulo 65,536: from 1 to 32,767 the receiver
yields, from 32,769 to 65,535 it does not, and at 0 and 32,768 it yields exactly if its station number is the higher. Of
two different stations that disagree exactly one yields. -/
def Obligations.YieldRule : Prop :=
  (∀ (f : Frame) (r : Replica) (self : Station) (mode : StationState), f.sync = .member →
    mode = .entering ∨ mode = .member → ¬ (f.epoch = r.epoch ∧ f.digest = r.digest) →
    let d := (f.epoch - r.epoch).toNat
    (d = 0 ∨ d = 32768 → (f.verdict mode self r = .yields ↔ f.sender < self)) ∧
    (1 ≤ d → d ≤ 32767 → f.verdict mode self r = .yields) ∧
    (32769 ≤ d → f.verdict mode self r ≠ .yields)) ∧
  (∀ (f g : Frame) (q r : Replica) (m n : StationState), f.sender ≠ g.sender → f.sync = .member → g.sync = .member →
    m = .entering ∨ m = .member → n = .entering ∨ n = .member → ¬ (q.epoch = r.epoch ∧ q.digest = r.digest) →
    f.epoch = q.epoch → f.digest = q.digest → g.epoch = r.epoch → g.digest = r.digest →
    (f.verdict m g.sender r = .yields ↔ ¬ g.verdict n f.sender q = .yields))

/-- R32: the test of a WAITING or SHED entry of class k against C. A fixed claim fits when C plus its requested amount
does not exceed A(k), and is admitted HELD at it; a flexible claim fits in full on the same test, and else trimmed when
C plus its minimum does not exceed A(k), held at A(k) - C, which is at least the minimum and below the requested amount.
An entry that meets neither does not fit; with A(k) below C none does. A low-class entry can fail where a RESTART entry
fits, and a RESTART entry can fail where no low-class entry fits. -/
def Obligations.AdmissionTest : Prop :=
  (∀ (c : Claim) (available charged : Nat), c.state = .waiting ∨ c.state = .shed → c.inRange = true →
    (charged + c.requested ≤ available → fit available charged c = some (.held, c.requested)) ∧
    (available < charged + c.requested →
      (c.minimum = none → fit available charged c = none) ∧
      (∀ m, c.minimum = some m →
        (charged + m ≤ available → fit available charged c = some (.trimmed, available - charged) ∧
          m ≤ available - charged ∧ available - charged < c.requested) ∧
        (available < charged + m → fit available charged c = none))) ∧
    (available < charged → fit available charged c = none)) ∧
  (∃ (p : PhaseRecord) (charged : Nat) (low restart : Claim), p.inRange = true ∧ low.inRange = true ∧
    restart.inRange = true ∧ low.state = .waiting ∧ restart.state = .waiting ∧ low.cls = .comfort ∧
    restart.cls = .restart ∧ fit (p.available .comfort) charged low = none ∧
    (fit (p.available .restart) charged restart).isSome = true) ∧
  (∃ (p : PhaseRecord) (charged : Nat) (restart : Claim), p.inRange = true ∧ restart.inRange = true ∧
    restart.state = .waiting ∧ restart.cls = .restart ∧ fit (p.available .restart) charged restart = none ∧
    ∀ c : Claim, c.cls.low = true → c.state = .waiting ∨ c.state = .shed → c.inRange = true →
      fit (p.available c.cls) charged c = none)

/-- R26, R29, law 5: after the shedding pass either C is within A_low or no low-class claim is HELD or TRIMMED, and
either C is within S or no RESTART claim is. The pass leaves every CRITICAL claim, and every claim that is not HELD or
TRIMMED, as it was; it changes neither the phase record nor the roster, and C never rises. -/
def Obligations.SheddingReachesLimits : Prop :=
  ∀ r : Replica, r.Sound →
    let q := (sheddingPass { rep := r, log := [] }).rep
    WithinOrShed r.phase.low [.deferrable, .passenger, .comfort] q ∧ WithinOrShed r.phase.ceiling [.restart] q ∧
    (∀ c ∈ r.claims, c.cls = .critical ∨ c.state.given = false → c ∈ q.claims) ∧
    q.phase = r.phase ∧ q.roster = r.roster ∧ q.charged ≤ r.charged

/-- R31, R33 to R36, laws 4 and 9: with a gate holder, and in phase CRANK, the admission pass does nothing. Else it
takes the first entry of the queue that fits and was not touched by the shedding pass, if no barrier stands before it:
that claim becomes the gate holder with skip count 0, and every entry before it, none of which fits, has its skip count
raised by one, up to 8; no other field of the replica changes. Where it admits none, no entry of the queue up to its
first barrier fits. R33: a TRIMMED entry fits while C is below A(k), and grows by the current there is, up to its
requested amount, where it is HELD. -/
def Obligations.AdmissionNeedsOpenGate : Prop :=
  (∀ (touched : List Key) (p : Pass),
    let unfit (d : Claim) := touched.contains d.key = true ∨ fit (p.rep.phase.available d.cls) p.rep.charged d = none
    (p.rep.gate.isSome = true ∨ p.rep.phase.phase = .crank → admissionPass touched p = (p, none)) ∧
    (∀ q k, admissionPass touched p = (q, some k) →
      p.rep.gate = none ∧ p.rep.phase.phase ≠ .crank ∧
      ∃ passed c behind st held, admissionQueue p.rep.claims = passed ++ c :: behind ∧ c.key = k ∧
        c ∈ p.rep.claims ∧ c.state.queued = true ∧ touched.contains k = false ∧
        fit (p.rep.phase.available c.cls) p.rep.charged c = some (st, held) ∧
        (∀ d ∈ passed, unfit d ∧ d.skip ≠ 8) ∧
        q.rep = { p.rep with
          gate := some k
          claims := p.rep.claims.map fun d =>
            if d.key = k then { d with state := st, held := held, skip := 0 }
            else if (passed.map Claim.key).contains d.key then { d with skip := Nat.min 8 (d.skip + 1) } else d } ∧
        q.log = p.log ++ [{ key := k, before := some c.state, after := some st, held := held }]) ∧
    (∀ q, admissionPass touched p = (q, none) → q = p ∧
      (p.rep.gate = none → p.rep.phase.phase ≠ .crank →
        (∀ d ∈ admissionQueue p.rep.claims, unfit d) ∨
        ∃ passed b behind, admissionQueue p.rep.claims = passed ++ b :: behind ∧ b.skip = 8 ∧ unfit b ∧
          ∀ d ∈ passed, unfit d))) ∧
  (∀ (c : Claim) (available charged : Nat), c.state = .trimmed → c.held < c.requested →
    (available ≤ charged → fit available charged c = none) ∧
    (charged < available → c.requested ≤ c.held + (available - charged) →
      fit available charged c = some (.held, c.requested)) ∧
    (charged < available → c.held + (available - charged) < c.requested →
      fit available charged c = some (.trimmed, c.held + (available - charged))))

/-! Timers. Each row acts where its timer runs, when the local time has reached its deadline (log entry 3): `u` is the state
with the time passed. -/

/-- R83, R84, R100: the heartbeat restarts at 100 ms and queues a PRESENCE unless one stands in the general lane, and in
ENTERING the JOIN too, unless one stands there, the PRESENCE first (log entry 14); a probe falls due and its timer
stops. R106, R110: a peer's silence timer restarts at 350 ms, and in MEMBER queues ABSENCE unless its own stands in the
general lane; a peer's orphan hold restarts at its period, and in MEMBER queues RECLAIM unless its own stands there.
R70: a frame that meets a full lane is dropped with OUTBOUND_FULL, and its timer runs a full period all the same. -/
def Obligations.HeartbeatAndPeerTimers : Prop :=
  (∀ (s : State) (d : Nat), s.Settled →
     let u := s.advanceTo d
     (s.link.heartbeat = some d →
       let lane (general : List Queued) := u.setLink { s.link with general := general, heartbeat := some (max s.now d + 100) }
       (s.mode ≠ .entering → s.inGeneral Queued.isPresence = true → exec .heartbeatExpiry s = .next (lane s.link.general)) ∧
       (s.mode ≠ .entering → s.inGeneral Queued.isPresence = false → s.link.general.length < 6 →
         exec .heartbeatExpiry s = .next (lane (s.link.general ++ [.presence]))) ∧
       (s.mode = .entering → s.inGeneral Queued.isPresence = false → s.inGeneral Queued.isJoin = false →
         s.link.general.length < 5 →
         exec .heartbeatExpiry s = .next (lane (s.link.general ++ [.presence, .fixed s.joinBody]))) ∧
       (s.mode = .entering → s.inGeneral Queued.isPresence = true → s.inGeneral Queued.isJoin = false →
         s.link.general.length < 6 →
         exec .heartbeatExpiry s = .next (lane (s.link.general ++ [.fixed s.joinBody]))) ∧
       (s.mode = .entering → s.inGeneral Queued.isPresence = false → s.inGeneral Queued.isJoin = true →
         s.link.general.length < 6 →
         exec .heartbeatExpiry s = .next (lane (s.link.general ++ [.presence]))) ∧
       (s.mode = .entering → s.inGeneral Queued.isPresence = true → s.inGeneral Queued.isJoin = true →
         exec .heartbeatExpiry s = .next (lane s.link.general)) ∧
       (s.mode = .entering → s.inGeneral Queued.isPresence = false → s.inGeneral Queued.isJoin = false →
         s.link.general.length = 5 →
         ∃ t, exec .heartbeatExpiry s = .next t ∧ t.link = (lane (s.link.general ++ [.presence])).link ∧ Untouched s t ∧
           t.members = s.members ∧ t.crank = s.crank ∧ Drops s t u.stamp .join) ∧
       (s.link.general.length = 6 →
         let presence := s.inGeneral Queued.isPresence = false
         let join := s.mode = .entering ∧ s.inGeneral Queued.isJoin = false
         presence ∨ join → ∃ t, exec .heartbeatExpiry s = .next t ∧ t.link = (lane s.link.general).link ∧ Untouched s t ∧
           t.members = s.members ∧ t.crank = s.crank ∧ (presence → ¬ join → Drops s t u.stamp .presence) ∧
           (¬ presence → join → Drops s t u.stamp .join) ∧
           (presence → join → t.counter .outboundFull = Nat.min 255 (s.counter .outboundFull + 2)))) ∧
     (s.link.probeTimer = some d →
       exec .probeDue s = .next (u.setLink { s.link with probeDue := true, probeTimer := none }))) ∧
  (∀ (s : State) (p : Station) (d : Nat), s.Settled →
     let u := s.advanceTo d
     let queued (frame : Body) := u.setLink { s.link with general := s.link.general ++ [.fixed frame] }
     let restart (v : State) := v.changePeer p fun q => { q with silence := some (max s.now d + 350) }
     let hold (v : State) := v.changePeer p fun q =>
       { q with orphanHold := some (max s.now d + 1000 * s.config.general.orphanHold) }
     ((s.peer p).silence = some d →
       (s.mode = .member → s.inGeneral (Queued.isAbsence p) = false → s.link.general.length < 6 →
         exec (.silenceTimerExpiry p) s = .next (restart (queued (.absence (byteOf p.val))))) ∧
       (s.mode ≠ .member ∨ s.inGeneral (Queued.isAbsence p) = true →
         exec (.silenceTimerExpiry p) s = .next (restart u)) ∧
       (s.mode = .member → s.inGeneral (Queued.isAbsence p) = false → s.link.general.length = 6 →
         ∃ t, exec (.silenceTimerExpiry p) s = .next t ∧ t.members = (restart u).members ∧ t.link = s.link ∧
           t.crank = s.crank ∧ Untouched s t ∧ Drops s t u.stamp .absence)) ∧
     ((s.peer p).orphanHold = some d →
       (s.mode = .member → s.inGeneral (Queued.isReclaim p) = false → s.link.general.length < 6 →
         exec (.orphanHoldExpiry p) s = .next (hold (queued (.reclaim (byteOf p.val))))) ∧
       (s.mode ≠ .member ∨ s.inGeneral (Queued.isReclaim p) = true →
         exec (.orphanHoldExpiry p) s = .next (hold u)) ∧
       (s.mode = .member → s.inGeneral (Queued.isReclaim p) = false → s.link.general.length = 6 →
         ∃ t, exec (.orphanHoldExpiry p) s = .next t ∧ t.members = (hold u).members ∧ t.link = s.link ∧
           t.crank = s.crank ∧ Untouched s t ∧ Drops s t u.stamp .reclaim)))

/-- R94, R95, R99, R100: while fewer than three attempts are made the sync timer restarts at 250 ms with a further
SYNC_REQUEST, unless one stands in the general lane; a full lane drops it with OUTBOUND_FULL (R70), and count and timer
move all the same. After the third a JOINING station adopts the start replica and enters ENTERING, and a TAINTED one
captures SYNC_UNANSWERED, keeps its replica and becomes MEMBER if its roster shows it present, else ENTERING. The timer
acts at once, also while a frame waits in the inbound queue: the model's reading (log entry 44). -/
def Obligations.SyncTimerExpires : Prop :=
  ∀ (s : State) (d : Nat), s.Settled → s.station.syncTimer = some d →
    (s.station.syncCount < 3 → s.inGeneral Queued.isSyncRequest = false → s.link.general.length < 6 →
      exec .syncTimeout s = .next (((s.advanceTo d).setLink { s.link with
          general := s.link.general ++ [.fixed (.syncRequest (s.epoch.getD 0))] }).setStation { s.station with
        syncCount := s.station.syncCount + 1, syncTimer := some (max s.now d + 250) })) ∧
    (s.station.syncCount < 3 → s.inGeneral Queued.isSyncRequest = true →
      exec .syncTimeout s = .next ((s.advanceTo d).setStation { s.station with
        syncCount := s.station.syncCount + 1, syncTimer := some (max s.now d + 250) })) ∧
    (s.station.syncCount < 3 → s.inGeneral Queued.isSyncRequest = false → s.link.general.length = 6 →
      ∃ t, exec .syncTimeout s = .next t ∧ t.link = s.link ∧ t.replica = s.replica ∧ t.members = s.members ∧
        t.crank = s.crank ∧ Drops s t (s.advanceTo d).stamp .syncRequest ∧ t.station = { s.station with
          syncCount := s.station.syncCount + 1, syncTimer := some (max s.now d + 250) }) ∧
    (3 ≤ s.station.syncCount → s.mode = .joining →
      ∃ t, exec .syncTimeout s = .next t ∧ t.replica = some .start ∧ t.mode = .entering ∧ t.station.syncTimer = none ∧
        t.link.heartbeat = some (max s.now d + 100)) ∧
    (3 ≤ s.station.syncCount → s.mode = .tainted →
      ∃ t, exec .syncTimeout s = .next t ∧ t.replica = s.replica ∧ Counted s t .syncUnanswered ∧
        t.station.syncTimer = none ∧
        t.mode = (if (∃ r, s.replica = some r ∧ r.isPresent s.self = true) then .member else .entering))

/-- R101: silence falls due in an ENTERING, MEMBER or TAINTED station whose roster shows another present, 350 ms after
the later of its last good frame of another station and its last entry into those states from another. R101, R87: with
no frame in the inbound queue it isolates the station, with cause SILENCE: its heartbeat and sync sequence stop, a probe
is due, every enable of a claim below CRITICAL goes off, and (R61) a crank under way is abandoned, with its notice, its
frame withdrawn from the urgent lane unless that is in transmission (every crank frame there: the model's reading, log
entry 38); the urgent lane stays otherwise, and no frame leaves the general lane. While a frame is under application (a
frame in the inbound queue, log entry 44) the change waits for its end. Where no silence falls due the row changes
nothing (the model's choice, log entry 2). -/
def Obligations.SilenceIsolates : Prop :=
  (∀ (s : State) (d : Nat), s.silenceAt = some d ↔
    (s.mode = .entering ∨ s.mode = .member ∨ s.mode = .tainted) ∧
      (∃ r n, s.replica = some r ∧ n ≠ s.self ∧ r.isPresent n = true) ∧
      d = max (s.members.lastGood.getD 0) s.station.liveSince + 350) ∧
  (∀ s : State, s.silenceAt = none → exec .isolationBySilence s = .next s) ∧
  (∀ (s : State) (d : Nat), s.silenceAt = some d →
    ∃ t, exec .isolationBySilence s = .next t ∧ t.now = max s.now d ∧ t.replica = s.replica ∧
      (s.link.inbound = [] →
        t.mode = .isolated ∧ t.station.isolation = some .silence ∧ t.link.inbound = [] ∧
        t.link.heartbeat = none ∧ t.station.syncTimer = none ∧ t.link.probeDue = true ∧
        s.link.general <+: t.link.general ∧
        (∀ i v, (t.slot i).state ≠ .carried → (t.slot i).values = some v → v.cls ≠ .critical →
          (t.slot i).enable = false) ∧
        (s.crank.state.underWay = true → t.crank = .reset ∧
          t.link.urgent = withdrawFrom (s.link.sending .urgent) Queued.isCrankFrame s.link.urgent ∧
          (s.port.notices.length ≤ 14 → ∃ n ∈ t.port.notices, n.content = .phase .abandoned s.phaseRecord)) ∧
        (s.crank.state.underWay = false → t.crank = s.crank ∧ t.link.urgent = s.link.urgent)) ∧
      (s.link.inbound ≠ [] → t.station = s.station ∧ t.link.inbound = s.link.inbound ∧ .silence ∈ t.link.late))

/-- R57: at the crank settle's expiry a station that is not MEMBER restarts the timer; a MEMBER extends it, at most
twice, while its replica holds a low-class STUCK claim, with a PHASE notice; otherwise it queues PHASE CRANK and enters
CRANKING. R60: at the lockout's end a station that is not MEMBER restarts the timer; a MEMBER that is named in the crank
station field and shows STOP with attempts not 0 queues PHASE STOP with attempts 0 and becomes IDLE; any other MEMBER
becomes IDLE with no frame. R70: a full urgent lane drops the frame with OUTBOUND_FULL, and the timer restarts. What an
application makes of the sequencer: R56, the request's CRANK_PENDING, not ignored, starts the settle timer while
SETTLING (its completion has begun the hold; an earlier request's starts none: the model's reading, log entry 19); R58,
the own CRANK, not ignored, posts CRANK_GO while CRANKING, with the stuck-loads flag; R61, a crank is abandoned where
its own frame is ignored, the phase strays, the station is named no more or goes OFFLINE (`State.Abandons`): IDLE with
its frame withdrawn, and every crank frame with it (the model's reading, log entry 38); R60, an IDLE sequencer, an
abandoned one too, enters LOCKOUT where a MEMBER is owed it (`State.OwesLockout`: the STOP that closes a lockout is told
by its content, the model's reading, log entry 19). Else no other frame moves a crank under way. R56, R58: a load in
TAINTED starts the settle timer, or posts CRANK_GO, that its own frame had not. -/
def Obligations.CrankTimersExpire : Prop :=
  (∀ (s : State) (d : Nat), s.Settled → s.crank.settle = some d →
     let u := s.advanceTo d
     let again := some (max s.now d + s.config.general.crankSettle)
     (s.mode ≠ .member → exec .crankSettleExpiry s = .next (u.setCrank { s.crank with settle := again })) ∧
     (∀ r, s.mode = .member → s.replica = some r →
       (r.lowStuck = true → s.crank.extensions < 2 →
         ∃ t, exec .crankSettleExpiry s = .next t ∧ t.link = s.link ∧
           t.crank = { s.crank with extensions := s.crank.extensions + 1, settle := again } ∧
           (s.port.notices.length < 16 → t.port.notices = s.port.notices ++
             [{ stamp := u.stamp, epoch := some r.epoch,
                content := .phase (.settleExtended (s.crank.extensions + 1)) (some r.phase) }])) ∧
       (r.lowStuck = false ∨ 2 ≤ s.crank.extensions → s.link.urgent.length < 3 →
         exec .crankSettleExpiry s = .next ((u.setLink { s.link with
             urgent := s.link.urgent ++ [.fixed (phaseFrameBody .crank r.phase.attempts)] }).setCrank
           { s.crank with state := .cranking, settle := none, goPosted := false })) ∧
       (r.lowStuck = false ∨ 2 ≤ s.crank.extensions → s.link.urgent.length = 3 →
         ∃ t, exec .crankSettleExpiry s = .next t ∧ t.link = s.link ∧ t.crank = { s.crank with settle := again } ∧
           Untouched s t ∧ t.members = s.members ∧ Drops s t u.stamp .phase))) ∧
  (∀ (s : State) (d : Nat), s.Settled → s.crank.lockout = some d →
     let owed := s.namedCrank = true ∧ s.phaseIs [.stop] = true ∧ s.attempts ≠ 0
     (s.mode ≠ .member → exec .lockoutExpiry s = .next ((s.advanceTo d).setCrank
       { s.crank with lockout := some (max s.now d + 1000 * s.config.general.crankLockout) })) ∧
     (s.mode = .member → owed → s.link.urgent.length < 3 →
       ∃ t, exec .lockoutExpiry s = .next t ∧ t.crank = .reset ∧ t.replica = s.replica ∧
         t.link = { s.link with urgent := s.link.urgent ++ [.fixed (phaseFrameBody .stop 0)] }) ∧
     (s.mode = .member → owed → s.link.urgent.length = 3 →
       ∃ t, exec .lockoutExpiry s = .next t ∧ t.link = s.link ∧ t.crank =
         { s.crank with lockout := some (max s.now d + 1000 * s.config.general.crankLockout) } ∧
         Untouched s t ∧ t.members = s.members ∧ Drops s t (s.advanceTo d).stamp .phase) ∧
     (s.mode = .member → ¬ owed →
       ∃ t, exec .lockoutExpiry s = .next t ∧ t.crank = .reset ∧ t.replica = s.replica ∧ t.link = s.link)) ∧
  (∀ (s : State) (f : Frame) (r : Replica) (rest : List Frame) (effect : Frame → Replica → OwnEffect),
     s.Applies f r rest → s.InboundFits → tableEffect f.body.kind = some effect →
     let after := r.applied (effect f)
     let e := effect f { r with epoch := r.epoch + 1 }
     let own (p : Phase) := f.sender = s.self ∧ ∃ n, f.body = phaseFrameBody p n
     ∃ t, exec (frameRow f.body.kind) s = .next t ∧ t.replica = some after ∧
       let lane := if s.link.sending .urgent then t.link.urgent.tail else t.link.urgent
       let strays := s.Abandons f e.ignored t.mode after
       (own .crankPending → e.ignored = none → s.crank.state = .settling → t.crank = { s.crank with
         settle := if s.crank.hold then some (s.now + s.config.general.crankSettle) else s.crank.settle }) ∧
       (own .crank → e.ignored = none → s.crank.state = .cranking → t.crank = { s.crank with goPosted := true } ∧
         (s.port.notices.length + (r.apply (effect f)).log.length ≤ 14 →
           ∃ n ∈ t.port.notices, n.epoch = some after.epoch ∧ n.content = .crankGo after.lowStuck)) ∧
       (strays → (∀ q ∈ lane, q.isCrankFrame = false) ∧
         (¬ s.OwesLockout t.mode after rest → t.crank = .reset) ∧
         (s.OwesLockout t.mode after rest → t.crank = s.lockedOut)) ∧
       (s.crank.state = .idle → s.OwesLockout t.mode after rest → t.crank = s.lockedOut) ∧
       (¬ strays → s.crank.state.underWay = true → ¬ (f.sender = s.self ∧ f.body.kind = .phase) → t.crank = s.crank)) ∧
  (∀ (s : State) (f : Frame) (rest : List Frame) (epoch : Half) (image : List Byte) (r : Replica),
     s.link.inbound = f :: rest → s.port.due = false → s.link.late = [] → f.body = .snapshot (byteOf s.self.val) epoch image →
     s.mode = .tainted → Replica.ofImage epoch image f.epoch f.digest = some r → r.phase.crankStation = some s.self →
     ∃ t, exec .snapshotFrame s = .next t ∧
       (r.phase.phase = .crankPending → s.crank.state = .settling → s.crank.settle = none →
         t.crank = { s.crank with settle := some (s.now + s.config.general.crankSettle) }) ∧
       (r.phase.phase = .crank → s.crank.state = .cranking → s.crank.goPosted = false →
         t.crank = { s.crank with goPosted := true } ∧ (s.port.notices.length ≤ 6 →
           ∃ n ∈ t.port.notices, n.epoch = some r.epoch ∧ n.content = .crankGo r.lowStuck)))

/-! Slots and the line. An expiry acts where its timer runs, when the local time has reached its deadline (log entry 3): `u`
is the state with the time passed. -/

/-- R63, R64, R124: a falling edge of SHED#, made by another station while the line is high, latches every slot that is
HELD or TRIMMED with a low-class claim and turns every low-class enable off; the latch limit starts if it set a latch
and was stopped. A drive that meets a low line makes no edge. R63, R64: when no other station drives SHED# any more, the
line rises unless this station drives it; the rise clears no latch, and only the enables and the history follow it. -/
def Obligations.LineEdges : Prop :=
  (∀ s : State, s.Settled →
     (s.shedHigh = true → s.mode.live = true → s.resetLow = false →
       ∃ t, exec .shedFallingEdge s = .next t ∧ t.shedHigh = false ∧ t.pins = { s.pins with peerShed := true } ∧
         t.replica = s.replica ∧ t.station = s.station ∧ t.crank = s.crank ∧
         (∀ i v, (s.slot i).values = some v → v.cls.low = true →
           ((s.slot i).state = .held ∨ (s.slot i).state = .trimmed → (t.slot i).latch = true ∧ (t.slot i).enable = false)) ∧
         (∀ i, (s.slot i).latchable = false → (t.slot i).latch = (s.slot i).latch) ∧
         (∀ i, (t.slot i).state = (s.slot i).state ∧ (t.slot i).values = (s.slot i).values) ∧
         t.slotUnit.latchLimit = (match s.slotUnit.latchLimit with
           | some e => some e
           | none => if (∃ i, (s.slot i).latchable = true ∧ (s.slot i).latch = false) then
               some (s.now + s.config.general.latchLimit) else none)) ∧
     (s.shedHigh = false → exec .shedFallingEdge s = .next (s.setPins { s.pins with peerShed := true }))) ∧
  (∀ s : State, s.Settled →
     ∃ t, exec .shedRisingEdge s = .next t ∧ t.shedHigh = !s.ownDrive ∧ t.pins = { s.pins with peerShed := false } ∧
       t = (((s.setPins { s.pins with peerShed := false }).setSlots t.slotUnit.slots).setHistory t.history) ∧
       (∀ i, (t.slot i).latch = (s.slot i).latch ∧ (t.slot i).state = (s.slot i).state ∧
         (t.slot i).values = (s.slot i).values) ∧
       (s.ownDrive = true → t = s.setPins { s.pins with peerShed := false }))

/-- R126: at the latch limit the timer restarts; in MEMBER and TAINTED a SHED_REQUEST with cause LINE_UNEXPLAINED is
queued, unless one of the station's own stands in the urgent lane, and LINE_UNEXPLAINED is captured; in any other state
nothing more. No latch is cleared. R127: at the off deadline, in MEMBER, TAINTED and ISOLATED, a SHED_FAULT is queued in
the urgent lane and STUCK_LOAD is captured, unless one stands there already; the deadline stops, where one stands there
too (the model's reading, log entry 41). In any other state it runs anew. R70: a full urgent lane drops the frame with
OUTBOUND_FULL; LINE_UNEXPLAINED or STUCK_LOAD is captured all the same, and the off deadline runs anew. The time at which
each acts is log entry 3. -/
def Obligations.LatchAndOffDeadlines : Prop :=
  (∀ (s : State) (d : Nat), s.Settled → s.slotUnit.latchLimit = some d →
     let again := some (max s.now d + s.config.general.latchLimit)
     (s.mode ≠ .member → s.mode ≠ .tainted → exec .latchLimitExpiry s = .next ((s.advanceTo d).setSlotUnit
       { (s.advanceTo d).slotUnit with latchLimit := again })) ∧
     (s.mode = .member ∨ s.mode = .tainted →
       ∃ t, exec .latchLimitExpiry s = .next t ∧ t.slotUnit.latchLimit = again ∧ Counted s t .lineUnexplained ∧
         (∀ i, (t.slot i).latch = (s.slot i).latch) ∧
         (s.inUrgent (Queued.isShedRequest none) = true → t.link = s.link) ∧
         (s.inUrgent (Queued.isShedRequest none) = false → s.link.urgent.length < 3 → t.link = { s.link with
           urgent := s.link.urgent ++ [.fixed (.shedRequest 1 s.pins.vsense)] }) ∧
         (s.inUrgent (Queued.isShedRequest none) = false → s.link.urgent.length = 3 → t.link = s.link ∧
           Drops s t (s.advanceTo d).stamp .shedRequest))) ∧
  (∀ (s : State) (i : SlotNo) (d : Nat), s.Settled → (s.slot i).offDeadline = some d →
     let u := s.advanceTo d
     (s.mode.reporting = true → s.inUrgent (Queued.isShedFault i) = true →
       exec (.offDeadlineExpiry i) s = .next (u.putSlot i { u.slot i with offDeadline := none })) ∧
     (s.mode.reporting = true → s.inUrgent (Queued.isShedFault i) = false → s.link.urgent.length < 3 →
       ∃ t, exec (.offDeadlineExpiry i) s = .next t ∧ Counted s t .stuckLoad ∧ (t.slot i).offDeadline = none ∧
         t.link = { s.link with urgent := s.link.urgent ++ [.fixed (.shedFault (byteOf i.val))] } ∧
         (t.slot i).state = (s.slot i).state) ∧
     (s.mode.reporting = true → s.inUrgent (Queued.isShedFault i) = false → s.link.urgent.length = 3 →
       ∃ t, exec (.offDeadlineExpiry i) s = .next t ∧ Drops s t u.stamp .shedFault ∧ Counted s t .stuckLoad ∧
         t.link = s.link ∧ Untouched s t ∧
         t.slot i = { u.slot i with offDeadline := some (max s.now d + (s.part i).offDeadline) }) ∧
     (s.mode.reporting = false → exec (.offDeadlineExpiry i) s = .next (u.putSlot i
       { u.slot i with offDeadline := some (max s.now d + (s.part i).offDeadline) })))

/-- R127, R129, R131: a feedback change is seen on its pin. A used slot with feedback that draws while it is ordered off
starts its off deadline; one that draws while FREE, SENDING or WAITING is captured as UNCLAIMED_DRAW; a STUCK slot that
stops drawing queues STUCK_CLEAR. -/
def Obligations.FeedbackChanges : Prop :=
  ∀ (s : State) (i : SlotNo) (drawing : Bool), s.Settled →
    ∃ t, exec (.feedbackChange i drawing) s = .next t ∧
      t.pins = { s.pins with feedback := s.pins.feedback.set i.val drawing i.isLt } ∧ t.replica = s.replica ∧
      t.station = s.station ∧ t.crank = s.crank ∧ t.link.urgent = s.link.urgent ∧
      (s.mode.live = true → (s.part i).used = true → (s.part i).feedback = true →
        (drawing = true → s.pins.feedback[i.val] = false → (s.slot i).enable = false → s.orderedOff i = true →
          (t.slot i).offDeadline = some (s.now + (s.part i).offDeadline)) ∧
        (drawing = true → s.pins.feedback[i.val] = false →
          (s.slot i).state = .free ∨ (s.slot i).state = .sending ∨ (s.slot i).state = .waiting →
          (t.slot i).unclaimed = true ∧ Counted s t .unclaimedDraw) ∧
        (drawing = false → s.pins.feedback[i.val] = true → s.mode.reporting = true → (s.slot i).state = .stuck →
          s.inGeneral (Queued.isStuckClear i) = false → s.link.general.length < 6 →
          t.link.general = s.link.general ++ [.fixed (.stuckClear (byteOf i.val))]))

/-- R129, R134: the further off deadline of a dropped STUCK_CLEAR queues it again; a full lane drops it with
OUTBOUND_FULL and a further off deadline runs. Where one stands in the lane, or the station does not report, nothing is
queued and the retry ends. At the hold limit, in MEMBER, TAINTED and ISOLATED, the slot becomes RELEASING with its
enable off and a RELEASE in the general lane; a full lane drops it with OUTBOUND_FULL, and the hold time is set back by
one hold limit, as it is in JOINING and ENTERING. A slot whose retry or hold time does not run (no hold time runs in
UNCONFIGURED and OFFLINE, R120) is left alone. The time at which each acts is log entry 3; that the retry is a timer of
its own is log entry 30; that a row whose timer does not run changes nothing is log entry 2; that the HOLD_LIMIT notice
shows the slot number and the cause alone is log entry 35: the model's choices and readings. -/
def Obligations.RetryAndHoldLimit : Prop :=
  ∀ (s : State) (i : SlotNo), s.Settled →
    ((s.slot i).retry = none → exec (.stuckClearRetry i) s = .next s) ∧
    (s.holdLimitAt i = none → exec (.holdLimit i) s = .next s) ∧
    (s.holdLimitAt i = none ↔ ∀ limit, ¬ s.countsHold i limit) ∧
    (∀ limit, s.countsHold i limit → s.holdLimitAt i = some (s.now + (1000 * limit - (s.slot i).holdTime))) ∧
    ∀ d,
      let u := s.advanceTo d
      ((s.slot i).retry = some d →
        (s.mode.reporting = true → s.inGeneral (Queued.isStuckClear i) = false → s.link.general.length < 6 →
          exec (.stuckClearRetry i) s = .next ((u.setLink { s.link with
            general := s.link.general ++ [.fixed (.stuckClear (byteOf i.val))] }).putSlot i
              { u.slot i with retry := none })) ∧
        (s.mode.reporting = true → s.inGeneral (Queued.isStuckClear i) = false → s.link.general.length = 6 →
          ∃ t, exec (.stuckClearRetry i) s = .next t ∧ t.link = s.link ∧ Counted s t .outboundFull ∧
            t.slot i = { u.slot i with retry := some (max s.now d + (s.part i).offDeadline) }) ∧
        (s.mode.reporting = false ∨ s.inGeneral (Queued.isStuckClear i) = true →
          exec (.stuckClearRetry i) s = .next (u.putSlot i { u.slot i with retry := none }))) ∧
      (s.holdLimitAt i = some d →
        (s.mode.reporting = true → s.link.general.length < 6 →
          ∃ t, exec (.holdLimit i) s = .next t ∧ (t.slot i).state = .releasing ∧ (t.slot i).enable = false ∧
            t.link = { s.link with general := s.link.general ++ [.fixed (.release (byteOf i.val))] } ∧
            (∀ j, j ≠ i → t.slot j = u.slot j) ∧ (s.port.notices.length < 16 → t.port.notices = s.port.notices ++
              [{ stamp := u.stamp, epoch := s.epoch, content := .slot i none none .holdLimit }])) ∧
        (s.mode.reporting = true → s.link.general.length = 6 →
          ∃ t, exec (.holdLimit i) s = .next t ∧ t.link = s.link ∧ Counted s t .outboundFull ∧
            ∀ limit, (s.part i).holdLimit = some limit →
              t.slot i = { u.slot i with holdTime := (u.slot i).holdTime - 1000 * limit }) ∧
        (s.mode = .joining ∨ s.mode = .entering →
          ∀ limit, (s.part i).holdLimit = some limit → exec (.holdLimit i) s = .next (u.putSlot i
            { u.slot i with holdTime := (u.slot i).holdTime - 1000 * limit })))

/-- R132, R133: in MEMBER the settle timer of a slot queues SETTLED by its owner and stops, and the gate timeout queues
SETTLED by timeout and stops, queuing none where its own stands in the lane (that it stops there too is log entry 40);
in any other state each restarts, and so it does at a full general lane, which drops the SETTLED with OUTBOUND_FULL
(R70). The time at which each acts is log entry 3. At the end of an application or a load a settle timer runs only for a
slot whose claim holds the gate, and the gate timeout only for the holder; neither runs in OFFLINE (R120). The settle
timer starts with the configured settle time where the admission pass admits or grows the claim, where the own JOIN
resumes it, and at a load; else it goes on. The gate timeout starts for another station's key where the pass admits or
grows it, with the roster's settle time and 100 ms; at an ABSENCE of the holder's station, unless it runs; and at a
load, with 500 ms and 100 ms where the owner is absent; else it goes on. -/
def Obligations.SettleAndGateTimers : Prop :=
  (∀ s : State, s.Settled →
    (∀ i d, (s.slot i).settle = some d →
      let u := s.advanceTo d
      (s.mode = .member → s.link.general.length < 6 →
        exec (.settleTimerExpiry i) s = .next ((u.setLink { s.link with
          general := s.link.general ++ [.fixed (.settled (s.ownKey i) true)] }).putSlot i
            { u.slot i with settle := none })) ∧
      (s.mode ≠ .member → exec (.settleTimerExpiry i) s = .next (u.putSlot i
        { u.slot i with settle := some (max s.now d + 2 * (s.part i).settle) })) ∧
      (s.mode = .member → s.link.general.length = 6 →
        ∃ t, exec (.settleTimerExpiry i) s = .next t ∧ t.link = s.link ∧ Untouched s t ∧ Drops s t u.stamp .settled ∧
          t.slot i = { u.slot i with settle := some (max s.now d + 2 * (s.part i).settle) })) ∧
    (∀ g, s.slotUnit.gate = some g →
      let u := s.advanceTo g.deadline
      let gate (v : State) (h : Option GateTimeout) := v.setSlotUnit { u.slotUnit with gate := h }
      (s.mode = .member → s.inGeneral (Queued.isSettled g.key) = true →
        exec .gateTimeoutExpiry s = .next (gate u none)) ∧
      (s.mode = .member → s.inGeneral (Queued.isSettled g.key) = false → s.link.general.length < 6 →
        exec .gateTimeoutExpiry s = .next (gate (u.setLink { s.link with
          general := s.link.general ++ [.fixed (.settled g.key false)] }) none)) ∧
      (s.mode = .member → s.inGeneral (Queued.isSettled g.key) = false → s.link.general.length = 6 →
        ∃ t, exec .gateTimeoutExpiry s = .next t ∧ t.link = s.link ∧ Untouched s t ∧ Drops s t u.stamp .settled ∧
          t.slotUnit.gate = some { key := g.key, deadline := max s.now g.deadline + g.period, period := g.period }) ∧
      (s.mode ≠ .member → exec .gateTimeoutExpiry s = .next (gate u
        (some { key := g.key, deadline := max s.now g.deadline + g.period, period := g.period }))))) ∧
  (∀ (s : State) (f : Frame) (r : Replica) (rest : List Frame) (effect : Frame → Replica → OwnEffect),
     s.Applies f r rest → s.InboundFits → tableEffect f.body.kind = some effect →
     let a := r.apply (effect f)
     let after := r.applied (effect f)
     let started (k : Key) (period : Nat) : GateTimeout := { key := k, deadline := s.now + period, period := period }
     let cut (k : Key) := a.admitted = none ∧ after.gate = some k ∧ k.station ≠ s.self ∧
       f.body = .absence (byteOf k.station.val) ∧ a.own.ignored = none ∧ s.slotUnit.gate.map (·.key) ≠ some k
     ∃ t, exec (frameRow f.body.kind) s = .next t ∧ t.replica = some after ∧
       (t.mode = .offline → (∀ i, (t.slot i).settle = none) ∧ t.slotUnit.gate = none) ∧
       (t.mode ≠ .offline →
         (∀ i : SlotNo,
           let k := s.ownKey i
           let runs := after.gate = some k ∧ (t.slot i).state ≠ .carried ∧ (s.part i).used = true
           let starts := a.admitted = some k ∨
             (a.admitted = none ∧ f.sender = s.self ∧ f.body.kind = .join ∧ (i, .resumed) ∈ a.own.outcomes)
           (¬ runs → (t.slot i).settle = none) ∧
           (runs → starts → (t.slot i).settle = some (s.now + 2 * (s.part i).settle)) ∧
           (runs → ¬ starts → (t.slot i).settle = (s.slot i).settle)) ∧
         (∀ k, a.admitted = some k → k.station ≠ s.self →
           t.slotUnit.gate = some (started k (after.settleTime k + 100))) ∧
         (∀ k, cut k → t.slotUnit.gate = some (started k (r.settleTime k + 100))) ∧
         ((∀ k, ¬ cut k) → (∀ k, a.admitted = some k → k.station = s.self) →
           t.slotUnit.gate = s.slotUnit.gate.filter fun g => after.gate == some g.key))) ∧
  (∀ (s : State) (f : Frame) (rest : List Frame) (epoch : Half) (image : List Byte) (r : Replica),
     s.link.inbound = f :: rest → s.port.due = false → s.link.late = [] → f.body = .snapshot (byteOf s.self.val) epoch image →
     s.mode = .joining ∨ s.mode = .tainted → Replica.ofImage epoch image f.epoch f.digest = some r →
     ∃ t, exec .snapshotFrame s = .next t ∧ t.replica = some r ∧
       (∀ i, (t.slot i).settle =
         (if r.gate = some (s.ownKey i) ∧ (t.slot i).state ≠ .carried ∧ (s.part i).used = true then
           some (s.now + 2 * (s.part i).settle) else none)) ∧
       (∀ k, r.gate = some k → k.station ≠ s.self →
         let period := (if r.isPresent k.station = true then r.settleTime k else 500) + 100
         t.slotUnit.gate = some { key := k, deadline := s.now + period, period := period }) ∧
       (r.gate = none → t.slotUnit.gate = none))

/-! The watch units. -/

/-- R137 to R144. A VSENSE sample is taken 2 ms after the one before (the jump to it is log entry 3), and offered to the
ARMED units on SUPPLY; an applied frame to those on FRAME and HEADROOM, and on PHASE where it changes the phase, the
station's own frames among them; a falling edge of SHED# to those on LINE. R87: an own JOIN or LEAVE and an ABSENCE
about itself are evaluated as in the station state that took the frame (the order of their effects is log entry 14);
where an own LEAVE takes it OFFLINE, that state then ends the pulses and empties the lanes (R136, R72), so `u` is the
state after it with the pulses and the urgent lane as the evaluation left them. `Counts` says what one evaluation makes
of a unit: a match lowers the counter, and at 0 the unit fires, becoming FIRED or, under REARM, staying ARMED with the
counter reloaded; one that does not match reloads it on SUPPLY and HEADROOM and leaves it on the other sources. `Fires`
(on SUPPLY) and `Fired` (on every source) say what a firing does: its history entry; under NOTIFY its notice; under
PULL_SHED SHED# is low for 50 ms, with a SHED_REQUEST of cause WATCH in MEMBER and TAINTED unless one stands in the
urgent lane; under FREEZE the history is frozen. On every source (`Evaluates`) a firing of W0 arms a DISARMED W1 in
SEQUENCE and reloads an ARMED one of the same source, which does not count the same evaluation; one of another source
that is offered too is reloaded before its own evaluation (the model's choice, log entry 42); a W1 that is FIRED, OFF or
in SINGLE and not ARMED stays. R143, R63: the pulse of a unit ends; SHED# is high again if nothing else drives it, and
only the enables and the history follow. -/
def Obligations.VsenseAndPulse : Prop :=
  (∀ (s : State) (v : Byte), s.Settled → s.resetLow = false →
     let at_ := s.pins.nextSample
     let u := (s.advanceTo at_).setPins { s.pins with vsense := v, nextSample := at_ + 2 }
     ((s.w0.state = .armed → s.w0.source ≠ .supply) → (s.w1.state = .armed → s.w1.source ≠ .supply) →
       exec (.vsenseSample v) s = .next u) ∧
     (∀ second : Bool, s.mode.live = true → (s.unit second).state = .armed → (s.unit second).source = .supply →
       (s.unit (!second)).state ≠ .armed →
       let w := s.unit second
       let hit := w.relation.holds v.toNat w.compare = true
       (¬ hit → exec (.vsenseSample v) s = .next (u.setUnit second { w with counter := w.reload })) ∧
       (hit → w.counter ≠ 0 → exec (.vsenseSample v) s = .next (u.setUnit second { w with counter := w.counter - 1 })) ∧
       (hit → w.counter = 0 →
         ∃ t, exec (.vsenseSample v) s = .next t ∧ t.pins = u.pins ∧ t.replica = s.replica ∧
           Counts w (t.unit second) True ∧ Fires u t second (.sample v) ∧
           t.unit (!second) = (if second = false ∧ s.w1.sequence = true ∧ s.w1.state = .disarmed then
             { s.w1 with state := .armed, counter := s.w1.reload } else s.unit (!second)))) ∧
     (s.mode.live = true → s.w0.state = .armed → s.w0.source = .supply → s.w0.counter = 0 →
       s.w0.relation.holds v.toNat s.w0.compare = true → s.w1.state = .armed → s.w1.sequence = true →
       s.w1.source = .supply →
       ∃ t, exec (.vsenseSample v) s = .next t ∧ Counts s.w0 t.w0 True ∧ t.w1 = { s.w1 with counter := s.w1.reload })) ∧
  (∀ (s : State) (f : Frame) (r : Replica) (rest : List Frame), s.Applies f r rest →
     s.mode = .entering ∨ s.mode = .member →
     ∃ t after u, exec (frameRow f.body.kind) s = .next t ∧ t.replica = some after ∧
       (¬ (f.sender = s.self ∧ f.body = .leave) → u = t) ∧
       (f.sender = s.self → f.body = .leave → t.w0.pulse = none ∧ t.w1.pulse = none ∧ t.link.urgent = [] ∧
         ∃ pulse0 pulse1 urgent, u = ((t.setW0 { t.w0 with pulse := pulse0 }).setW1 { t.w1 with pulse := pulse1 }).setLink
           { t.link with urgent := urgent }) ∧
       let headroom : Int := after.phase.low - after.charged
       Evaluates s u
         (fun source => source = .frame ∨ source = .headroom ∨ (source = .phase ∧ r.phase.phase ≠ after.phase.phase))
         (fun w => match w.source with
           | .frame => (f.body.kind.code : Int) = w.compare ∧ w.mask.getLsbD f.sender.val = true
           | .headroom => w.relation.holds headroom w.compare = true
           | _ => (after.phase.phase.code : Int) = w.compare)
         (fun w => match w.source with
           | .frame => .frame f.body.kind f.sender
           | .headroom => .headroom headroom
           | _ => .phase after.phase.phase)) ∧
  (∀ s : State, s.Settled → s.shedHigh = true → s.mode.live = true → s.resetLow = false →
     ∃ t, exec .shedFallingEdge s = .next t ∧
       Evaluates s t (fun source => source = .line) (fun _ => True) (fun _ => .line)) ∧
  (∀ (s : State) (v : Byte), s.Settled → s.resetLow = false → s.mode.live = true →
     ∃ t, exec (.vsenseSample v) s = .next t ∧
       Evaluates ((s.advanceTo s.pins.nextSample).setPins
           { s.pins with vsense := v, nextSample := s.pins.nextSample + 2 }) t
         (fun source => source = .supply) (fun w => w.relation.holds v.toNat w.compare = true) (fun _ => .sample v)) ∧
  (∀ (s : State) (second : Bool) (d : Nat), s.Settled → (s.unit second).pulse = some d →
     let u := (s.advanceTo d).setUnit second { s.unit second with pulse := none }
     ∃ t, exec (.watchPulseExpiry second) s = .next t ∧ t = (u.setSlots t.slotUnit.slots).setHistory t.history ∧
       (t.unit second).pulse = none ∧
       (t.shedHigh = true ↔ s.crank.hold = false ∧ (s.unit (!second)).pulse = none ∧ s.pins.peerShed = false) ∧
       ∀ i, (t.slot i).latch = (s.slot i).latch ∧ (t.slot i).state = (s.slot i).state)

/-! Layouts. -/

/-- R77, R170, R171: every frame that a station sends passes the frame check of a receiver and is read as it was sent,
where its payload is one the kind can carry: at most 4 JOIN entries, and a SNAPSHOT image of its own length. -/
def Obligations.FrameRoundTrip : Prop :=
  ∀ f : Frame, (∀ role c0 c1 c2 c3 entries, f.body = .join role c0 c1 c2 c3 entries → entries.length ≤ 4) →
    (∀ b e image, f.body = .snapshot b e image → ∃ n : Byte, image[220]? = some n ∧ n.toNat ≤ 64 ∧
      image.length = 221 + 10 * n.toNat) →
    goodFrame f.toWire = some f

/-- R98, R172: a station that loads the image of a valid replica (`Replica.valid`: key order and the ranges of its
fields, as the frames' rules make them; log entry 18), with its epoch and its digest, holds that replica. -/
def Obligations.ImageRoundTrip : Prop :=
  ∀ r : Replica, r.valid = true → r.digest = r.computeDigest →
    Replica.ofImage r.epoch r.serialize r.epoch r.digest = some r
end

