-- ==== Sys2Proof/Laws/State.lean ====
section
/-! SUPPORT. One lemma for each field and each update of State, true by rfl. -/

namespace Sys2Proof.Machine

@[simp] theorem State.setPending_pending (s : State) (v) : (s.setPending v).pending = v := rfl
@[simp] theorem State.setPending_resetLow (s : State) (v) : (s.setPending v).resetLow = s.resetLow := rfl
@[simp] theorem State.setPending_now (s : State) (v) : (s.setPending v).now = s.now := rfl
@[simp] theorem State.setPending_straps (s : State) (v) : (s.setPending v).straps = s.straps := rfl
@[simp] theorem State.setPending_config (s : State) (v) : (s.setPending v).config = s.config := rfl
@[simp] theorem State.setPending_station (s : State) (v) : (s.setPending v).station = s.station := rfl
@[simp] theorem State.setPending_replica (s : State) (v) : (s.setPending v).replica = s.replica := rfl
@[simp] theorem State.setPending_link (s : State) (v) : (s.setPending v).link = s.link := rfl
@[simp] theorem State.setPending_members (s : State) (v) : (s.setPending v).members = s.members := rfl
@[simp] theorem State.setPending_crank (s : State) (v) : (s.setPending v).crank = s.crank := rfl
@[simp] theorem State.setPending_slotUnit (s : State) (v) : (s.setPending v).slotUnit = s.slotUnit := rfl
@[simp] theorem State.setPending_w0 (s : State) (v) : (s.setPending v).w0 = s.w0 := rfl
@[simp] theorem State.setPending_w1 (s : State) (v) : (s.setPending v).w1 = s.w1 := rfl
@[simp] theorem State.setPending_fault (s : State) (v) : (s.setPending v).fault = s.fault := rfl
@[simp] theorem State.setPending_history (s : State) (v) : (s.setPending v).history = s.history := rfl
@[simp] theorem State.setPending_port (s : State) (v) : (s.setPending v).port = s.port := rfl
@[simp] theorem State.setPending_pins (s : State) (v) : (s.setPending v).pins = s.pins := rfl
@[simp] theorem State.setPending_freeCount (s : State) (v) : (s.setPending v).freeCount = s.freeCount := rfl
@[simp] theorem State.setResetLow_pending (s : State) (v) : (s.setResetLow v).pending = s.pending := rfl
@[simp] theorem State.setResetLow_now (s : State) (v) : (s.setResetLow v).now = s.now := rfl
@[simp] theorem State.setResetLow_straps (s : State) (v) : (s.setResetLow v).straps = s.straps := rfl
@[simp] theorem State.setResetLow_config (s : State) (v) : (s.setResetLow v).config = s.config := rfl
@[simp] theorem State.setResetLow_station (s : State) (v) : (s.setResetLow v).station = s.station := rfl
@[simp] theorem State.setResetLow_replica (s : State) (v) : (s.setResetLow v).replica = s.replica := rfl
@[simp] theorem State.setResetLow_link (s : State) (v) : (s.setResetLow v).link = s.link := rfl
@[simp] theorem State.setResetLow_members (s : State) (v) : (s.setResetLow v).members = s.members := rfl
@[simp] theorem State.setResetLow_crank (s : State) (v) : (s.setResetLow v).crank = s.crank := rfl
@[simp] theorem State.setResetLow_slotUnit (s : State) (v) : (s.setResetLow v).slotUnit = s.slotUnit := rfl
@[simp] theorem State.setResetLow_w0 (s : State) (v) : (s.setResetLow v).w0 = s.w0 := rfl
@[simp] theorem State.setResetLow_w1 (s : State) (v) : (s.setResetLow v).w1 = s.w1 := rfl
@[simp] theorem State.setResetLow_fault (s : State) (v) : (s.setResetLow v).fault = s.fault := rfl
@[simp] theorem State.setResetLow_history (s : State) (v) : (s.setResetLow v).history = s.history := rfl
@[simp] theorem State.setResetLow_port (s : State) (v) : (s.setResetLow v).port = s.port := rfl
@[simp] theorem State.setResetLow_pins (s : State) (v) : (s.setResetLow v).pins = s.pins := rfl
@[simp] theorem State.setResetLow_freeCount (s : State) (v) : (s.setResetLow v).freeCount = s.freeCount := rfl
@[simp] theorem State.setResetLow_resetLow (s : State) (v) : (s.setResetLow v).resetLow = v := rfl
@[simp] theorem State.setNow_pending (s : State) (v) : (s.setNow v).pending = s.pending := rfl
@[simp] theorem State.setNow_resetLow (s : State) (v) : (s.setNow v).resetLow = s.resetLow := rfl
@[simp] theorem State.setNow_now (s : State) (v) : (s.setNow v).now = v := rfl
@[simp] theorem State.setNow_straps (s : State) (v) : (s.setNow v).straps = s.straps := rfl
@[simp] theorem State.setNow_config (s : State) (v) : (s.setNow v).config = s.config := rfl
@[simp] theorem State.setNow_station (s : State) (v) : (s.setNow v).station = s.station := rfl
@[simp] theorem State.setNow_replica (s : State) (v) : (s.setNow v).replica = s.replica := rfl
@[simp] theorem State.setNow_link (s : State) (v) : (s.setNow v).link = s.link := rfl
@[simp] theorem State.setNow_members (s : State) (v) : (s.setNow v).members = s.members := rfl
@[simp] theorem State.setNow_crank (s : State) (v) : (s.setNow v).crank = s.crank := rfl
@[simp] theorem State.setNow_slotUnit (s : State) (v) : (s.setNow v).slotUnit = s.slotUnit := rfl
@[simp] theorem State.setNow_w0 (s : State) (v) : (s.setNow v).w0 = s.w0 := rfl
@[simp] theorem State.setNow_w1 (s : State) (v) : (s.setNow v).w1 = s.w1 := rfl
@[simp] theorem State.setNow_fault (s : State) (v) : (s.setNow v).fault = s.fault := rfl
@[simp] theorem State.setNow_history (s : State) (v) : (s.setNow v).history = s.history := rfl
@[simp] theorem State.setNow_port (s : State) (v) : (s.setNow v).port = s.port := rfl
@[simp] theorem State.setNow_pins (s : State) (v) : (s.setNow v).pins = s.pins := rfl
@[simp] theorem State.setNow_freeCount (s : State) (v) : (s.setNow v).freeCount = s.freeCount := rfl
@[simp] theorem State.setConfig_pending (s : State) (v) : (s.setConfig v).pending = s.pending := rfl
@[simp] theorem State.setConfig_resetLow (s : State) (v) : (s.setConfig v).resetLow = s.resetLow := rfl
@[simp] theorem State.setConfig_now (s : State) (v) : (s.setConfig v).now = s.now := rfl
@[simp] theorem State.setConfig_straps (s : State) (v) : (s.setConfig v).straps = s.straps := rfl
@[simp] theorem State.setConfig_config (s : State) (v) : (s.setConfig v).config = v := rfl
@[simp] theorem State.setConfig_station (s : State) (v) : (s.setConfig v).station = s.station := rfl
@[simp] theorem State.setConfig_replica (s : State) (v) : (s.setConfig v).replica = s.replica := rfl
@[simp] theorem State.setConfig_link (s : State) (v) : (s.setConfig v).link = s.link := rfl
@[simp] theorem State.setConfig_members (s : State) (v) : (s.setConfig v).members = s.members := rfl
@[simp] theorem State.setConfig_crank (s : State) (v) : (s.setConfig v).crank = s.crank := rfl
@[simp] theorem State.setConfig_slotUnit (s : State) (v) : (s.setConfig v).slotUnit = s.slotUnit := rfl
@[simp] theorem State.setConfig_w0 (s : State) (v) : (s.setConfig v).w0 = s.w0 := rfl
@[simp] theorem State.setConfig_w1 (s : State) (v) : (s.setConfig v).w1 = s.w1 := rfl
@[simp] theorem State.setConfig_fault (s : State) (v) : (s.setConfig v).fault = s.fault := rfl
@[simp] theorem State.setConfig_history (s : State) (v) : (s.setConfig v).history = s.history := rfl
@[simp] theorem State.setConfig_port (s : State) (v) : (s.setConfig v).port = s.port := rfl
@[simp] theorem State.setConfig_pins (s : State) (v) : (s.setConfig v).pins = s.pins := rfl
@[simp] theorem State.setConfig_freeCount (s : State) (v) : (s.setConfig v).freeCount = s.freeCount := rfl
@[simp] theorem State.setStation_pending (s : State) (v) : (s.setStation v).pending = s.pending := rfl
@[simp] theorem State.setStation_resetLow (s : State) (v) : (s.setStation v).resetLow = s.resetLow := rfl
@[simp] theorem State.setStation_now (s : State) (v) : (s.setStation v).now = s.now := rfl
@[simp] theorem State.setStation_straps (s : State) (v) : (s.setStation v).straps = s.straps := rfl
@[simp] theorem State.setStation_config (s : State) (v) : (s.setStation v).config = s.config := rfl
@[simp] theorem State.setStation_station (s : State) (v) : (s.setStation v).station = v := rfl
@[simp] theorem State.setStation_replica (s : State) (v) : (s.setStation v).replica = s.replica := rfl
@[simp] theorem State.setStation_link (s : State) (v) : (s.setStation v).link = s.link := rfl
@[simp] theorem State.setStation_members (s : State) (v) : (s.setStation v).members = s.members := rfl
@[simp] theorem State.setStation_crank (s : State) (v) : (s.setStation v).crank = s.crank := rfl
@[simp] theorem State.setStation_slotUnit (s : State) (v) : (s.setStation v).slotUnit = s.slotUnit := rfl
@[simp] theorem State.setStation_w0 (s : State) (v) : (s.setStation v).w0 = s.w0 := rfl
@[simp] theorem State.setStation_w1 (s : State) (v) : (s.setStation v).w1 = s.w1 := rfl
@[simp] theorem State.setStation_fault (s : State) (v) : (s.setStation v).fault = s.fault := rfl
@[simp] theorem State.setStation_history (s : State) (v) : (s.setStation v).history = s.history := rfl
@[simp] theorem State.setStation_port (s : State) (v) : (s.setStation v).port = s.port := rfl
@[simp] theorem State.setStation_pins (s : State) (v) : (s.setStation v).pins = s.pins := rfl
@[simp] theorem State.setStation_freeCount (s : State) (v) : (s.setStation v).freeCount = s.freeCount := rfl
@[simp] theorem State.setReplica_pending (s : State) (v) : (s.setReplica v).pending = s.pending := rfl
@[simp] theorem State.setReplica_resetLow (s : State) (v) : (s.setReplica v).resetLow = s.resetLow := rfl
@[simp] theorem State.setReplica_now (s : State) (v) : (s.setReplica v).now = s.now := rfl
@[simp] theorem State.setReplica_straps (s : State) (v) : (s.setReplica v).straps = s.straps := rfl
@[simp] theorem State.setReplica_config (s : State) (v) : (s.setReplica v).config = s.config := rfl
@[simp] theorem State.setReplica_station (s : State) (v) : (s.setReplica v).station = s.station := rfl
@[simp] theorem State.setReplica_replica (s : State) (v) : (s.setReplica v).replica = v := rfl
@[simp] theorem State.setReplica_link (s : State) (v) : (s.setReplica v).link = s.link := rfl
@[simp] theorem State.setReplica_members (s : State) (v) : (s.setReplica v).members = s.members := rfl
@[simp] theorem State.setReplica_crank (s : State) (v) : (s.setReplica v).crank = s.crank := rfl
@[simp] theorem State.setReplica_slotUnit (s : State) (v) : (s.setReplica v).slotUnit = s.slotUnit := rfl
@[simp] theorem State.setReplica_w0 (s : State) (v) : (s.setReplica v).w0 = s.w0 := rfl
@[simp] theorem State.setReplica_w1 (s : State) (v) : (s.setReplica v).w1 = s.w1 := rfl
@[simp] theorem State.setReplica_fault (s : State) (v) : (s.setReplica v).fault = s.fault := rfl
@[simp] theorem State.setReplica_history (s : State) (v) : (s.setReplica v).history = s.history := rfl
@[simp] theorem State.setReplica_port (s : State) (v) : (s.setReplica v).port = s.port := rfl
@[simp] theorem State.setReplica_pins (s : State) (v) : (s.setReplica v).pins = s.pins := rfl
@[simp] theorem State.setReplica_freeCount (s : State) (v) : (s.setReplica v).freeCount = s.freeCount := rfl
@[simp] theorem State.setLink_pending (s : State) (v) : (s.setLink v).pending = s.pending := rfl
@[simp] theorem State.setLink_resetLow (s : State) (v) : (s.setLink v).resetLow = s.resetLow := rfl
@[simp] theorem State.setLink_now (s : State) (v) : (s.setLink v).now = s.now := rfl
@[simp] theorem State.setLink_straps (s : State) (v) : (s.setLink v).straps = s.straps := rfl
@[simp] theorem State.setLink_config (s : State) (v) : (s.setLink v).config = s.config := rfl
@[simp] theorem State.setLink_station (s : State) (v) : (s.setLink v).station = s.station := rfl
@[simp] theorem State.setLink_replica (s : State) (v) : (s.setLink v).replica = s.replica := rfl
@[simp] theorem State.setLink_link (s : State) (v) : (s.setLink v).link = v := rfl
@[simp] theorem State.setLink_members (s : State) (v) : (s.setLink v).members = s.members := rfl
@[simp] theorem State.setLink_crank (s : State) (v) : (s.setLink v).crank = s.crank := rfl
@[simp] theorem State.setLink_slotUnit (s : State) (v) : (s.setLink v).slotUnit = s.slotUnit := rfl
@[simp] theorem State.setLink_w0 (s : State) (v) : (s.setLink v).w0 = s.w0 := rfl
@[simp] theorem State.setLink_w1 (s : State) (v) : (s.setLink v).w1 = s.w1 := rfl
@[simp] theorem State.setLink_fault (s : State) (v) : (s.setLink v).fault = s.fault := rfl
@[simp] theorem State.setLink_history (s : State) (v) : (s.setLink v).history = s.history := rfl
@[simp] theorem State.setLink_port (s : State) (v) : (s.setLink v).port = s.port := rfl
@[simp] theorem State.setLink_pins (s : State) (v) : (s.setLink v).pins = s.pins := rfl
@[simp] theorem State.setLink_freeCount (s : State) (v) : (s.setLink v).freeCount = s.freeCount := rfl
@[simp] theorem State.setMembers_pending (s : State) (v) : (s.setMembers v).pending = s.pending := rfl
@[simp] theorem State.setMembers_resetLow (s : State) (v) : (s.setMembers v).resetLow = s.resetLow := rfl
@[simp] theorem State.setMembers_now (s : State) (v) : (s.setMembers v).now = s.now := rfl
@[simp] theorem State.setMembers_straps (s : State) (v) : (s.setMembers v).straps = s.straps := rfl
@[simp] theorem State.setMembers_config (s : State) (v) : (s.setMembers v).config = s.config := rfl
@[simp] theorem State.setMembers_station (s : State) (v) : (s.setMembers v).station = s.station := rfl
@[simp] theorem State.setMembers_replica (s : State) (v) : (s.setMembers v).replica = s.replica := rfl
@[simp] theorem State.setMembers_link (s : State) (v) : (s.setMembers v).link = s.link := rfl
@[simp] theorem State.setMembers_members (s : State) (v) : (s.setMembers v).members = v := rfl
@[simp] theorem State.setMembers_crank (s : State) (v) : (s.setMembers v).crank = s.crank := rfl
@[simp] theorem State.setMembers_slotUnit (s : State) (v) : (s.setMembers v).slotUnit = s.slotUnit := rfl
@[simp] theorem State.setMembers_w0 (s : State) (v) : (s.setMembers v).w0 = s.w0 := rfl
@[simp] theorem State.setMembers_w1 (s : State) (v) : (s.setMembers v).w1 = s.w1 := rfl
@[simp] theorem State.setMembers_fault (s : State) (v) : (s.setMembers v).fault = s.fault := rfl
@[simp] theorem State.setMembers_history (s : State) (v) : (s.setMembers v).history = s.history := rfl
@[simp] theorem State.setMembers_port (s : State) (v) : (s.setMembers v).port = s.port := rfl
@[simp] theorem State.setMembers_pins (s : State) (v) : (s.setMembers v).pins = s.pins := rfl
@[simp] theorem State.setMembers_freeCount (s : State) (v) : (s.setMembers v).freeCount = s.freeCount := rfl
@[simp] theorem State.setCrank_pending (s : State) (v) : (s.setCrank v).pending = s.pending := rfl
@[simp] theorem State.setCrank_resetLow (s : State) (v) : (s.setCrank v).resetLow = s.resetLow := rfl
@[simp] theorem State.setCrank_now (s : State) (v) : (s.setCrank v).now = s.now := rfl
@[simp] theorem State.setCrank_straps (s : State) (v) : (s.setCrank v).straps = s.straps := rfl
@[simp] theorem State.setCrank_config (s : State) (v) : (s.setCrank v).config = s.config := rfl
@[simp] theorem State.setCrank_station (s : State) (v) : (s.setCrank v).station = s.station := rfl
@[simp] theorem State.setCrank_replica (s : State) (v) : (s.setCrank v).replica = s.replica := rfl
@[simp] theorem State.setCrank_link (s : State) (v) : (s.setCrank v).link = s.link := rfl
@[simp] theorem State.setCrank_members (s : State) (v) : (s.setCrank v).members = s.members := rfl
@[simp] theorem State.setCrank_crank (s : State) (v) : (s.setCrank v).crank = v := rfl
@[simp] theorem State.setCrank_slotUnit (s : State) (v) : (s.setCrank v).slotUnit = s.slotUnit := rfl
@[simp] theorem State.setCrank_w0 (s : State) (v) : (s.setCrank v).w0 = s.w0 := rfl
@[simp] theorem State.setCrank_w1 (s : State) (v) : (s.setCrank v).w1 = s.w1 := rfl
@[simp] theorem State.setCrank_fault (s : State) (v) : (s.setCrank v).fault = s.fault := rfl
@[simp] theorem State.setCrank_history (s : State) (v) : (s.setCrank v).history = s.history := rfl
@[simp] theorem State.setCrank_port (s : State) (v) : (s.setCrank v).port = s.port := rfl
@[simp] theorem State.setCrank_pins (s : State) (v) : (s.setCrank v).pins = s.pins := rfl
@[simp] theorem State.setCrank_freeCount (s : State) (v) : (s.setCrank v).freeCount = s.freeCount := rfl
@[simp] theorem State.setSlotUnit_pending (s : State) (v) : (s.setSlotUnit v).pending = s.pending := rfl
@[simp] theorem State.setSlotUnit_resetLow (s : State) (v) : (s.setSlotUnit v).resetLow = s.resetLow := rfl
@[simp] theorem State.setSlotUnit_now (s : State) (v) : (s.setSlotUnit v).now = s.now := rfl
@[simp] theorem State.setSlotUnit_straps (s : State) (v) : (s.setSlotUnit v).straps = s.straps := rfl
@[simp] theorem State.setSlotUnit_config (s : State) (v) : (s.setSlotUnit v).config = s.config := rfl
@[simp] theorem State.setSlotUnit_station (s : State) (v) : (s.setSlotUnit v).station = s.station := rfl
@[simp] theorem State.setSlotUnit_replica (s : State) (v) : (s.setSlotUnit v).replica = s.replica := rfl
@[simp] theorem State.setSlotUnit_link (s : State) (v) : (s.setSlotUnit v).link = s.link := rfl
@[simp] theorem State.setSlotUnit_members (s : State) (v) : (s.setSlotUnit v).members = s.members := rfl
@[simp] theorem State.setSlotUnit_crank (s : State) (v) : (s.setSlotUnit v).crank = s.crank := rfl
@[simp] theorem State.setSlotUnit_slotUnit (s : State) (v) : (s.setSlotUnit v).slotUnit = v := rfl
@[simp] theorem State.setSlotUnit_w0 (s : State) (v) : (s.setSlotUnit v).w0 = s.w0 := rfl
@[simp] theorem State.setSlotUnit_w1 (s : State) (v) : (s.setSlotUnit v).w1 = s.w1 := rfl
@[simp] theorem State.setSlotUnit_fault (s : State) (v) : (s.setSlotUnit v).fault = s.fault := rfl
@[simp] theorem State.setSlotUnit_history (s : State) (v) : (s.setSlotUnit v).history = s.history := rfl
@[simp] theorem State.setSlotUnit_port (s : State) (v) : (s.setSlotUnit v).port = s.port := rfl
@[simp] theorem State.setSlotUnit_pins (s : State) (v) : (s.setSlotUnit v).pins = s.pins := rfl
@[simp] theorem State.setSlotUnit_freeCount (s : State) (v) : (s.setSlotUnit v).freeCount = s.freeCount := rfl
@[simp] theorem State.setW0_pending (s : State) (v) : (s.setW0 v).pending = s.pending := rfl
@[simp] theorem State.setW0_resetLow (s : State) (v) : (s.setW0 v).resetLow = s.resetLow := rfl
@[simp] theorem State.setW0_now (s : State) (v) : (s.setW0 v).now = s.now := rfl
@[simp] theorem State.setW0_straps (s : State) (v) : (s.setW0 v).straps = s.straps := rfl
@[simp] theorem State.setW0_config (s : State) (v) : (s.setW0 v).config = s.config := rfl
@[simp] theorem State.setW0_station (s : State) (v) : (s.setW0 v).station = s.station := rfl
@[simp] theorem State.setW0_replica (s : State) (v) : (s.setW0 v).replica = s.replica := rfl
@[simp] theorem State.setW0_link (s : State) (v) : (s.setW0 v).link = s.link := rfl
@[simp] theorem State.setW0_members (s : State) (v) : (s.setW0 v).members = s.members := rfl
@[simp] theorem State.setW0_crank (s : State) (v) : (s.setW0 v).crank = s.crank := rfl
@[simp] theorem State.setW0_slotUnit (s : State) (v) : (s.setW0 v).slotUnit = s.slotUnit := rfl
@[simp] theorem State.setW0_w0 (s : State) (v) : (s.setW0 v).w0 = v := rfl
@[simp] theorem State.setW0_w1 (s : State) (v) : (s.setW0 v).w1 = s.w1 := rfl
@[simp] theorem State.setW0_fault (s : State) (v) : (s.setW0 v).fault = s.fault := rfl
@[simp] theorem State.setW0_history (s : State) (v) : (s.setW0 v).history = s.history := rfl
@[simp] theorem State.setW0_port (s : State) (v) : (s.setW0 v).port = s.port := rfl
@[simp] theorem State.setW0_pins (s : State) (v) : (s.setW0 v).pins = s.pins := rfl
@[simp] theorem State.setW0_freeCount (s : State) (v) : (s.setW0 v).freeCount = s.freeCount := rfl
@[simp] theorem State.setW1_pending (s : State) (v) : (s.setW1 v).pending = s.pending := rfl
@[simp] theorem State.setW1_resetLow (s : State) (v) : (s.setW1 v).resetLow = s.resetLow := rfl
@[simp] theorem State.setW1_now (s : State) (v) : (s.setW1 v).now = s.now := rfl
@[simp] theorem State.setW1_straps (s : State) (v) : (s.setW1 v).straps = s.straps := rfl
@[simp] theorem State.setW1_config (s : State) (v) : (s.setW1 v).config = s.config := rfl
@[simp] theorem State.setW1_station (s : State) (v) : (s.setW1 v).station = s.station := rfl
@[simp] theorem State.setW1_replica (s : State) (v) : (s.setW1 v).replica = s.replica := rfl
@[simp] theorem State.setW1_link (s : State) (v) : (s.setW1 v).link = s.link := rfl
@[simp] theorem State.setW1_members (s : State) (v) : (s.setW1 v).members = s.members := rfl
@[simp] theorem State.setW1_crank (s : State) (v) : (s.setW1 v).crank = s.crank := rfl
@[simp] theorem State.setW1_slotUnit (s : State) (v) : (s.setW1 v).slotUnit = s.slotUnit := rfl
@[simp] theorem State.setW1_w0 (s : State) (v) : (s.setW1 v).w0 = s.w0 := rfl
@[simp] theorem State.setW1_w1 (s : State) (v) : (s.setW1 v).w1 = v := rfl
@[simp] theorem State.setW1_fault (s : State) (v) : (s.setW1 v).fault = s.fault := rfl
@[simp] theorem State.setW1_history (s : State) (v) : (s.setW1 v).history = s.history := rfl
@[simp] theorem State.setW1_port (s : State) (v) : (s.setW1 v).port = s.port := rfl
@[simp] theorem State.setW1_pins (s : State) (v) : (s.setW1 v).pins = s.pins := rfl
@[simp] theorem State.setW1_freeCount (s : State) (v) : (s.setW1 v).freeCount = s.freeCount := rfl
@[simp] theorem State.setFault_pending (s : State) (v) : (s.setFault v).pending = s.pending := rfl
@[simp] theorem State.setFault_resetLow (s : State) (v) : (s.setFault v).resetLow = s.resetLow := rfl
@[simp] theorem State.setFault_now (s : State) (v) : (s.setFault v).now = s.now := rfl
@[simp] theorem State.setFault_straps (s : State) (v) : (s.setFault v).straps = s.straps := rfl
@[simp] theorem State.setFault_config (s : State) (v) : (s.setFault v).config = s.config := rfl
@[simp] theorem State.setFault_station (s : State) (v) : (s.setFault v).station = s.station := rfl
@[simp] theorem State.setFault_replica (s : State) (v) : (s.setFault v).replica = s.replica := rfl
@[simp] theorem State.setFault_link (s : State) (v) : (s.setFault v).link = s.link := rfl
@[simp] theorem State.setFault_members (s : State) (v) : (s.setFault v).members = s.members := rfl
@[simp] theorem State.setFault_crank (s : State) (v) : (s.setFault v).crank = s.crank := rfl
@[simp] theorem State.setFault_slotUnit (s : State) (v) : (s.setFault v).slotUnit = s.slotUnit := rfl
@[simp] theorem State.setFault_w0 (s : State) (v) : (s.setFault v).w0 = s.w0 := rfl
@[simp] theorem State.setFault_w1 (s : State) (v) : (s.setFault v).w1 = s.w1 := rfl
@[simp] theorem State.setFault_fault (s : State) (v) : (s.setFault v).fault = v := rfl
@[simp] theorem State.setFault_history (s : State) (v) : (s.setFault v).history = s.history := rfl
@[simp] theorem State.setFault_port (s : State) (v) : (s.setFault v).port = s.port := rfl
@[simp] theorem State.setFault_pins (s : State) (v) : (s.setFault v).pins = s.pins := rfl
@[simp] theorem State.setFault_freeCount (s : State) (v) : (s.setFault v).freeCount = s.freeCount := rfl
@[simp] theorem State.setHistory_pending (s : State) (v) : (s.setHistory v).pending = s.pending := rfl
@[simp] theorem State.setHistory_resetLow (s : State) (v) : (s.setHistory v).resetLow = s.resetLow := rfl
@[simp] theorem State.setHistory_now (s : State) (v) : (s.setHistory v).now = s.now := rfl
@[simp] theorem State.setHistory_straps (s : State) (v) : (s.setHistory v).straps = s.straps := rfl
@[simp] theorem State.setHistory_config (s : State) (v) : (s.setHistory v).config = s.config := rfl
@[simp] theorem State.setHistory_station (s : State) (v) : (s.setHistory v).station = s.station := rfl
@[simp] theorem State.setHistory_replica (s : State) (v) : (s.setHistory v).replica = s.replica := rfl
@[simp] theorem State.setHistory_link (s : State) (v) : (s.setHistory v).link = s.link := rfl
@[simp] theorem State.setHistory_members (s : State) (v) : (s.setHistory v).members = s.members := rfl
@[simp] theorem State.setHistory_crank (s : State) (v) : (s.setHistory v).crank = s.crank := rfl
@[simp] theorem State.setHistory_slotUnit (s : State) (v) : (s.setHistory v).slotUnit = s.slotUnit := rfl
@[simp] theorem State.setHistory_w0 (s : State) (v) : (s.setHistory v).w0 = s.w0 := rfl
@[simp] theorem State.setHistory_w1 (s : State) (v) : (s.setHistory v).w1 = s.w1 := rfl
@[simp] theorem State.setHistory_fault (s : State) (v) : (s.setHistory v).fault = s.fault := rfl
@[simp] theorem State.setHistory_history (s : State) (v) : (s.setHistory v).history = v := rfl
@[simp] theorem State.setHistory_port (s : State) (v) : (s.setHistory v).port = s.port := rfl
@[simp] theorem State.setHistory_pins (s : State) (v) : (s.setHistory v).pins = s.pins := rfl
@[simp] theorem State.setHistory_freeCount (s : State) (v) : (s.setHistory v).freeCount = s.freeCount := rfl
@[simp] theorem State.setPort_pending (s : State) (v) : (s.setPort v).pending = s.pending := rfl
@[simp] theorem State.setPort_resetLow (s : State) (v) : (s.setPort v).resetLow = s.resetLow := rfl
@[simp] theorem State.setPort_now (s : State) (v) : (s.setPort v).now = s.now := rfl
@[simp] theorem State.setPort_straps (s : State) (v) : (s.setPort v).straps = s.straps := rfl
@[simp] theorem State.setPort_config (s : State) (v) : (s.setPort v).config = s.config := rfl
@[simp] theorem State.setPort_station (s : State) (v) : (s.setPort v).station = s.station := rfl
@[simp] theorem State.setPort_replica (s : State) (v) : (s.setPort v).replica = s.replica := rfl
@[simp] theorem State.setPort_link (s : State) (v) : (s.setPort v).link = s.link := rfl
@[simp] theorem State.setPort_members (s : State) (v) : (s.setPort v).members = s.members := rfl
@[simp] theorem State.setPort_crank (s : State) (v) : (s.setPort v).crank = s.crank := rfl
@[simp] theorem State.setPort_slotUnit (s : State) (v) : (s.setPort v).slotUnit = s.slotUnit := rfl
@[simp] theorem State.setPort_w0 (s : State) (v) : (s.setPort v).w0 = s.w0 := rfl
@[simp] theorem State.setPort_w1 (s : State) (v) : (s.setPort v).w1 = s.w1 := rfl
@[simp] theorem State.setPort_fault (s : State) (v) : (s.setPort v).fault = s.fault := rfl
@[simp] theorem State.setPort_history (s : State) (v) : (s.setPort v).history = s.history := rfl
@[simp] theorem State.setPort_port (s : State) (v) : (s.setPort v).port = v := rfl
@[simp] theorem State.setPort_pins (s : State) (v) : (s.setPort v).pins = s.pins := rfl
@[simp] theorem State.setPort_freeCount (s : State) (v) : (s.setPort v).freeCount = s.freeCount := rfl
@[simp] theorem State.setPins_pending (s : State) (v) : (s.setPins v).pending = s.pending := rfl
@[simp] theorem State.setPins_resetLow (s : State) (v) : (s.setPins v).resetLow = s.resetLow := rfl
@[simp] theorem State.setPins_now (s : State) (v) : (s.setPins v).now = s.now := rfl
@[simp] theorem State.setPins_straps (s : State) (v) : (s.setPins v).straps = s.straps := rfl
@[simp] theorem State.setPins_config (s : State) (v) : (s.setPins v).config = s.config := rfl
@[simp] theorem State.setPins_station (s : State) (v) : (s.setPins v).station = s.station := rfl
@[simp] theorem State.setPins_replica (s : State) (v) : (s.setPins v).replica = s.replica := rfl
@[simp] theorem State.setPins_link (s : State) (v) : (s.setPins v).link = s.link := rfl
@[simp] theorem State.setPins_members (s : State) (v) : (s.setPins v).members = s.members := rfl
@[simp] theorem State.setPins_crank (s : State) (v) : (s.setPins v).crank = s.crank := rfl
@[simp] theorem State.setPins_slotUnit (s : State) (v) : (s.setPins v).slotUnit = s.slotUnit := rfl
@[simp] theorem State.setPins_w0 (s : State) (v) : (s.setPins v).w0 = s.w0 := rfl
@[simp] theorem State.setPins_w1 (s : State) (v) : (s.setPins v).w1 = s.w1 := rfl
@[simp] theorem State.setPins_fault (s : State) (v) : (s.setPins v).fault = s.fault := rfl
@[simp] theorem State.setPins_history (s : State) (v) : (s.setPins v).history = s.history := rfl
@[simp] theorem State.setPins_port (s : State) (v) : (s.setPins v).port = s.port := rfl
@[simp] theorem State.setPins_pins (s : State) (v) : (s.setPins v).pins = v := rfl
@[simp] theorem State.setPins_freeCount (s : State) (v) : (s.setPins v).freeCount = s.freeCount := rfl
@[simp] theorem State.setFreeCount_pending (s : State) (v) : (s.setFreeCount v).pending = s.pending := rfl
@[simp] theorem State.setFreeCount_resetLow (s : State) (v) : (s.setFreeCount v).resetLow = s.resetLow := rfl
@[simp] theorem State.setFreeCount_now (s : State) (v) : (s.setFreeCount v).now = s.now := rfl
@[simp] theorem State.setFreeCount_straps (s : State) (v) : (s.setFreeCount v).straps = s.straps := rfl
@[simp] theorem State.setFreeCount_config (s : State) (v) : (s.setFreeCount v).config = s.config := rfl
@[simp] theorem State.setFreeCount_station (s : State) (v) : (s.setFreeCount v).station = s.station := rfl
@[simp] theorem State.setFreeCount_replica (s : State) (v) : (s.setFreeCount v).replica = s.replica := rfl
@[simp] theorem State.setFreeCount_link (s : State) (v) : (s.setFreeCount v).link = s.link := rfl
@[simp] theorem State.setFreeCount_members (s : State) (v) : (s.setFreeCount v).members = s.members := rfl
@[simp] theorem State.setFreeCount_crank (s : State) (v) : (s.setFreeCount v).crank = s.crank := rfl
@[simp] theorem State.setFreeCount_slotUnit (s : State) (v) : (s.setFreeCount v).slotUnit = s.slotUnit := rfl
@[simp] theorem State.setFreeCount_w0 (s : State) (v) : (s.setFreeCount v).w0 = s.w0 := rfl
@[simp] theorem State.setFreeCount_w1 (s : State) (v) : (s.setFreeCount v).w1 = s.w1 := rfl
@[simp] theorem State.setFreeCount_fault (s : State) (v) : (s.setFreeCount v).fault = s.fault := rfl
@[simp] theorem State.setFreeCount_history (s : State) (v) : (s.setFreeCount v).history = s.history := rfl
@[simp] theorem State.setFreeCount_port (s : State) (v) : (s.setFreeCount v).port = s.port := rfl
@[simp] theorem State.setFreeCount_pins (s : State) (v) : (s.setFreeCount v).pins = s.pins := rfl
@[simp] theorem State.setFreeCount_freeCount (s : State) (v) : (s.setFreeCount v).freeCount = v := rfl

end Sys2Proof.Machine
end

