-- ==== Sys2Proof/Laws/Frames.lean ====
section
/-! SUPPORT. What each shared operation leaves as it was: one lemma for each operation, naming every part of the state it
never writes (what it may write is what its lemma does not name). -/

namespace Sys2Proof.Machine

/-- What every operation of the blocks leaves: the queue, the straps, the configuration, the replica, the pins, the free
counter, the mailbox and its transfer, and whether the part is held in reset. -/
abbrev KeptBase (s t : State) : Prop :=
  t.pending = s.pending ∧ t.straps = s.straps ∧ t.config = s.config ∧ t.replica = s.replica ∧ t.pins = s.pins
    ∧ t.freeCount = s.freeCount ∧ t.port.command = s.port.command ∧ t.port.response = s.port.response
    ∧ t.port.overwrite = s.port.overwrite ∧ t.port.sdo = s.port.sdo ∧ t.port.select = s.port.select
    ∧ t.port.due = s.port.due ∧ t.resetLow = s.resetLow

@[simp] theorem State.setSlots_frame (s : State) (v : Vector SlotRecord 4) :
    KeptBase s (s.setSlots v) ∧ (s.setSlots v).now = s.now ∧ (s.setSlots v).station = s.station
      ∧ (s.setSlots v).link = s.link ∧ (s.setSlots v).members = s.members ∧ (s.setSlots v).crank = s.crank
      ∧ (s.setSlots v).w0 = s.w0 ∧ (s.setSlots v).w1 = s.w1 ∧ (s.setSlots v).fault = s.fault
      ∧ (s.setSlots v).history = s.history ∧ (s.setSlots v).port = s.port
      ∧ (s.setSlots v).slotUnit.latchLimit = s.slotUnit.latchLimit ∧ (s.setSlots v).slotUnit.gate = s.slotUnit.gate
      ∧ (s.setSlots v).slotUnit.leavePending = s.slotUnit.leavePending := by
  simp [State.setSlots, KeptBase]

@[simp] theorem State.putSlot_frame (s : State) (i : SlotNo) (r : SlotRecord) :
    KeptBase s (s.putSlot i r) ∧ (s.putSlot i r).now = s.now ∧ (s.putSlot i r).station = s.station
      ∧ (s.putSlot i r).link = s.link ∧ (s.putSlot i r).members = s.members ∧ (s.putSlot i r).crank = s.crank
      ∧ (s.putSlot i r).w0 = s.w0 ∧ (s.putSlot i r).w1 = s.w1 ∧ (s.putSlot i r).fault = s.fault
      ∧ (s.putSlot i r).history = s.history ∧ (s.putSlot i r).port = s.port
      ∧ (s.putSlot i r).slotUnit.latchLimit = s.slotUnit.latchLimit ∧ (s.putSlot i r).slotUnit.gate = s.slotUnit.gate
      ∧ (s.putSlot i r).slotUnit.leavePending = s.slotUnit.leavePending := by
  simp [State.putSlot, KeptBase]

@[simp] theorem State.advanceTo_frame (s : State) (t : Nat) :
    KeptBase s (s.advanceTo t) ∧ (s.advanceTo t).station = s.station ∧ (s.advanceTo t).link = s.link
      ∧ (s.advanceTo t).members = s.members ∧ (s.advanceTo t).crank = s.crank ∧ (s.advanceTo t).w0 = s.w0
      ∧ (s.advanceTo t).w1 = s.w1 ∧ (s.advanceTo t).fault = s.fault ∧ (s.advanceTo t).history = s.history
      ∧ (s.advanceTo t).port = s.port ∧ (s.advanceTo t).slotUnit.latchLimit = s.slotUnit.latchLimit
      ∧ (s.advanceTo t).slotUnit.gate = s.slotUnit.gate
      ∧ (s.advanceTo t).slotUnit.leavePending = s.slotUnit.leavePending := by
  unfold State.advanceTo
  split <;> simp [KeptBase]

@[simp] theorem State.record_frame (s : State) (e : HistEvent) :
    KeptBase s (s.record e) ∧ (s.record e).now = s.now ∧ (s.record e).station = s.station ∧ (s.record e).link = s.link
      ∧ (s.record e).members = s.members ∧ (s.record e).crank = s.crank ∧ (s.record e).slotUnit = s.slotUnit
      ∧ (s.record e).w0 = s.w0 ∧ (s.record e).w1 = s.w1 ∧ (s.record e).fault = s.fault ∧ (s.record e).port = s.port := by
  simp [State.record, KeptBase]

@[simp] theorem State.captureQuiet_frame (s : State) (k : FaultKind) (u : Subject) (f : Option FrameKind) :
    KeptBase s (s.captureQuiet k u f) ∧ (s.captureQuiet k u f).now = s.now
      ∧ (s.captureQuiet k u f).station = s.station ∧ (s.captureQuiet k u f).link = s.link
      ∧ (s.captureQuiet k u f).members = s.members ∧ (s.captureQuiet k u f).crank = s.crank
      ∧ (s.captureQuiet k u f).slotUnit = s.slotUnit ∧ (s.captureQuiet k u f).w0 = s.w0
      ∧ (s.captureQuiet k u f).w1 = s.w1 ∧ (s.captureQuiet k u f).port = s.port := by
  simp [State.captureQuiet, KeptBase]

@[simp] theorem State.post_frame (s : State) (c : NoticeContent) :
    KeptBase s (s.post c) ∧ (s.post c).now = s.now ∧ (s.post c).station = s.station ∧ (s.post c).link = s.link
      ∧ (s.post c).members = s.members ∧ (s.post c).crank = s.crank ∧ (s.post c).slotUnit = s.slotUnit
      ∧ (s.post c).w0 = s.w0 ∧ (s.post c).w1 = s.w1 := by
  unfold State.post
  split <;> simp [KeptBase]

@[simp] theorem State.capture_frame (s : State) (k : FaultKind) (u : Subject) (f : Option FrameKind) :
    KeptBase s (s.capture k u f) ∧ (s.capture k u f).now = s.now ∧ (s.capture k u f).station = s.station
      ∧ (s.capture k u f).link = s.link ∧ (s.capture k u f).members = s.members ∧ (s.capture k u f).crank = s.crank
      ∧ (s.capture k u f).slotUnit = s.slotUnit ∧ (s.capture k u f).w0 = s.w0 ∧ (s.capture k u f).w1 = s.w1 := by
  simp [State.capture, KeptBase]

@[simp] theorem foldl_capture_frame {α : Type} (k : FaultKind) (g : α → Subject) (l : List α) (s : State) :
    KeptBase s (l.foldl (fun t a => t.capture k (g a) none) s)
      ∧ (l.foldl (fun t a => t.capture k (g a) none) s).now = s.now
      ∧ (l.foldl (fun t a => t.capture k (g a) none) s).station = s.station
      ∧ (l.foldl (fun t a => t.capture k (g a) none) s).link = s.link
      ∧ (l.foldl (fun t a => t.capture k (g a) none) s).members = s.members
      ∧ (l.foldl (fun t a => t.capture k (g a) none) s).crank = s.crank
      ∧ (l.foldl (fun t a => t.capture k (g a) none) s).slotUnit = s.slotUnit
      ∧ (l.foldl (fun t a => t.capture k (g a) none) s).w0 = s.w0
      ∧ (l.foldl (fun t a => t.capture k (g a) none) s).w1 = s.w1 := by
  induction l generalizing s with
  | nil => simp [KeptBase]
  | cons a l ih => simpa [KeptBase] using ih (s.capture k (g a) none)

@[simp] theorem State.badCheck_frame (s : State) :
    KeptBase s (s.badCheck) ∧ (s.badCheck).now = s.now ∧ (s.badCheck).station = s.station ∧ (s.badCheck).link = s.link
      ∧ (s.badCheck).members = s.members ∧ (s.badCheck).crank = s.crank ∧ (s.badCheck).slotUnit = s.slotUnit
      ∧ (s.badCheck).w0 = s.w0 ∧ (s.badCheck).w1 = s.w1 := by
  simp [State.badCheck, KeptBase]

@[simp] theorem State.pushUrgent_frame (s : State) (b : Body) :
    KeptBase s (s.pushUrgent b) ∧ (s.pushUrgent b).now = s.now ∧ (s.pushUrgent b).station = s.station
      ∧ (s.pushUrgent b).members = s.members ∧ (s.pushUrgent b).crank = s.crank
      ∧ (s.pushUrgent b).slotUnit = s.slotUnit ∧ (s.pushUrgent b).w0 = s.w0 ∧ (s.pushUrgent b).w1 = s.w1
      ∧ (s.pushUrgent b).fault = s.fault ∧ (s.pushUrgent b).history = s.history ∧ (s.pushUrgent b).port = s.port
      ∧ (s.pushUrgent b).link.general = s.link.general ∧ (s.pushUrgent b).link.tx = s.link.tx
      ∧ (s.pushUrgent b).link.inbound = s.link.inbound ∧ (s.pushUrgent b).link.readback = s.link.readback ∧ (s.pushUrgent b).link.late = s.link.late
      ∧ (s.pushUrgent b).link.heartbeat = s.link.heartbeat ∧ (s.pushUrgent b).link.probeDue = s.link.probeDue
      ∧ (s.pushUrgent b).link.probeTimer = s.link.probeTimer := by
  simp [State.pushUrgent, KeptBase]

@[simp] theorem State.pushGeneral_frame (s : State) (q : Queued) :
    KeptBase s (s.pushGeneral q) ∧ (s.pushGeneral q).now = s.now ∧ (s.pushGeneral q).station = s.station
      ∧ (s.pushGeneral q).members = s.members ∧ (s.pushGeneral q).crank = s.crank
      ∧ (s.pushGeneral q).slotUnit = s.slotUnit ∧ (s.pushGeneral q).w0 = s.w0 ∧ (s.pushGeneral q).w1 = s.w1
      ∧ (s.pushGeneral q).fault = s.fault ∧ (s.pushGeneral q).history = s.history ∧ (s.pushGeneral q).port = s.port
      ∧ (s.pushGeneral q).link.urgent = s.link.urgent ∧ (s.pushGeneral q).link.tx = s.link.tx
      ∧ (s.pushGeneral q).link.inbound = s.link.inbound ∧ (s.pushGeneral q).link.readback = s.link.readback ∧ (s.pushGeneral q).link.late = s.link.late
      ∧ (s.pushGeneral q).link.heartbeat = s.link.heartbeat ∧ (s.pushGeneral q).link.probeDue = s.link.probeDue
      ∧ (s.pushGeneral q).link.probeTimer = s.link.probeTimer := by
  simp [State.pushGeneral, KeptBase]

@[simp] theorem State.autoUrgent_frame (s : State) (b : Body) :
    KeptBase s (s.autoUrgent b) ∧ (s.autoUrgent b).now = s.now ∧ (s.autoUrgent b).station = s.station
      ∧ (s.autoUrgent b).members = s.members ∧ (s.autoUrgent b).crank = s.crank
      ∧ (s.autoUrgent b).slotUnit = s.slotUnit ∧ (s.autoUrgent b).w0 = s.w0 ∧ (s.autoUrgent b).w1 = s.w1
      ∧ (s.autoUrgent b).link.general = s.link.general ∧ (s.autoUrgent b).link.tx = s.link.tx
      ∧ (s.autoUrgent b).link.inbound = s.link.inbound ∧ (s.autoUrgent b).link.readback = s.link.readback ∧ (s.autoUrgent b).link.late = s.link.late
      ∧ (s.autoUrgent b).link.heartbeat = s.link.heartbeat ∧ (s.autoUrgent b).link.probeDue = s.link.probeDue
      ∧ (s.autoUrgent b).link.probeTimer = s.link.probeTimer := by
  unfold State.autoUrgent
  split <;> simp [KeptBase]

@[simp] theorem State.autoGeneral_frame (s : State) (q : Queued) :
    KeptBase s (s.autoGeneral q) ∧ (s.autoGeneral q).now = s.now ∧ (s.autoGeneral q).station = s.station
      ∧ (s.autoGeneral q).members = s.members ∧ (s.autoGeneral q).crank = s.crank
      ∧ (s.autoGeneral q).slotUnit = s.slotUnit ∧ (s.autoGeneral q).w0 = s.w0 ∧ (s.autoGeneral q).w1 = s.w1
      ∧ (s.autoGeneral q).link.urgent = s.link.urgent ∧ (s.autoGeneral q).link.tx = s.link.tx
      ∧ (s.autoGeneral q).link.inbound = s.link.inbound ∧ (s.autoGeneral q).link.readback = s.link.readback ∧ (s.autoGeneral q).link.late = s.link.late
      ∧ (s.autoGeneral q).link.heartbeat = s.link.heartbeat ∧ (s.autoGeneral q).link.probeDue = s.link.probeDue
      ∧ (s.autoGeneral q).link.probeTimer = s.link.probeTimer := by
  unfold State.autoGeneral
  split <;> simp [KeptBase]

@[simp] theorem State.withdrawGeneral_frame (s : State) (p : Queued → Bool) :
    KeptBase s (s.withdrawGeneral p) ∧ (s.withdrawGeneral p).now = s.now ∧ (s.withdrawGeneral p).station = s.station
      ∧ (s.withdrawGeneral p).members = s.members ∧ (s.withdrawGeneral p).crank = s.crank
      ∧ (s.withdrawGeneral p).slotUnit = s.slotUnit ∧ (s.withdrawGeneral p).w0 = s.w0
      ∧ (s.withdrawGeneral p).w1 = s.w1 ∧ (s.withdrawGeneral p).fault = s.fault
      ∧ (s.withdrawGeneral p).history = s.history ∧ (s.withdrawGeneral p).port = s.port
      ∧ (s.withdrawGeneral p).link.urgent = s.link.urgent ∧ (s.withdrawGeneral p).link.tx = s.link.tx
      ∧ (s.withdrawGeneral p).link.inbound = s.link.inbound ∧ (s.withdrawGeneral p).link.readback = s.link.readback ∧ (s.withdrawGeneral p).link.late = s.link.late
      ∧ (s.withdrawGeneral p).link.heartbeat = s.link.heartbeat
      ∧ (s.withdrawGeneral p).link.probeDue = s.link.probeDue
      ∧ (s.withdrawGeneral p).link.probeTimer = s.link.probeTimer := by
  simp [State.withdrawGeneral, KeptBase]

@[simp] theorem State.withdrawUrgent_frame (s : State) (p : Queued → Bool) :
    KeptBase s (s.withdrawUrgent p) ∧ (s.withdrawUrgent p).now = s.now ∧ (s.withdrawUrgent p).station = s.station
      ∧ (s.withdrawUrgent p).members = s.members ∧ (s.withdrawUrgent p).crank = s.crank
      ∧ (s.withdrawUrgent p).slotUnit = s.slotUnit ∧ (s.withdrawUrgent p).w0 = s.w0 ∧ (s.withdrawUrgent p).w1 = s.w1
      ∧ (s.withdrawUrgent p).fault = s.fault ∧ (s.withdrawUrgent p).history = s.history
      ∧ (s.withdrawUrgent p).port = s.port ∧ (s.withdrawUrgent p).link.general = s.link.general
      ∧ (s.withdrawUrgent p).link.tx = s.link.tx ∧ (s.withdrawUrgent p).link.inbound = s.link.inbound
      ∧ (s.withdrawUrgent p).link.readback = s.link.readback ∧ (s.withdrawUrgent p).link.late = s.link.late ∧ (s.withdrawUrgent p).link.heartbeat = s.link.heartbeat
      ∧ (s.withdrawUrgent p).link.probeDue = s.link.probeDue
      ∧ (s.withdrawUrgent p).link.probeTimer = s.link.probeTimer := by
  simp [State.withdrawUrgent, KeptBase]

@[simp] theorem State.latchSlots_frame (s : State) :
    KeptBase s (s.latchSlots) ∧ (s.latchSlots).now = s.now ∧ (s.latchSlots).station = s.station
      ∧ (s.latchSlots).link = s.link ∧ (s.latchSlots).members = s.members ∧ (s.latchSlots).crank = s.crank
      ∧ (s.latchSlots).w0 = s.w0 ∧ (s.latchSlots).w1 = s.w1 ∧ (s.latchSlots).fault = s.fault
      ∧ (s.latchSlots).history = s.history ∧ (s.latchSlots).port = s.port
      ∧ (s.latchSlots).slotUnit.gate = s.slotUnit.gate
      ∧ (s.latchSlots).slotUnit.leavePending = s.slotUnit.leavePending := by
  unfold State.latchSlots
  split <;> simp [KeptBase]

@[simp] theorem State.clearLatches_frame (s : State) :
    KeptBase s (s.clearLatches) ∧ (s.clearLatches).now = s.now ∧ (s.clearLatches).station = s.station
      ∧ (s.clearLatches).link = s.link ∧ (s.clearLatches).members = s.members ∧ (s.clearLatches).crank = s.crank
      ∧ (s.clearLatches).w0 = s.w0 ∧ (s.clearLatches).w1 = s.w1 ∧ (s.clearLatches).fault = s.fault
      ∧ (s.clearLatches).history = s.history ∧ (s.clearLatches).port = s.port
      ∧ (s.clearLatches).slotUnit.gate = s.slotUnit.gate
      ∧ (s.clearLatches).slotUnit.leavePending = s.slotUnit.leavePending := by
  simp [State.clearLatches, KeptBase]

@[simp] theorem State.noteFall_frame (s : State) :
    KeptBase s (s.noteFall) ∧ (s.noteFall).now = s.now ∧ (s.noteFall).station = s.station ∧ (s.noteFall).link = s.link
      ∧ (s.noteFall).members = s.members ∧ (s.noteFall).crank = s.crank ∧ (s.noteFall).w0 = s.w0
      ∧ (s.noteFall).w1 = s.w1 ∧ (s.noteFall).fault = s.fault ∧ (s.noteFall).port = s.port
      ∧ (s.noteFall).slotUnit.gate = s.slotUnit.gate ∧ (s.noteFall).slotUnit.leavePending = s.slotUnit.leavePending := by
  simp [State.noteFall, KeptBase]

@[simp] theorem State.noteRise_frame (s : State) :
    KeptBase s (s.noteRise) ∧ (s.noteRise).now = s.now ∧ (s.noteRise).station = s.station ∧ (s.noteRise).link = s.link
      ∧ (s.noteRise).members = s.members ∧ (s.noteRise).crank = s.crank ∧ (s.noteRise).slotUnit = s.slotUnit
      ∧ (s.noteRise).w0 = s.w0 ∧ (s.noteRise).w1 = s.w1 ∧ (s.noteRise).fault = s.fault ∧ (s.noteRise).port = s.port := by
  simp [State.noteRise, KeptBase]

@[simp] theorem State.setUnit_frame (s : State) (b : Bool) (u : WatchUnit) :
    KeptBase s (s.setUnit b u) ∧ (s.setUnit b u).now = s.now ∧ (s.setUnit b u).station = s.station
      ∧ (s.setUnit b u).link = s.link ∧ (s.setUnit b u).members = s.members ∧ (s.setUnit b u).crank = s.crank
      ∧ (s.setUnit b u).slotUnit = s.slotUnit ∧ (s.setUnit b u).fault = s.fault ∧ (s.setUnit b u).history = s.history
      ∧ (s.setUnit b u).port = s.port := by
  unfold State.setUnit
  split <;> simp [KeptBase]

@[simp] theorem State.pullShed_frame (s : State) (b : Bool) :
    KeptBase s (s.pullShed b) ∧ (s.pullShed b).now = s.now ∧ (s.pullShed b).station = s.station
      ∧ (s.pullShed b).members = s.members ∧ (s.pullShed b).crank = s.crank
      ∧ (s.pullShed b).link.general = s.link.general ∧ (s.pullShed b).link.tx = s.link.tx
      ∧ (s.pullShed b).link.inbound = s.link.inbound ∧ (s.pullShed b).link.readback = s.link.readback ∧ (s.pullShed b).link.late = s.link.late
      ∧ (s.pullShed b).link.heartbeat = s.link.heartbeat ∧ (s.pullShed b).link.probeDue = s.link.probeDue
      ∧ (s.pullShed b).link.probeTimer = s.link.probeTimer ∧ (s.pullShed b).slotUnit.gate = s.slotUnit.gate
      ∧ (s.pullShed b).slotUnit.leavePending = s.slotUnit.leavePending := by
  simp only [State.pullShed]
  (repeat' split) <;> simp [KeptBase]

@[simp] theorem State.freeze_frame (s : State) :
    KeptBase s (s.freeze) ∧ (s.freeze).now = s.now ∧ (s.freeze).station = s.station ∧ (s.freeze).link = s.link
      ∧ (s.freeze).members = s.members ∧ (s.freeze).crank = s.crank ∧ (s.freeze).slotUnit = s.slotUnit
      ∧ (s.freeze).w0 = s.w0 ∧ (s.freeze).w1 = s.w1 ∧ (s.freeze).fault = s.fault ∧ (s.freeze).port = s.port := by
  simp [State.freeze, KeptBase]

@[simp] theorem State.armSecond_frame (s : State) :
    KeptBase s (s.armSecond) ∧ (s.armSecond).now = s.now ∧ (s.armSecond).station = s.station
      ∧ (s.armSecond).link = s.link ∧ (s.armSecond).members = s.members ∧ (s.armSecond).crank = s.crank
      ∧ (s.armSecond).slotUnit = s.slotUnit ∧ (s.armSecond).w0 = s.w0 ∧ (s.armSecond).fault = s.fault
      ∧ (s.armSecond).history = s.history ∧ (s.armSecond).port = s.port := by
  unfold State.armSecond
  split <;> simp [KeptBase]

@[simp] theorem State.fire_frame (s : State) (b : Bool) (v : EvalValue) :
    KeptBase s (s.fire b v) ∧ (s.fire b v).now = s.now ∧ (s.fire b v).station = s.station
      ∧ (s.fire b v).members = s.members ∧ (s.fire b v).crank = s.crank ∧ (s.fire b v).link.general = s.link.general
      ∧ (s.fire b v).link.tx = s.link.tx ∧ (s.fire b v).link.inbound = s.link.inbound
      ∧ (s.fire b v).link.readback = s.link.readback ∧ (s.fire b v).link.late = s.link.late ∧ (s.fire b v).link.heartbeat = s.link.heartbeat
      ∧ (s.fire b v).link.probeDue = s.link.probeDue ∧ (s.fire b v).link.probeTimer = s.link.probeTimer
      ∧ (s.fire b v).slotUnit.gate = s.slotUnit.gate ∧ (s.fire b v).slotUnit.leavePending = s.slotUnit.leavePending := by
  simp only [State.fire]
  (repeat' split) <;> simp [KeptBase]

@[simp] theorem State.evaluate_frame (s : State) (b : Bool) (o : Option EvalValue) :
    KeptBase s ((s.evaluate b o).1) ∧ ((s.evaluate b o).1).now = s.now ∧ ((s.evaluate b o).1).station = s.station
      ∧ ((s.evaluate b o).1).members = s.members ∧ ((s.evaluate b o).1).crank = s.crank
      ∧ ((s.evaluate b o).1).link.general = s.link.general ∧ ((s.evaluate b o).1).link.tx = s.link.tx
      ∧ ((s.evaluate b o).1).link.inbound = s.link.inbound ∧ ((s.evaluate b o).1).link.readback = s.link.readback ∧ ((s.evaluate b o).1).link.late = s.link.late
      ∧ ((s.evaluate b o).1).link.heartbeat = s.link.heartbeat ∧ ((s.evaluate b o).1).link.probeDue = s.link.probeDue
      ∧ ((s.evaluate b o).1).link.probeTimer = s.link.probeTimer
      ∧ ((s.evaluate b o).1).slotUnit.gate = s.slotUnit.gate
      ∧ ((s.evaluate b o).1).slotUnit.leavePending = s.slotUnit.leavePending := by
  simp only [State.evaluate]
  (repeat' split) <;> simp [KeptBase]

@[simp] theorem State.offer_frame (s : State) (a b : Bool) (v : WatchSource → Option EvalValue) :
    KeptBase s (s.offer a b v) ∧ (s.offer a b v).now = s.now ∧ (s.offer a b v).station = s.station
      ∧ (s.offer a b v).members = s.members ∧ (s.offer a b v).crank = s.crank
      ∧ (s.offer a b v).link.general = s.link.general ∧ (s.offer a b v).link.tx = s.link.tx
      ∧ (s.offer a b v).link.inbound = s.link.inbound ∧ (s.offer a b v).link.readback = s.link.readback ∧ (s.offer a b v).link.late = s.link.late
      ∧ (s.offer a b v).link.heartbeat = s.link.heartbeat ∧ (s.offer a b v).link.probeDue = s.link.probeDue
      ∧ (s.offer a b v).link.probeTimer = s.link.probeTimer ∧ (s.offer a b v).slotUnit.gate = s.slotUnit.gate
      ∧ (s.offer a b v).slotUnit.leavePending = s.slotUnit.leavePending := by
  simp only [State.offer]
  (repeat' split) <;> simp [KeptBase]

@[simp] theorem State.watchEvent_frame (s : State) (v : WatchSource → Option EvalValue) :
    KeptBase s (s.watchEvent v) ∧ (s.watchEvent v).now = s.now ∧ (s.watchEvent v).station = s.station
      ∧ (s.watchEvent v).members = s.members ∧ (s.watchEvent v).crank = s.crank
      ∧ (s.watchEvent v).link.general = s.link.general ∧ (s.watchEvent v).link.tx = s.link.tx
      ∧ (s.watchEvent v).link.inbound = s.link.inbound ∧ (s.watchEvent v).link.readback = s.link.readback ∧ (s.watchEvent v).link.late = s.link.late
      ∧ (s.watchEvent v).link.heartbeat = s.link.heartbeat ∧ (s.watchEvent v).link.probeDue = s.link.probeDue
      ∧ (s.watchEvent v).link.probeTimer = s.link.probeTimer ∧ (s.watchEvent v).slotUnit.gate = s.slotUnit.gate
      ∧ (s.watchEvent v).slotUnit.leavePending = s.slotUnit.leavePending := by
  simp only [State.watchEvent]
  (repeat' split) <;> simp [KeptBase]

@[simp] theorem State.edgeFrom_frame (s : State) (b : Bool) :
    KeptBase s (s.edgeFrom b) ∧ (s.edgeFrom b).now = s.now ∧ (s.edgeFrom b).station = s.station
      ∧ (s.edgeFrom b).members = s.members ∧ (s.edgeFrom b).crank = s.crank
      ∧ (s.edgeFrom b).link.general = s.link.general ∧ (s.edgeFrom b).link.tx = s.link.tx
      ∧ (s.edgeFrom b).link.inbound = s.link.inbound ∧ (s.edgeFrom b).link.readback = s.link.readback ∧ (s.edgeFrom b).link.late = s.link.late
      ∧ (s.edgeFrom b).link.heartbeat = s.link.heartbeat ∧ (s.edgeFrom b).link.probeDue = s.link.probeDue
      ∧ (s.edgeFrom b).link.probeTimer = s.link.probeTimer ∧ (s.edgeFrom b).slotUnit.gate = s.slotUnit.gate
      ∧ (s.edgeFrom b).slotUnit.leavePending = s.slotUnit.leavePending := by
  simp only [State.edgeFrom]
  (repeat' split) <;> simp [KeptBase]

@[simp] theorem State.mirrorSlot_frame (s : State) (i : SlotNo) :
    KeptBase s (s.mirrorSlot i) ∧ (s.mirrorSlot i).now = s.now ∧ (s.mirrorSlot i).station = s.station
      ∧ (s.mirrorSlot i).link = s.link ∧ (s.mirrorSlot i).members = s.members ∧ (s.mirrorSlot i).crank = s.crank
      ∧ (s.mirrorSlot i).w0 = s.w0 ∧ (s.mirrorSlot i).w1 = s.w1 ∧ (s.mirrorSlot i).fault = s.fault
      ∧ (s.mirrorSlot i).history = s.history ∧ (s.mirrorSlot i).port = s.port
      ∧ (s.mirrorSlot i).slotUnit.latchLimit = s.slotUnit.latchLimit
      ∧ (s.mirrorSlot i).slotUnit.gate = s.slotUnit.gate
      ∧ (s.mirrorSlot i).slotUnit.leavePending = s.slotUnit.leavePending := by
  simp [State.mirrorSlot, KeptBase]

@[simp] theorem State.postSlot_frame (s : State) (i : SlotNo) (h : Option Nat) (c : SlotCause) :
    KeptBase s (s.postSlot i h c) ∧ (s.postSlot i h c).now = s.now ∧ (s.postSlot i h c).station = s.station
      ∧ (s.postSlot i h c).link = s.link ∧ (s.postSlot i h c).members = s.members ∧ (s.postSlot i h c).crank = s.crank
      ∧ (s.postSlot i h c).slotUnit = s.slotUnit ∧ (s.postSlot i h c).w0 = s.w0 ∧ (s.postSlot i h c).w1 = s.w1 := by
  simp [State.postSlot, KeptBase]

@[simp] theorem State.postCause_frame (s : State) (i : SlotNo) (c : SlotCause) :
    KeptBase s (s.postCause i c) ∧ (s.postCause i c).now = s.now ∧ (s.postCause i c).station = s.station
      ∧ (s.postCause i c).link = s.link ∧ (s.postCause i c).members = s.members ∧ (s.postCause i c).crank = s.crank
      ∧ (s.postCause i c).slotUnit = s.slotUnit ∧ (s.postCause i c).w0 = s.w0 ∧ (s.postCause i c).w1 = s.w1 := by
  simp [State.postCause, KeptBase]

@[simp] theorem State.ownTransition_frame (s : State) (c : SlotCause) (t : Transition) :
    KeptBase s (s.ownTransition c t) ∧ (s.ownTransition c t).now = s.now ∧ (s.ownTransition c t).station = s.station
      ∧ (s.ownTransition c t).link = s.link ∧ (s.ownTransition c t).members = s.members
      ∧ (s.ownTransition c t).crank = s.crank ∧ (s.ownTransition c t).w0 = s.w0 ∧ (s.ownTransition c t).w1 = s.w1
      ∧ (s.ownTransition c t).slotUnit.latchLimit = s.slotUnit.latchLimit
      ∧ (s.ownTransition c t).slotUnit.gate = s.slotUnit.gate
      ∧ (s.ownTransition c t).slotUnit.leavePending = s.slotUnit.leavePending := by
  simp only [State.ownTransition]
  (repeat' split) <;> simp [KeptBase]

@[simp] theorem State.releaseAgain_frame (s : State) (i : SlotNo) :
    KeptBase s (s.releaseAgain i) ∧ (s.releaseAgain i).now = s.now ∧ (s.releaseAgain i).station = s.station
      ∧ (s.releaseAgain i).members = s.members ∧ (s.releaseAgain i).crank = s.crank
      ∧ (s.releaseAgain i).slotUnit = s.slotUnit ∧ (s.releaseAgain i).w0 = s.w0 ∧ (s.releaseAgain i).w1 = s.w1
      ∧ (s.releaseAgain i).link.urgent = s.link.urgent ∧ (s.releaseAgain i).link.tx = s.link.tx
      ∧ (s.releaseAgain i).link.inbound = s.link.inbound ∧ (s.releaseAgain i).link.readback = s.link.readback ∧ (s.releaseAgain i).link.late = s.link.late
      ∧ (s.releaseAgain i).link.heartbeat = s.link.heartbeat ∧ (s.releaseAgain i).link.probeDue = s.link.probeDue
      ∧ (s.releaseAgain i).link.probeTimer = s.link.probeTimer := by
  unfold State.releaseAgain
  split <;> simp [KeptBase]

@[simp] theorem State.releasesAgain_frame (s : State) :
    KeptBase s (s.releasesAgain) ∧ (s.releasesAgain).now = s.now ∧ (s.releasesAgain).station = s.station
      ∧ (s.releasesAgain).members = s.members ∧ (s.releasesAgain).crank = s.crank
      ∧ (s.releasesAgain).slotUnit = s.slotUnit ∧ (s.releasesAgain).w0 = s.w0 ∧ (s.releasesAgain).w1 = s.w1
      ∧ (s.releasesAgain).link.urgent = s.link.urgent ∧ (s.releasesAgain).link.tx = s.link.tx
      ∧ (s.releasesAgain).link.inbound = s.link.inbound ∧ (s.releasesAgain).link.readback = s.link.readback ∧ (s.releasesAgain).link.late = s.link.late
      ∧ (s.releasesAgain).link.heartbeat = s.link.heartbeat ∧ (s.releasesAgain).link.probeDue = s.link.probeDue
      ∧ (s.releasesAgain).link.probeTimer = s.link.probeTimer := by
  unfold State.releasesAgain
  generalize allSlots = l
  induction l generalizing s with
  | nil => simp [KeptBase]
  | cons i l ih => simpa [KeptBase] using ih (s.releaseAgain i)

@[simp] theorem State.testStuckClear_frame (s : State) (i : SlotNo) :
    KeptBase s (s.testStuckClear i) ∧ (s.testStuckClear i).now = s.now ∧ (s.testStuckClear i).station = s.station
      ∧ (s.testStuckClear i).members = s.members ∧ (s.testStuckClear i).crank = s.crank
      ∧ (s.testStuckClear i).w0 = s.w0 ∧ (s.testStuckClear i).w1 = s.w1
      ∧ (s.testStuckClear i).link.urgent = s.link.urgent ∧ (s.testStuckClear i).link.tx = s.link.tx
      ∧ (s.testStuckClear i).link.inbound = s.link.inbound ∧ (s.testStuckClear i).link.readback = s.link.readback ∧ (s.testStuckClear i).link.late = s.link.late
      ∧ (s.testStuckClear i).link.heartbeat = s.link.heartbeat ∧ (s.testStuckClear i).link.probeDue = s.link.probeDue
      ∧ (s.testStuckClear i).link.probeTimer = s.link.probeTimer
      ∧ (s.testStuckClear i).slotUnit.latchLimit = s.slotUnit.latchLimit
      ∧ (s.testStuckClear i).slotUnit.gate = s.slotUnit.gate
      ∧ (s.testStuckClear i).slotUnit.leavePending = s.slotUnit.leavePending := by
  simp only [State.testStuckClear]
  (repeat' split) <;> simp [KeptBase]

@[simp] theorem State.testStuckClears_frame (s : State) :
    KeptBase s (s.testStuckClears) ∧ (s.testStuckClears).now = s.now ∧ (s.testStuckClears).station = s.station
      ∧ (s.testStuckClears).members = s.members ∧ (s.testStuckClears).crank = s.crank ∧ (s.testStuckClears).w0 = s.w0
      ∧ (s.testStuckClears).w1 = s.w1 ∧ (s.testStuckClears).link.urgent = s.link.urgent
      ∧ (s.testStuckClears).link.tx = s.link.tx ∧ (s.testStuckClears).link.inbound = s.link.inbound
      ∧ (s.testStuckClears).link.readback = s.link.readback ∧ (s.testStuckClears).link.late = s.link.late ∧ (s.testStuckClears).link.heartbeat = s.link.heartbeat
      ∧ (s.testStuckClears).link.probeDue = s.link.probeDue ∧ (s.testStuckClears).link.probeTimer = s.link.probeTimer
      ∧ (s.testStuckClears).slotUnit.latchLimit = s.slotUnit.latchLimit
      ∧ (s.testStuckClears).slotUnit.gate = s.slotUnit.gate
      ∧ (s.testStuckClears).slotUnit.leavePending = s.slotUnit.leavePending := by
  unfold State.testStuckClears
  generalize allSlots = l
  induction l generalizing s with
  | nil => simp [KeptBase]
  | cons i l ih => simpa [KeptBase] using ih (s.testStuckClear i)

@[simp] theorem State.slotTests_frame (s : State) :
    KeptBase s (s.slotTests) ∧ (s.slotTests).now = s.now ∧ (s.slotTests).station = s.station
      ∧ (s.slotTests).members = s.members ∧ (s.slotTests).crank = s.crank ∧ (s.slotTests).w0 = s.w0
      ∧ (s.slotTests).w1 = s.w1 ∧ (s.slotTests).link.urgent = s.link.urgent ∧ (s.slotTests).link.tx = s.link.tx
      ∧ (s.slotTests).link.inbound = s.link.inbound ∧ (s.slotTests).link.readback = s.link.readback ∧ (s.slotTests).link.late = s.link.late
      ∧ (s.slotTests).link.heartbeat = s.link.heartbeat ∧ (s.slotTests).link.probeDue = s.link.probeDue
      ∧ (s.slotTests).link.probeTimer = s.link.probeTimer ∧ (s.slotTests).slotUnit.latchLimit = s.slotUnit.latchLimit
      ∧ (s.slotTests).slotUnit.gate = s.slotUnit.gate ∧ (s.slotTests).slotUnit.leavePending = s.slotUnit.leavePending := by
  simp [State.slotTests, KeptBase]

@[simp] theorem State.refreshSlots_frame (s : State) :
    KeptBase s (s.refreshSlots) ∧ (s.refreshSlots).now = s.now ∧ (s.refreshSlots).station = s.station
      ∧ (s.refreshSlots).link = s.link ∧ (s.refreshSlots).members = s.members ∧ (s.refreshSlots).crank = s.crank
      ∧ (s.refreshSlots).w0 = s.w0 ∧ (s.refreshSlots).w1 = s.w1
      ∧ (s.refreshSlots).slotUnit.latchLimit = s.slotUnit.latchLimit
      ∧ (s.refreshSlots).slotUnit.gate = s.slotUnit.gate
      ∧ (s.refreshSlots).slotUnit.leavePending = s.slotUnit.leavePending := by
  simp [State.refreshSlots, KeptBase]

@[simp] theorem State.conclude_frame (s : State) :
    KeptBase s (s.conclude) ∧ (s.conclude).now = s.now ∧ (s.conclude).station = s.station ∧ (s.conclude).link = s.link
      ∧ (s.conclude).members = s.members ∧ (s.conclude).crank = s.crank ∧ (s.conclude).w0 = s.w0
      ∧ (s.conclude).w1 = s.w1 ∧ (s.conclude).slotUnit.latchLimit = s.slotUnit.latchLimit
      ∧ (s.conclude).slotUnit.gate = s.slotUnit.gate ∧ (s.conclude).slotUnit.leavePending = s.slotUnit.leavePending := by
  simp [State.conclude, KeptBase]

@[simp] theorem State.gateTimers_frame (s : State) (k : Option Key) (n : Nat) :
    KeptBase s (s.gateTimers k n) ∧ (s.gateTimers k n).now = s.now ∧ (s.gateTimers k n).station = s.station
      ∧ (s.gateTimers k n).link = s.link ∧ (s.gateTimers k n).members = s.members ∧ (s.gateTimers k n).crank = s.crank
      ∧ (s.gateTimers k n).w0 = s.w0 ∧ (s.gateTimers k n).w1 = s.w1 ∧ (s.gateTimers k n).fault = s.fault
      ∧ (s.gateTimers k n).history = s.history ∧ (s.gateTimers k n).port = s.port
      ∧ (s.gateTimers k n).slotUnit.latchLimit = s.slotUnit.latchLimit
      ∧ (s.gateTimers k n).slotUnit.leavePending = s.slotUnit.leavePending := by
  simp [State.gateTimers, KeptBase]

@[simp] theorem State.postPhase_frame (s : State) (c : PhaseCause) :
    KeptBase s (s.postPhase c) ∧ (s.postPhase c).now = s.now ∧ (s.postPhase c).station = s.station
      ∧ (s.postPhase c).link = s.link ∧ (s.postPhase c).members = s.members ∧ (s.postPhase c).crank = s.crank
      ∧ (s.postPhase c).slotUnit = s.slotUnit ∧ (s.postPhase c).w0 = s.w0 ∧ (s.postPhase c).w1 = s.w1 := by
  simp [State.postPhase, KeptBase]

@[simp] theorem State.toIdle_frame (s : State) :
    KeptBase s (s.toIdle) ∧ (s.toIdle).now = s.now ∧ (s.toIdle).station = s.station ∧ (s.toIdle).members = s.members
      ∧ (s.toIdle).link.general = s.link.general ∧ (s.toIdle).link.tx = s.link.tx
      ∧ (s.toIdle).link.inbound = s.link.inbound ∧ (s.toIdle).link.readback = s.link.readback ∧ (s.toIdle).link.late = s.link.late
      ∧ (s.toIdle).link.heartbeat = s.link.heartbeat ∧ (s.toIdle).link.probeDue = s.link.probeDue
      ∧ (s.toIdle).link.probeTimer = s.link.probeTimer ∧ (s.toIdle).slotUnit.gate = s.slotUnit.gate
      ∧ (s.toIdle).slotUnit.leavePending = s.slotUnit.leavePending := by
  simp [State.toIdle, KeptBase]

@[simp] theorem State.abandon_frame (s : State) :
    KeptBase s (s.abandon) ∧ (s.abandon).now = s.now ∧ (s.abandon).station = s.station
      ∧ (s.abandon).members = s.members ∧ (s.abandon).link.general = s.link.general ∧ (s.abandon).link.tx = s.link.tx
      ∧ (s.abandon).link.inbound = s.link.inbound ∧ (s.abandon).link.readback = s.link.readback ∧ (s.abandon).link.late = s.link.late
      ∧ (s.abandon).link.heartbeat = s.link.heartbeat ∧ (s.abandon).link.probeDue = s.link.probeDue
      ∧ (s.abandon).link.probeTimer = s.link.probeTimer ∧ (s.abandon).slotUnit.gate = s.slotUnit.gate
      ∧ (s.abandon).slotUnit.leavePending = s.slotUnit.leavePending := by
  unfold State.abandon
  split <;> simp [KeptBase]

@[simp] theorem State.checkAbandon_frame (s : State) :
    KeptBase s (s.checkAbandon) ∧ (s.checkAbandon).now = s.now ∧ (s.checkAbandon).station = s.station
      ∧ (s.checkAbandon).members = s.members ∧ (s.checkAbandon).link.general = s.link.general
      ∧ (s.checkAbandon).link.tx = s.link.tx ∧ (s.checkAbandon).link.inbound = s.link.inbound
      ∧ (s.checkAbandon).link.readback = s.link.readback ∧ (s.checkAbandon).link.late = s.link.late ∧ (s.checkAbandon).link.heartbeat = s.link.heartbeat
      ∧ (s.checkAbandon).link.probeDue = s.link.probeDue ∧ (s.checkAbandon).link.probeTimer = s.link.probeTimer
      ∧ (s.checkAbandon).slotUnit.gate = s.slotUnit.gate
      ∧ (s.checkAbandon).slotUnit.leavePending = s.slotUnit.leavePending := by
  unfold State.checkAbandon
  split <;> simp [KeptBase]

@[simp] theorem State.startLockout_frame (s : State) :
    KeptBase s (s.startLockout) ∧ (s.startLockout).now = s.now ∧ (s.startLockout).station = s.station
      ∧ (s.startLockout).members = s.members ∧ (s.startLockout).link.general = s.link.general
      ∧ (s.startLockout).link.tx = s.link.tx ∧ (s.startLockout).link.inbound = s.link.inbound
      ∧ (s.startLockout).link.readback = s.link.readback ∧ (s.startLockout).link.late = s.link.late ∧ (s.startLockout).link.heartbeat = s.link.heartbeat
      ∧ (s.startLockout).link.probeDue = s.link.probeDue ∧ (s.startLockout).link.probeTimer = s.link.probeTimer
      ∧ (s.startLockout).slotUnit.gate = s.slotUnit.gate
      ∧ (s.startLockout).slotUnit.leavePending = s.slotUnit.leavePending := by
  simp [State.startLockout, KeptBase]

@[simp] theorem State.checkLockout_frame (s : State) :
    KeptBase s (s.checkLockout) ∧ (s.checkLockout).now = s.now ∧ (s.checkLockout).station = s.station
      ∧ (s.checkLockout).members = s.members ∧ (s.checkLockout).link.general = s.link.general
      ∧ (s.checkLockout).link.tx = s.link.tx ∧ (s.checkLockout).link.inbound = s.link.inbound
      ∧ (s.checkLockout).link.readback = s.link.readback ∧ (s.checkLockout).link.late = s.link.late ∧ (s.checkLockout).link.heartbeat = s.link.heartbeat
      ∧ (s.checkLockout).link.probeDue = s.link.probeDue ∧ (s.checkLockout).link.probeTimer = s.link.probeTimer
      ∧ (s.checkLockout).slotUnit.gate = s.slotUnit.gate
      ∧ (s.checkLockout).slotUnit.leavePending = s.slotUnit.leavePending := by
  simp only [State.checkLockout]
  (repeat' split) <;> simp [KeptBase]

@[simp] theorem State.postGo_frame (s : State) (r : Replica) :
    KeptBase s (s.postGo r) ∧ (s.postGo r).now = s.now ∧ (s.postGo r).station = s.station ∧ (s.postGo r).link = s.link
      ∧ (s.postGo r).members = s.members ∧ (s.postGo r).slotUnit = s.slotUnit ∧ (s.postGo r).w0 = s.w0
      ∧ (s.postGo r).w1 = s.w1 := by
  simp [State.postGo, KeptBase]

@[simp] theorem State.startSettle_frame (s : State) :
    KeptBase s (s.startSettle) ∧ (s.startSettle).now = s.now ∧ (s.startSettle).station = s.station
      ∧ (s.startSettle).link = s.link ∧ (s.startSettle).members = s.members ∧ (s.startSettle).slotUnit = s.slotUnit
      ∧ (s.startSettle).w0 = s.w0 ∧ (s.startSettle).w1 = s.w1 ∧ (s.startSettle).fault = s.fault
      ∧ (s.startSettle).history = s.history ∧ (s.startSettle).port = s.port := by
  simp [State.startSettle, KeptBase]

@[simp] theorem State.crankLoaded_frame (s : State) :
    KeptBase s (s.crankLoaded) ∧ (s.crankLoaded).now = s.now ∧ (s.crankLoaded).station = s.station
      ∧ (s.crankLoaded).link = s.link ∧ (s.crankLoaded).members = s.members ∧ (s.crankLoaded).slotUnit = s.slotUnit
      ∧ (s.crankLoaded).w0 = s.w0 ∧ (s.crankLoaded).w1 = s.w1 := by
  simp only [State.crankLoaded]
  (repeat' split) <;> simp [KeptBase]

@[simp] theorem State.requestSync_frame (s : State) :
    KeptBase s (s.requestSync) ∧ (s.requestSync).now = s.now ∧ (s.requestSync).station = s.station
      ∧ (s.requestSync).members = s.members ∧ (s.requestSync).crank = s.crank ∧ (s.requestSync).slotUnit = s.slotUnit
      ∧ (s.requestSync).w0 = s.w0 ∧ (s.requestSync).w1 = s.w1 ∧ (s.requestSync).link.urgent = s.link.urgent
      ∧ (s.requestSync).link.tx = s.link.tx ∧ (s.requestSync).link.inbound = s.link.inbound
      ∧ (s.requestSync).link.readback = s.link.readback ∧ (s.requestSync).link.late = s.link.late ∧ (s.requestSync).link.heartbeat = s.link.heartbeat
      ∧ (s.requestSync).link.probeDue = s.link.probeDue ∧ (s.requestSync).link.probeTimer = s.link.probeTimer := by
  simp [State.requestSync, KeptBase]

@[simp] theorem State.startSync_frame (s : State) :
    KeptBase s (s.startSync) ∧ (s.startSync).now = s.now ∧ (s.startSync).members = s.members
      ∧ (s.startSync).crank = s.crank ∧ (s.startSync).slotUnit = s.slotUnit ∧ (s.startSync).w0 = s.w0
      ∧ (s.startSync).w1 = s.w1 ∧ (s.startSync).link.urgent = s.link.urgent ∧ (s.startSync).link.tx = s.link.tx
      ∧ (s.startSync).link.inbound = s.link.inbound ∧ (s.startSync).link.readback = s.link.readback ∧ (s.startSync).link.late = s.link.late
      ∧ (s.startSync).link.heartbeat = s.link.heartbeat ∧ (s.startSync).link.probeDue = s.link.probeDue
      ∧ (s.startSync).link.probeTimer = s.link.probeTimer := by
  simp [State.startSync, KeptBase]

@[simp] theorem State.queueJoin_frame (s : State) (b : Body) :
    KeptBase s (s.queueJoin b) ∧ (s.queueJoin b).now = s.now ∧ (s.queueJoin b).station = s.station
      ∧ (s.queueJoin b).members = s.members ∧ (s.queueJoin b).crank = s.crank ∧ (s.queueJoin b).slotUnit = s.slotUnit
      ∧ (s.queueJoin b).w0 = s.w0 ∧ (s.queueJoin b).w1 = s.w1 ∧ (s.queueJoin b).link.urgent = s.link.urgent
      ∧ (s.queueJoin b).link.tx = s.link.tx ∧ (s.queueJoin b).link.inbound = s.link.inbound
      ∧ (s.queueJoin b).link.readback = s.link.readback ∧ (s.queueJoin b).link.late = s.link.late ∧ (s.queueJoin b).link.heartbeat = s.link.heartbeat
      ∧ (s.queueJoin b).link.probeDue = s.link.probeDue ∧ (s.queueJoin b).link.probeTimer = s.link.probeTimer := by
  unfold State.queueJoin
  split <;> simp [KeptBase]

@[simp] theorem State.mapRecords_frame (s : State) (f : Station → PeerRecord → PeerRecord) :
    KeptBase s (s.mapRecords f) ∧ (s.mapRecords f).now = s.now ∧ (s.mapRecords f).station = s.station
      ∧ (s.mapRecords f).link = s.link ∧ (s.mapRecords f).crank = s.crank ∧ (s.mapRecords f).slotUnit = s.slotUnit
      ∧ (s.mapRecords f).w0 = s.w0 ∧ (s.mapRecords f).w1 = s.w1 ∧ (s.mapRecords f).fault = s.fault
      ∧ (s.mapRecords f).history = s.history ∧ (s.mapRecords f).port = s.port := by
  simp [State.mapRecords, KeptBase]

@[simp] theorem State.stopMemberTimers_frame (s : State) :
    KeptBase s (s.stopMemberTimers) ∧ (s.stopMemberTimers).now = s.now ∧ (s.stopMemberTimers).station = s.station
      ∧ (s.stopMemberTimers).link = s.link ∧ (s.stopMemberTimers).crank = s.crank
      ∧ (s.stopMemberTimers).slotUnit = s.slotUnit ∧ (s.stopMemberTimers).w0 = s.w0 ∧ (s.stopMemberTimers).w1 = s.w1
      ∧ (s.stopMemberTimers).fault = s.fault ∧ (s.stopMemberTimers).history = s.history
      ∧ (s.stopMemberTimers).port = s.port := by
  simp [State.stopMemberTimers, KeptBase]

@[simp] theorem State.membersLoaded_frame (s : State) (r : Replica) :
    KeptBase s (s.membersLoaded r) ∧ (s.membersLoaded r).now = s.now ∧ (s.membersLoaded r).station = s.station
      ∧ (s.membersLoaded r).link = s.link ∧ (s.membersLoaded r).crank = s.crank
      ∧ (s.membersLoaded r).slotUnit = s.slotUnit ∧ (s.membersLoaded r).w0 = s.w0 ∧ (s.membersLoaded r).w1 = s.w1
      ∧ (s.membersLoaded r).fault = s.fault ∧ (s.membersLoaded r).history = s.history
      ∧ (s.membersLoaded r).port = s.port := by
  simp [State.membersLoaded, KeptBase]

@[simp] theorem State.shift_frame (s : State) (n : StationState) (c : SyncCause) :
    KeptBase s (s.shift n c) ∧ (s.shift n c).now = s.now ∧ (s.shift n c).members = s.members
      ∧ (s.shift n c).crank = s.crank ∧ (s.shift n c).slotUnit = s.slotUnit ∧ (s.shift n c).w0 = s.w0
      ∧ (s.shift n c).w1 = s.w1 ∧ (s.shift n c).fault = s.fault ∧ (s.shift n c).history = s.history
      ∧ (s.shift n c).port = s.port ∧ (s.shift n c).link.urgent = s.link.urgent
      ∧ (s.shift n c).link.general = s.link.general ∧ (s.shift n c).link.tx = s.link.tx
      ∧ (s.shift n c).link.inbound = s.link.inbound ∧ (s.shift n c).link.readback = s.link.readback
      ∧ (s.shift n c).link.late = s.link.late := by
  simp [State.shift, LinkUnit.entered, KeptBase]

@[simp] theorem State.announce_frame (s : State) (o n : StationState) (c : SyncCause) :
    KeptBase s (s.announce o n c) ∧ (s.announce o n c).now = s.now ∧ (s.announce o n c).station = s.station
      ∧ (s.announce o n c).link = s.link ∧ (s.announce o n c).members = s.members
      ∧ (s.announce o n c).crank = s.crank ∧ (s.announce o n c).slotUnit = s.slotUnit
      ∧ (s.announce o n c).w0 = s.w0 ∧ (s.announce o n c).w1 = s.w1 := by
  simp [State.announce, KeptBase]

@[simp] theorem State.moveTo_frame (s : State) (n : StationState) (c : SyncCause) :
    KeptBase s (s.moveTo n c) ∧ (s.moveTo n c).now = s.now ∧ (s.moveTo n c).members = s.members
      ∧ (s.moveTo n c).crank = s.crank ∧ (s.moveTo n c).slotUnit = s.slotUnit ∧ (s.moveTo n c).w0 = s.w0
      ∧ (s.moveTo n c).w1 = s.w1 ∧ (s.moveTo n c).link.urgent = s.link.urgent
      ∧ (s.moveTo n c).link.general = s.link.general ∧ (s.moveTo n c).link.tx = s.link.tx
      ∧ (s.moveTo n c).link.inbound = s.link.inbound ∧ (s.moveTo n c).link.readback = s.link.readback ∧ (s.moveTo n c).link.late = s.link.late := by
  simp [State.moveTo, KeptBase]

@[simp] theorem State.dropInbound_frame (s : State) :
    KeptBase s (s.dropInbound) ∧ (s.dropInbound).now = s.now ∧ (s.dropInbound).station = s.station
      ∧ (s.dropInbound).members = s.members ∧ (s.dropInbound).crank = s.crank ∧ (s.dropInbound).slotUnit = s.slotUnit
      ∧ (s.dropInbound).w0 = s.w0 ∧ (s.dropInbound).w1 = s.w1 ∧ (s.dropInbound).fault = s.fault
      ∧ (s.dropInbound).history = s.history ∧ (s.dropInbound).port = s.port
      ∧ (s.dropInbound).link.urgent = s.link.urgent ∧ (s.dropInbound).link.general = s.link.general
      ∧ (s.dropInbound).link.tx = s.link.tx ∧ (s.dropInbound).link.readback = s.link.readback ∧ (s.dropInbound).link.late = s.link.late
      ∧ (s.dropInbound).link.heartbeat = s.link.heartbeat ∧ (s.dropInbound).link.probeDue = s.link.probeDue
      ∧ (s.dropInbound).link.probeTimer = s.link.probeTimer := by
  simp [State.dropInbound, KeptBase]

@[simp] theorem State.endCarry_frame (s : State) (i : SlotNo) :
    KeptBase s (s.endCarry i) ∧ (s.endCarry i).now = s.now ∧ (s.endCarry i).station = s.station
      ∧ (s.endCarry i).link = s.link ∧ (s.endCarry i).members = s.members ∧ (s.endCarry i).crank = s.crank
      ∧ (s.endCarry i).w0 = s.w0 ∧ (s.endCarry i).w1 = s.w1
      ∧ (s.endCarry i).slotUnit.latchLimit = s.slotUnit.latchLimit ∧ (s.endCarry i).slotUnit.gate = s.slotUnit.gate
      ∧ (s.endCarry i).slotUnit.leavePending = s.slotUnit.leavePending := by
  unfold State.endCarry
  split <;> simp [KeptBase]

@[simp] theorem foldl_endCarry_frame (l : List SlotNo) (s : State) :
    KeptBase s (l.foldl State.endCarry s) ∧ (l.foldl State.endCarry s).now = s.now
      ∧ (l.foldl State.endCarry s).station = s.station ∧ (l.foldl State.endCarry s).link = s.link
      ∧ (l.foldl State.endCarry s).members = s.members ∧ (l.foldl State.endCarry s).crank = s.crank
      ∧ (l.foldl State.endCarry s).w0 = s.w0 ∧ (l.foldl State.endCarry s).w1 = s.w1
      ∧ (l.foldl State.endCarry s).slotUnit.latchLimit = s.slotUnit.latchLimit
      ∧ (l.foldl State.endCarry s).slotUnit.gate = s.slotUnit.gate
      ∧ (l.foldl State.endCarry s).slotUnit.leavePending = s.slotUnit.leavePending := by
  induction l generalizing s with
  | nil => simp [KeptBase]
  | cons a l ih => simpa [KeptBase] using ih (s.endCarry a)

@[simp] theorem State.dropCarry_frame (s : State) (i : SlotNo) :
    KeptBase s (s.dropCarry i) ∧ (s.dropCarry i).now = s.now ∧ (s.dropCarry i).station = s.station
      ∧ (s.dropCarry i).link = s.link ∧ (s.dropCarry i).members = s.members ∧ (s.dropCarry i).crank = s.crank
      ∧ (s.dropCarry i).w0 = s.w0 ∧ (s.dropCarry i).w1 = s.w1
      ∧ (s.dropCarry i).slotUnit.latchLimit = s.slotUnit.latchLimit ∧ (s.dropCarry i).slotUnit.gate = s.slotUnit.gate
      ∧ (s.dropCarry i).slotUnit.leavePending = s.slotUnit.leavePending := by
  unfold State.dropCarry
  split <;> simp [KeptBase]

@[simp] theorem foldl_dropCarry_frame (l : List SlotNo) (s : State) :
    KeptBase s (l.foldl State.dropCarry s) ∧ (l.foldl State.dropCarry s).now = s.now
      ∧ (l.foldl State.dropCarry s).station = s.station ∧ (l.foldl State.dropCarry s).link = s.link
      ∧ (l.foldl State.dropCarry s).members = s.members ∧ (l.foldl State.dropCarry s).crank = s.crank
      ∧ (l.foldl State.dropCarry s).w0 = s.w0 ∧ (l.foldl State.dropCarry s).w1 = s.w1
      ∧ (l.foldl State.dropCarry s).slotUnit.latchLimit = s.slotUnit.latchLimit
      ∧ (l.foldl State.dropCarry s).slotUnit.gate = s.slotUnit.gate
      ∧ (l.foldl State.dropCarry s).slotUnit.leavePending = s.slotUnit.leavePending := by
  induction l generalizing s with
  | nil => simp [KeptBase]
  | cons a l ih => simpa [KeptBase] using ih (s.dropCarry a)

@[simp] theorem State.endDrive_frame (s : State) :
    KeptBase s (s.endDrive) ∧ (s.endDrive).now = s.now ∧ (s.endDrive).station = s.station
      ∧ (s.endDrive).members = s.members ∧ (s.endDrive).link.general = s.link.general
      ∧ (s.endDrive).link.tx = s.link.tx ∧ (s.endDrive).link.inbound = s.link.inbound
      ∧ (s.endDrive).link.readback = s.link.readback ∧ (s.endDrive).link.late = s.link.late ∧ (s.endDrive).link.heartbeat = s.link.heartbeat
      ∧ (s.endDrive).link.probeDue = s.link.probeDue ∧ (s.endDrive).link.probeTimer = s.link.probeTimer
      ∧ (s.endDrive).slotUnit.gate = s.slotUnit.gate ∧ (s.endDrive).slotUnit.leavePending = s.slotUnit.leavePending := by
  simp [State.endDrive, KeptBase]

@[simp] theorem State.emptyLanes_frame (s : State) :
    KeptBase s (s.emptyLanes) ∧ (s.emptyLanes).now = s.now ∧ (s.emptyLanes).station = s.station
      ∧ (s.emptyLanes).members = s.members ∧ (s.emptyLanes).crank = s.crank ∧ (s.emptyLanes).slotUnit = s.slotUnit
      ∧ (s.emptyLanes).w0 = s.w0 ∧ (s.emptyLanes).w1 = s.w1 ∧ (s.emptyLanes).fault = s.fault
      ∧ (s.emptyLanes).history = s.history ∧ (s.emptyLanes).port = s.port
      ∧ (s.emptyLanes).link.inbound = s.link.inbound ∧ (s.emptyLanes).link.readback = s.link.readback ∧ (s.emptyLanes).link.late = s.link.late
      ∧ (s.emptyLanes).link.heartbeat = s.link.heartbeat ∧ (s.emptyLanes).link.probeDue = s.link.probeDue
      ∧ (s.emptyLanes).link.probeTimer = s.link.probeTimer := by
  simp [State.emptyLanes, KeptBase]

@[simp] theorem State.stopSlotTimers_frame (s : State) :
    KeptBase s (s.stopSlotTimers) ∧ (s.stopSlotTimers).now = s.now ∧ (s.stopSlotTimers).station = s.station
      ∧ (s.stopSlotTimers).link = s.link ∧ (s.stopSlotTimers).members = s.members ∧ (s.stopSlotTimers).crank = s.crank
      ∧ (s.stopSlotTimers).w0 = s.w0 ∧ (s.stopSlotTimers).w1 = s.w1 ∧ (s.stopSlotTimers).fault = s.fault
      ∧ (s.stopSlotTimers).history = s.history ∧ (s.stopSlotTimers).port = s.port
      ∧ (s.stopSlotTimers).slotUnit.leavePending = s.slotUnit.leavePending := by
  simp [State.stopSlotTimers, KeptBase]

@[simp] theorem State.silenceOffline_frame (s : State) :
    KeptBase s (s.silenceOffline) ∧ (s.silenceOffline).now = s.now ∧ (s.silenceOffline).station = s.station
      ∧ (s.silenceOffline).members = s.members
      ∧ (s.silenceOffline).slotUnit.leavePending = s.slotUnit.leavePending
      ∧ (s.silenceOffline).link.inbound = s.link.inbound ∧ (s.silenceOffline).link.readback = s.link.readback
      ∧ (s.silenceOffline).link.late = s.link.late ∧ (s.silenceOffline).link.heartbeat = s.link.heartbeat
      ∧ (s.silenceOffline).link.probeDue = s.link.probeDue
      ∧ (s.silenceOffline).link.probeTimer = s.link.probeTimer := by
  unfold State.silenceOffline
  split <;> simp [KeptBase]

@[simp] theorem State.onEntry_frame (s : State) :
    KeptBase s (s.onEntry) ∧ (s.onEntry).now = s.now ∧ (s.onEntry).slotUnit.leavePending = s.slotUnit.leavePending
      ∧ (s.onEntry).link.inbound = s.link.inbound ∧ (s.onEntry).link.readback = s.link.readback ∧ (s.onEntry).link.late = s.link.late
      ∧ (s.onEntry).link.heartbeat = s.link.heartbeat ∧ (s.onEntry).link.probeDue = s.link.probeDue
      ∧ (s.onEntry).link.probeTimer = s.link.probeTimer := by
  unfold State.onEntry
  split <;> simp [KeptBase]

@[simp] theorem State.enterAnnounced_frame (s : State) (n : StationState) (c : SyncCause) :
    KeptBase s (s.enterAnnounced n c) ∧ (s.enterAnnounced n c).now = s.now
      ∧ (s.enterAnnounced n c).slotUnit.leavePending = s.slotUnit.leavePending
      ∧ (s.enterAnnounced n c).link.readback = s.link.readback
      ∧ (s.enterAnnounced n c).link.late = s.link.late := by
  simp [State.enterAnnounced, KeptBase]

@[simp] theorem State.enterOnce_frame (s : State) (n : StationState) (c : SyncCause) :
    KeptBase s (s.enterOnce n c) ∧ (s.enterOnce n c).now = s.now
      ∧ (s.enterOnce n c).slotUnit.leavePending = s.slotUnit.leavePending
      ∧ (s.enterOnce n c).link.readback = s.link.readback ∧ (s.enterOnce n c).link.late = s.link.late := by
  simp [State.enterOnce, KeptBase]

@[simp] theorem State.enter_frame (s : State) (n : StationState) (c : SyncCause) :
    KeptBase s (s.enter n c) ∧ (s.enter n c).now = s.now
      ∧ (s.enter n c).slotUnit.leavePending = s.slotUnit.leavePending ∧ (s.enter n c).link.readback = s.link.readback ∧ (s.enter n c).link.late = s.link.late := by
  simp only [State.enter]
  (repeat' split) <;> simp [KeptBase]

@[simp] theorem State.changeState_frame (s : State) (n : StationState) (c : SyncCause) :
    KeptBase s (s.changeState n c) ∧ (s.changeState n c).now = s.now
      ∧ (s.changeState n c).slotUnit.leavePending = s.slotUnit.leavePending
      ∧ (s.changeState n c).link.readback = s.link.readback ∧ (s.changeState n c).link.late = s.link.late := by
  simp [State.changeState, KeptBase]

@[simp] theorem State.loadSlot_frame (s : State) (i : SlotNo) :
    KeptBase s (s.loadSlot i) ∧ (s.loadSlot i).now = s.now ∧ (s.loadSlot i).station = s.station
      ∧ (s.loadSlot i).link = s.link ∧ (s.loadSlot i).members = s.members ∧ (s.loadSlot i).crank = s.crank
      ∧ (s.loadSlot i).w0 = s.w0 ∧ (s.loadSlot i).w1 = s.w1
      ∧ (s.loadSlot i).slotUnit.latchLimit = s.slotUnit.latchLimit ∧ (s.loadSlot i).slotUnit.gate = s.slotUnit.gate
      ∧ (s.loadSlot i).slotUnit.leavePending = s.slotUnit.leavePending := by
  simp only [State.loadSlot]
  (repeat' split) <;> simp [KeptBase]

@[simp] theorem State.loadSlots_frame (s : State) :
    KeptBase s (s.loadSlots) ∧ (s.loadSlots).now = s.now ∧ (s.loadSlots).station = s.station
      ∧ (s.loadSlots).link = s.link ∧ (s.loadSlots).members = s.members ∧ (s.loadSlots).crank = s.crank
      ∧ (s.loadSlots).w0 = s.w0 ∧ (s.loadSlots).w1 = s.w1 ∧ (s.loadSlots).slotUnit.latchLimit = s.slotUnit.latchLimit
      ∧ (s.loadSlots).slotUnit.gate = s.slotUnit.gate ∧ (s.loadSlots).slotUnit.leavePending = s.slotUnit.leavePending := by
  unfold State.loadSlots
  generalize allSlots = l
  induction l generalizing s with
  | nil => simp [KeptBase]
  | cons i l ih => simpa [KeptBase] using ih (s.loadSlot i)

@[simp] theorem State.latchesLoaded_frame (s : State) :
    KeptBase s (s.latchesLoaded) ∧ (s.latchesLoaded).now = s.now ∧ (s.latchesLoaded).station = s.station
      ∧ (s.latchesLoaded).link = s.link ∧ (s.latchesLoaded).members = s.members ∧ (s.latchesLoaded).crank = s.crank
      ∧ (s.latchesLoaded).w0 = s.w0 ∧ (s.latchesLoaded).w1 = s.w1 ∧ (s.latchesLoaded).fault = s.fault
      ∧ (s.latchesLoaded).history = s.history ∧ (s.latchesLoaded).port = s.port
      ∧ (s.latchesLoaded).slotUnit.gate = s.slotUnit.gate
      ∧ (s.latchesLoaded).slotUnit.leavePending = s.slotUnit.leavePending := by
  simp only [State.latchesLoaded]
  (repeat' split) <;> simp [KeptBase]

@[simp] theorem State.gateLoaded_frame (s : State) (r : Replica) :
    KeptBase s (s.gateLoaded r) ∧ (s.gateLoaded r).now = s.now ∧ (s.gateLoaded r).station = s.station
      ∧ (s.gateLoaded r).link = s.link ∧ (s.gateLoaded r).members = s.members ∧ (s.gateLoaded r).crank = s.crank
      ∧ (s.gateLoaded r).w0 = s.w0 ∧ (s.gateLoaded r).w1 = s.w1 ∧ (s.gateLoaded r).fault = s.fault
      ∧ (s.gateLoaded r).history = s.history ∧ (s.gateLoaded r).port = s.port
      ∧ (s.gateLoaded r).slotUnit.latchLimit = s.slotUnit.latchLimit
      ∧ (s.gateLoaded r).slotUnit.leavePending = s.slotUnit.leavePending := by
  simp [State.gateLoaded, KeptBase]

@[simp] theorem State.forgetIsolation_frame (s : State) :
    KeptBase s (s.forgetIsolation) ∧ (s.forgetIsolation).now = s.now ∧ (s.forgetIsolation).link = s.link
      ∧ (s.forgetIsolation).members = s.members ∧ (s.forgetIsolation).crank = s.crank
      ∧ (s.forgetIsolation).slotUnit = s.slotUnit ∧ (s.forgetIsolation).w0 = s.w0 ∧ (s.forgetIsolation).w1 = s.w1
      ∧ (s.forgetIsolation).fault = s.fault ∧ (s.forgetIsolation).history = s.history
      ∧ (s.forgetIsolation).port = s.port := by
  simp [State.forgetIsolation, KeptBase]

@[simp] theorem State.enterLoaded_frame (s : State) (p : Bool) (c : SyncCause) (j : Body) :
    KeptBase s (s.enterLoaded p c j) ∧ (s.enterLoaded p c j).now = s.now
      ∧ (s.enterLoaded p c j).slotUnit.leavePending = s.slotUnit.leavePending
      ∧ (s.enterLoaded p c j).link.readback = s.link.readback ∧ (s.enterLoaded p c j).link.late = s.link.late := by
  unfold State.enterLoaded
  split <;> simp [KeptBase]

@[simp] theorem State.changePeer_frame (s : State) (n : Station) (f : PeerRecord → PeerRecord) :
    KeptBase s (s.changePeer n f) ∧ (s.changePeer n f).now = s.now ∧ (s.changePeer n f).station = s.station
      ∧ (s.changePeer n f).link = s.link ∧ (s.changePeer n f).crank = s.crank
      ∧ (s.changePeer n f).slotUnit = s.slotUnit ∧ (s.changePeer n f).w0 = s.w0 ∧ (s.changePeer n f).w1 = s.w1
      ∧ (s.changePeer n f).fault = s.fault ∧ (s.changePeer n f).history = s.history ∧ (s.changePeer n f).port = s.port := by
  simp [State.changePeer, KeptBase]

@[simp] theorem State.raiseDisagree_frame (s : State) (n : Station) :
    KeptBase s (s.raiseDisagree n) ∧ (s.raiseDisagree n).now = s.now ∧ (s.raiseDisagree n).station = s.station
      ∧ (s.raiseDisagree n).link = s.link ∧ (s.raiseDisagree n).crank = s.crank
      ∧ (s.raiseDisagree n).slotUnit = s.slotUnit ∧ (s.raiseDisagree n).w0 = s.w0 ∧ (s.raiseDisagree n).w1 = s.w1
      ∧ (s.raiseDisagree n).fault = s.fault ∧ (s.raiseDisagree n).history = s.history
      ∧ (s.raiseDisagree n).port = s.port := by
  simp [State.raiseDisagree, KeptBase]

@[simp] theorem State.tidy_frame (s : State) (n : Nat) :
    KeptBase s (s.tidy n) ∧ (s.tidy n).now = s.now ∧ (s.tidy n).station = s.station ∧ (s.tidy n).link = s.link
      ∧ (s.tidy n).members = s.members ∧ (s.tidy n).crank = s.crank ∧ (s.tidy n).w0 = s.w0 ∧ (s.tidy n).w1 = s.w1
      ∧ (s.tidy n).slotUnit.latchLimit = s.slotUnit.latchLimit ∧ (s.tidy n).slotUnit.gate = s.slotUnit.gate
      ∧ (s.tidy n).slotUnit.leavePending = s.slotUnit.leavePending := by
  simp [State.tidy, KeptBase]

@[simp] theorem State.settleDown_frame (s : State) (n : Nat) :
    KeptBase s (s.settleDown n) ∧ (s.settleDown n).now = s.now ∧ (s.settleDown n).station = s.station
      ∧ (s.settleDown n).members = s.members ∧ (s.settleDown n).crank = s.crank ∧ (s.settleDown n).w0 = s.w0
      ∧ (s.settleDown n).w1 = s.w1 ∧ (s.settleDown n).link.urgent = s.link.urgent
      ∧ (s.settleDown n).link.tx = s.link.tx ∧ (s.settleDown n).link.inbound = s.link.inbound
      ∧ (s.settleDown n).link.readback = s.link.readback ∧ (s.settleDown n).link.late = s.link.late ∧ (s.settleDown n).link.heartbeat = s.link.heartbeat
      ∧ (s.settleDown n).link.probeDue = s.link.probeDue ∧ (s.settleDown n).link.probeTimer = s.link.probeTimer
      ∧ (s.settleDown n).slotUnit.latchLimit = s.slotUnit.latchLimit
      ∧ (s.settleDown n).slotUnit.gate = s.slotUnit.gate
      ∧ (s.settleDown n).slotUnit.leavePending = s.slotUnit.leavePending := by
  simp [State.settleDown, KeptBase]

@[simp] theorem State.offerApplication_frame (s : State) (f : Frame) (p : Option Phase) :
    KeptBase s (s.offerApplication f p) ∧ (s.offerApplication f p).now = s.now ∧ (s.offerApplication f p).station = s.station
      ∧ (s.offerApplication f p).members = s.members ∧ (s.offerApplication f p).slotUnit.gate = s.slotUnit.gate
      ∧ (s.offerApplication f p).slotUnit.leavePending = s.slotUnit.leavePending ∧ (s.offerApplication f p).link.tx = s.link.tx
      ∧ (s.offerApplication f p).link.inbound = s.link.inbound ∧ (s.offerApplication f p).link.readback = s.link.readback ∧ (s.offerApplication f p).link.late = s.link.late
      ∧ (s.offerApplication f p).link.heartbeat = s.link.heartbeat ∧ (s.offerApplication f p).link.probeDue = s.link.probeDue
      ∧ (s.offerApplication f p).link.probeTimer = s.link.probeTimer := by
  simp [State.offerApplication, KeptBase]

@[simp] theorem State.ended_frame (s : State) (n : Nat) :
    KeptBase s (s.ended n) ∧ (s.ended n).now = s.now ∧ (s.ended n).station = s.station
      ∧ (s.ended n).members = s.members ∧ (s.ended n).slotUnit.gate = s.slotUnit.gate
      ∧ (s.ended n).slotUnit.leavePending = s.slotUnit.leavePending ∧ (s.ended n).link.tx = s.link.tx
      ∧ (s.ended n).link.inbound = s.link.inbound ∧ (s.ended n).link.readback = s.link.readback
      ∧ (s.ended n).link.late = s.link.late ∧ (s.ended n).link.heartbeat = s.link.heartbeat
      ∧ (s.ended n).link.probeDue = s.link.probeDue ∧ (s.ended n).link.probeTimer = s.link.probeTimer := by
  simp [State.ended, KeptBase]

@[simp] theorem State.evaluated_frame (s : State) (n : Nat) (f : Frame) (p : Option Phase) :
    KeptBase s (s.evaluated n f p) ∧ (s.evaluated n f p).now = s.now ∧ (s.evaluated n f p).station = s.station
      ∧ (s.evaluated n f p).members = s.members ∧ (s.evaluated n f p).slotUnit.gate = s.slotUnit.gate
      ∧ (s.evaluated n f p).slotUnit.leavePending = s.slotUnit.leavePending ∧ (s.evaluated n f p).link.tx = s.link.tx
      ∧ (s.evaluated n f p).link.inbound = s.link.inbound ∧ (s.evaluated n f p).link.readback = s.link.readback ∧ (s.evaluated n f p).link.late = s.link.late
      ∧ (s.evaluated n f p).link.heartbeat = s.link.heartbeat ∧ (s.evaluated n f p).link.probeDue = s.link.probeDue
      ∧ (s.evaluated n f p).link.probeTimer = s.link.probeTimer := by
  simp [State.evaluated, KeptBase]

@[simp] theorem State.offerApplicationIn_frame (s : State) (m : StationState) (f : Frame) (p : Option Phase) :
    KeptBase s (s.offerApplicationIn m f p) ∧ (s.offerApplicationIn m f p).now = s.now ∧ (s.offerApplicationIn m f p).station = s.station
      ∧ (s.offerApplicationIn m f p).members = s.members ∧ (s.offerApplicationIn m f p).slotUnit.gate = s.slotUnit.gate
      ∧ (s.offerApplicationIn m f p).slotUnit.leavePending = s.slotUnit.leavePending ∧ (s.offerApplicationIn m f p).link.tx = s.link.tx
      ∧ (s.offerApplicationIn m f p).link.inbound = s.link.inbound ∧ (s.offerApplicationIn m f p).link.readback = s.link.readback ∧ (s.offerApplicationIn m f p).link.late = s.link.late
      ∧ (s.offerApplicationIn m f p).link.heartbeat = s.link.heartbeat ∧ (s.offerApplicationIn m f p).link.probeDue = s.link.probeDue
      ∧ (s.offerApplicationIn m f p).link.probeTimer = s.link.probeTimer := by
  simp [State.offerApplicationIn, KeptBase]

@[simp] theorem State.evaluatedAtChange_frame (s : State) (k : Nat) (f : Frame) (p : Option Phase) (n : StationState)
    (c : SyncCause) :
    KeptBase s (s.evaluatedAtChange k f p n c) ∧ (s.evaluatedAtChange k f p n c).now = s.now
      ∧ (s.evaluatedAtChange k f p n c).slotUnit.leavePending = s.slotUnit.leavePending
      ∧ (s.evaluatedAtChange k f p n c).link.readback = s.link.readback
      ∧ (s.evaluatedAtChange k f p n c).link.late = s.link.late := by
  simp [State.evaluatedAtChange, KeptBase]

@[simp] theorem State.explained_frame (s : State) :
    KeptBase s (s.explained) ∧ (s.explained).now = s.now ∧ (s.explained).station = s.station
      ∧ (s.explained).members = s.members ∧ (s.explained).crank = s.crank ∧ (s.explained).w0 = s.w0
      ∧ (s.explained).w1 = s.w1 ∧ (s.explained).fault = s.fault ∧ (s.explained).history = s.history
      ∧ (s.explained).port = s.port ∧ (s.explained).slotUnit.gate = s.slotUnit.gate
      ∧ (s.explained).slotUnit.leavePending = s.slotUnit.leavePending ∧ (s.explained).link.general = s.link.general
      ∧ (s.explained).link.tx = s.link.tx ∧ (s.explained).link.inbound = s.link.inbound
      ∧ (s.explained).link.readback = s.link.readback ∧ (s.explained).link.late = s.link.late ∧ (s.explained).link.heartbeat = s.link.heartbeat
      ∧ (s.explained).link.probeDue = s.link.probeDue ∧ (s.explained).link.probeTimer = s.link.probeTimer := by
  simp [State.explained, KeptBase]

@[simp] theorem State.recordTransitions_frame (s : State) (l : List Transition) :
    KeptBase s (s.recordTransitions l) ∧ (s.recordTransitions l).now = s.now
      ∧ (s.recordTransitions l).station = s.station ∧ (s.recordTransitions l).link = s.link
      ∧ (s.recordTransitions l).members = s.members ∧ (s.recordTransitions l).crank = s.crank
      ∧ (s.recordTransitions l).slotUnit = s.slotUnit ∧ (s.recordTransitions l).w0 = s.w0
      ∧ (s.recordTransitions l).w1 = s.w1 ∧ (s.recordTransitions l).fault = s.fault
      ∧ (s.recordTransitions l).port = s.port := by
  unfold State.recordTransitions
  induction l generalizing s with
  | nil => simp [KeptBase]
  | cons t l ih => simpa [KeptBase] using ih (s.record (.claimState t.key t.before t.after t.held))

@[simp] theorem State.takeTransitions_frame (s : State) (l : List Transition) :
    KeptBase s (s.takeTransitions l) ∧ (s.takeTransitions l).now = s.now ∧ (s.takeTransitions l).station = s.station
      ∧ (s.takeTransitions l).link = s.link ∧ (s.takeTransitions l).members = s.members
      ∧ (s.takeTransitions l).crank = s.crank ∧ (s.takeTransitions l).w0 = s.w0 ∧ (s.takeTransitions l).w1 = s.w1
      ∧ (s.takeTransitions l).slotUnit.latchLimit = s.slotUnit.latchLimit
      ∧ (s.takeTransitions l).slotUnit.gate = s.slotUnit.gate
      ∧ (s.takeTransitions l).slotUnit.leavePending = s.slotUnit.leavePending := by
  unfold State.takeTransitions
  induction l generalizing s with
  | nil => simp [KeptBase]
  | cons t l ih => simpa [KeptBase] using ih (s.ownTransition .applied t)

@[simp] theorem State.claimIgnored_frame (s : State) (i : SlotNo) (a : Applied) (c : IgnoreCause) :
    KeptBase s (s.claimIgnored i a c) ∧ (s.claimIgnored i a c).now = s.now
      ∧ (s.claimIgnored i a c).station = s.station ∧ (s.claimIgnored i a c).link = s.link
      ∧ (s.claimIgnored i a c).members = s.members ∧ (s.claimIgnored i a c).crank = s.crank
      ∧ (s.claimIgnored i a c).w0 = s.w0 ∧ (s.claimIgnored i a c).w1 = s.w1 ∧ (s.claimIgnored i a c).fault = s.fault
      ∧ (s.claimIgnored i a c).history = s.history ∧ (s.claimIgnored i a c).port = s.port
      ∧ (s.claimIgnored i a c).slotUnit.latchLimit = s.slotUnit.latchLimit
      ∧ (s.claimIgnored i a c).slotUnit.gate = s.slotUnit.gate
      ∧ (s.claimIgnored i a c).slotUnit.leavePending = s.slotUnit.leavePending := by
  unfold State.claimIgnored
  split <;> simp [KeptBase]

@[simp] theorem State.ownClaimOutcome_frame (s : State) (i : SlotNo) (a : Applied) :
    KeptBase s (s.ownClaimOutcome i a) ∧ (s.ownClaimOutcome i a).now = s.now
      ∧ (s.ownClaimOutcome i a).station = s.station ∧ (s.ownClaimOutcome i a).link = s.link
      ∧ (s.ownClaimOutcome i a).members = s.members ∧ (s.ownClaimOutcome i a).crank = s.crank
      ∧ (s.ownClaimOutcome i a).w0 = s.w0 ∧ (s.ownClaimOutcome i a).w1 = s.w1
      ∧ (s.ownClaimOutcome i a).slotUnit.latchLimit = s.slotUnit.latchLimit
      ∧ (s.ownClaimOutcome i a).slotUnit.gate = s.slotUnit.gate
      ∧ (s.ownClaimOutcome i a).slotUnit.leavePending = s.slotUnit.leavePending := by
  simp only [State.ownClaimOutcome]
  (repeat' split) <;> simp [KeptBase]

@[simp] theorem State.ownReleaseOutcome_frame (s : State) (i : SlotNo) (a : Applied) :
    KeptBase s (s.ownReleaseOutcome i a) ∧ (s.ownReleaseOutcome i a).now = s.now
      ∧ (s.ownReleaseOutcome i a).station = s.station ∧ (s.ownReleaseOutcome i a).link = s.link
      ∧ (s.ownReleaseOutcome i a).members = s.members ∧ (s.ownReleaseOutcome i a).crank = s.crank
      ∧ (s.ownReleaseOutcome i a).w0 = s.w0 ∧ (s.ownReleaseOutcome i a).w1 = s.w1
      ∧ (s.ownReleaseOutcome i a).slotUnit.latchLimit = s.slotUnit.latchLimit
      ∧ (s.ownReleaseOutcome i a).slotUnit.gate = s.slotUnit.gate
      ∧ (s.ownReleaseOutcome i a).slotUnit.leavePending = s.slotUnit.leavePending := by
  simp only [State.ownReleaseOutcome]
  (repeat' split) <;> simp [KeptBase]

@[simp] theorem State.ownSettledOutcome_frame (s : State) (i : SlotNo) (b : Bool) (a : Applied) :
    KeptBase s (s.ownSettledOutcome i b a) ∧ (s.ownSettledOutcome i b a).now = s.now
      ∧ (s.ownSettledOutcome i b a).station = s.station ∧ (s.ownSettledOutcome i b a).link = s.link
      ∧ (s.ownSettledOutcome i b a).members = s.members ∧ (s.ownSettledOutcome i b a).crank = s.crank
      ∧ (s.ownSettledOutcome i b a).w0 = s.w0 ∧ (s.ownSettledOutcome i b a).w1 = s.w1
      ∧ (s.ownSettledOutcome i b a).slotUnit.latchLimit = s.slotUnit.latchLimit
      ∧ (s.ownSettledOutcome i b a).slotUnit.gate = s.slotUnit.gate
      ∧ (s.ownSettledOutcome i b a).slotUnit.leavePending = s.slotUnit.leavePending := by
  simp [State.ownSettledOutcome, KeptBase]

@[simp] theorem State.ownStuckOutcome_frame (s : State) (i : SlotNo) (a : Applied) :
    KeptBase s (s.ownStuckOutcome i a) ∧ (s.ownStuckOutcome i a).now = s.now
      ∧ (s.ownStuckOutcome i a).station = s.station ∧ (s.ownStuckOutcome i a).link = s.link
      ∧ (s.ownStuckOutcome i a).members = s.members ∧ (s.ownStuckOutcome i a).crank = s.crank
      ∧ (s.ownStuckOutcome i a).w0 = s.w0 ∧ (s.ownStuckOutcome i a).w1 = s.w1
      ∧ (s.ownStuckOutcome i a).slotUnit.latchLimit = s.slotUnit.latchLimit
      ∧ (s.ownStuckOutcome i a).slotUnit.gate = s.slotUnit.gate
      ∧ (s.ownStuckOutcome i a).slotUnit.leavePending = s.slotUnit.leavePending := by
  unfold State.ownStuckOutcome
  split <;> simp [KeptBase]

@[simp] theorem State.ownJoinSlot_frame (a : Applied) (s : State) (x : SlotNo × JoinOutcome) :
    KeptBase s (State.ownJoinSlot a s x) ∧ (State.ownJoinSlot a s x).now = s.now
      ∧ (State.ownJoinSlot a s x).station = s.station ∧ (State.ownJoinSlot a s x).link = s.link
      ∧ (State.ownJoinSlot a s x).members = s.members ∧ (State.ownJoinSlot a s x).crank = s.crank
      ∧ (State.ownJoinSlot a s x).w0 = s.w0 ∧ (State.ownJoinSlot a s x).w1 = s.w1
      ∧ (State.ownJoinSlot a s x).slotUnit.latchLimit = s.slotUnit.latchLimit
      ∧ (State.ownJoinSlot a s x).slotUnit.gate = s.slotUnit.gate
      ∧ (State.ownJoinSlot a s x).slotUnit.leavePending = s.slotUnit.leavePending := by
  simp only [State.ownJoinSlot]
  (repeat' split) <;> simp [KeptBase]

@[simp] theorem State.ownJoinOutcome_frame (s : State) (a : Applied) :
    KeptBase s (s.ownJoinOutcome a) ∧ (s.ownJoinOutcome a).now = s.now ∧ (s.ownJoinOutcome a).station = s.station
      ∧ (s.ownJoinOutcome a).link = s.link ∧ (s.ownJoinOutcome a).members = s.members
      ∧ (s.ownJoinOutcome a).crank = s.crank ∧ (s.ownJoinOutcome a).w0 = s.w0 ∧ (s.ownJoinOutcome a).w1 = s.w1
      ∧ (s.ownJoinOutcome a).slotUnit.latchLimit = s.slotUnit.latchLimit
      ∧ (s.ownJoinOutcome a).slotUnit.gate = s.slotUnit.gate
      ∧ (s.ownJoinOutcome a).slotUnit.leavePending = s.slotUnit.leavePending := by
  unfold State.ownJoinOutcome
  generalize a.own.outcomes = l
  induction l generalizing s with
  | nil => simp [KeptBase]
  | cons x l ih => simpa [KeptBase] using ih (State.ownJoinSlot a s x)

@[simp] theorem State.slotOutcomes_frame (s : State) (f : Frame) (a : Applied) :
    KeptBase s (s.slotOutcomes f a) ∧ (s.slotOutcomes f a).now = s.now ∧ (s.slotOutcomes f a).station = s.station
      ∧ (s.slotOutcomes f a).link = s.link ∧ (s.slotOutcomes f a).members = s.members
      ∧ (s.slotOutcomes f a).crank = s.crank ∧ (s.slotOutcomes f a).w0 = s.w0 ∧ (s.slotOutcomes f a).w1 = s.w1
      ∧ (s.slotOutcomes f a).slotUnit.latchLimit = s.slotUnit.latchLimit
      ∧ (s.slotOutcomes f a).slotUnit.gate = s.slotUnit.gate
      ∧ (s.slotOutcomes f a).slotUnit.leavePending = s.slotUnit.leavePending := by
  simp only [State.slotOutcomes]
  (repeat' split) <;> simp [KeptBase]

/-- What the application itself announces: the change of station state has not happened yet. -/
@[simp] theorem State.stateOutcome_frame (s : State) (f : Frame) (a : Applied) (j : Body) :
    KeptBase s (s.stateOutcome f a j) ∧ (s.stateOutcome f a j).now = s.now
      ∧ (s.stateOutcome f a j).station = s.station ∧ (s.stateOutcome f a j).members = s.members
      ∧ (s.stateOutcome f a j).crank = s.crank ∧ (s.stateOutcome f a j).slotUnit = s.slotUnit
      ∧ (s.stateOutcome f a j).w0 = s.w0 ∧ (s.stateOutcome f a j).w1 = s.w1
      ∧ (s.stateOutcome f a j).link.urgent = s.link.urgent ∧ (s.stateOutcome f a j).link.tx = s.link.tx
      ∧ (s.stateOutcome f a j).link.inbound = s.link.inbound
      ∧ (s.stateOutcome f a j).link.readback = s.link.readback
      ∧ (s.stateOutcome f a j).link.late = s.link.late
      ∧ (s.stateOutcome f a j).link.heartbeat = s.link.heartbeat
      ∧ (s.stateOutcome f a j).link.probeDue = s.link.probeDue
      ∧ (s.stateOutcome f a j).link.probeTimer = s.link.probeTimer := by
  simp only [State.stateOutcome]
  (repeat' split) <;> simp [KeptBase]

@[simp] theorem State.phaseOutcome_frame (s : State) (a : Applied) :
    KeptBase s (s.phaseOutcome a) ∧ (s.phaseOutcome a).now = s.now ∧ (s.phaseOutcome a).station = s.station
      ∧ (s.phaseOutcome a).link = s.link ∧ (s.phaseOutcome a).members = s.members ∧ (s.phaseOutcome a).crank = s.crank
      ∧ (s.phaseOutcome a).slotUnit = s.slotUnit ∧ (s.phaseOutcome a).w0 = s.w0 ∧ (s.phaseOutcome a).w1 = s.w1 := by
  simp only [State.phaseOutcome]
  (repeat' split) <;> simp [KeptBase]

@[simp] theorem State.rolesRefused_frame (s : State) (f : Frame) (a : Applied) :
    KeptBase s (s.rolesRefused f a) ∧ (s.rolesRefused f a).now = s.now ∧ (s.rolesRefused f a).station = s.station
      ∧ (s.rolesRefused f a).link = s.link ∧ (s.rolesRefused f a).members = s.members
      ∧ (s.rolesRefused f a).crank = s.crank ∧ (s.rolesRefused f a).slotUnit = s.slotUnit
      ∧ (s.rolesRefused f a).w0 = s.w0 ∧ (s.rolesRefused f a).w1 = s.w1 := by
  unfold State.rolesRefused
  split <;> simp [KeptBase]

@[simp] theorem State.memberOutcome_frame (s : State) (a : Applied) :
    KeptBase s (s.memberOutcome a) ∧ (s.memberOutcome a).now = s.now ∧ (s.memberOutcome a).station = s.station
      ∧ (s.memberOutcome a).link = s.link ∧ (s.memberOutcome a).crank = s.crank
      ∧ (s.memberOutcome a).slotUnit = s.slotUnit ∧ (s.memberOutcome a).w0 = s.w0 ∧ (s.memberOutcome a).w1 = s.w1
      ∧ (s.memberOutcome a).fault = s.fault ∧ (s.memberOutcome a).history = s.history
      ∧ (s.memberOutcome a).port = s.port := by
  simp [State.memberOutcome, KeptBase]

@[simp] theorem State.crankOutcome_frame (s : State) (f : Frame) (a : Applied) :
    KeptBase s (s.crankOutcome f a) ∧ (s.crankOutcome f a).now = s.now ∧ (s.crankOutcome f a).station = s.station
      ∧ (s.crankOutcome f a).members = s.members ∧ (s.crankOutcome f a).link.general = s.link.general
      ∧ (s.crankOutcome f a).link.tx = s.link.tx ∧ (s.crankOutcome f a).link.inbound = s.link.inbound
      ∧ (s.crankOutcome f a).link.readback = s.link.readback ∧ (s.crankOutcome f a).link.late = s.link.late ∧ (s.crankOutcome f a).link.heartbeat = s.link.heartbeat
      ∧ (s.crankOutcome f a).link.probeDue = s.link.probeDue
      ∧ (s.crankOutcome f a).link.probeTimer = s.link.probeTimer
      ∧ (s.crankOutcome f a).slotUnit.gate = s.slotUnit.gate
      ∧ (s.crankOutcome f a).slotUnit.leavePending = s.slotUnit.leavePending := by
  simp only [State.crankOutcome]
  (repeat' split) <;> simp [KeptBase]

@[simp] theorem State.gateOutcome_frame (s : State) (f : Frame) (a : Applied) :
    KeptBase s (s.gateOutcome f a) ∧ (s.gateOutcome f a).now = s.now ∧ (s.gateOutcome f a).station = s.station
      ∧ (s.gateOutcome f a).link = s.link ∧ (s.gateOutcome f a).members = s.members
      ∧ (s.gateOutcome f a).crank = s.crank ∧ (s.gateOutcome f a).w0 = s.w0 ∧ (s.gateOutcome f a).w1 = s.w1
      ∧ (s.gateOutcome f a).fault = s.fault ∧ (s.gateOutcome f a).history = s.history
      ∧ (s.gateOutcome f a).port = s.port ∧ (s.gateOutcome f a).slotUnit.latchLimit = s.slotUnit.latchLimit
      ∧ (s.gateOutcome f a).slotUnit.leavePending = s.slotUnit.leavePending := by
  simp only [State.gateOutcome]
  (repeat' split) <;> simp [KeptBase]

end Sys2Proof.Machine
end

