-- ==== Sys2Proof/Laws/Settled.lean ====
section
/-! SUPPORT. The end of an event: what `conclude` makes of a state, and when it changes nothing. -/

namespace Sys2Proof.Machine

@[simp] theorem mapSlots_get (f : SlotNo → SlotRecord → SlotRecord) (v : Vector SlotRecord 4) (i : SlotNo) :
    (mapSlots f v)[i.val] = f i v[i.val] := by
  match i with
  | 0 => rfl
  | 1 => rfl
  | 2 => rfl
  | 3 => rfl

theorem slotVector_ext {v w : Vector SlotRecord 4} (h : ∀ i : SlotNo, v[i.val] = w[i.val]) : v = w := by
  apply Vector.ext
  intro i hi
  exact h ⟨i, hi⟩

theorem mapSlots_eq_self {f : SlotNo → SlotRecord → SlotRecord} {v : Vector SlotRecord 4}
    (h : ∀ i : SlotNo, f i v[i.val] = v[i.val]) : mapSlots f v = v :=
  slotVector_ext fun i => by simp [h i]

@[simp] theorem State.setSlots_slot (s : State) (v : Vector SlotRecord 4) (i : SlotNo) :
    (s.setSlots v).slot i = v[i.val] := rfl

@[simp] theorem State.putSlot_slot (s : State) (i j : SlotNo) (r : SlotRecord) :
    (s.putSlot i r).slot j = if j = i then r else s.slot j := by
  simp only [State.putSlot, State.setSlots_slot, mapSlots_get]
  rfl

theorem SlotUnit.eta (u : SlotUnit) : { u with slots := u.slots } = u := rfl

theorem State.setSlots_self (s : State) : s.setSlots s.slotUnit.slots = s := rfl

theorem State.setHistory_self (s : State) : s.setHistory s.history = s := rfl

/-! What a slot record is refreshed from. -/

/-- The two states agree in everything a slot record follows. -/
structure SameSlotInputs (s t : State) : Prop where
  straps : t.straps = s.straps
  config : t.config = s.config
  mode : t.station.state = s.station.state
  wasIsolated : t.station.wasIsolated = s.station.wasIsolated
  wasMember : t.station.wasMember = s.station.wasMember
  replica : t.replica = s.replica
  leaving : t.slotUnit.leavePending = s.slotUnit.leavePending
  feedback : t.pins.feedback = s.pins.feedback
  line : t.shedHigh = s.shedHigh

theorem SameSlotInputs.refl (s : State) : SameSlotInputs s s := ⟨rfl, rfl, rfl, rfl, rfl, rfl, rfl, rfl, rfl⟩

theorem SameSlotInputs.enableRule {s t : State} (h : SameSlotInputs s t) (i : SlotNo)
    (hs : (t.slot i).state = (s.slot i).state) (hv : (t.slot i).values = (s.slot i).values)
    (hl : (t.slot i).latch = (s.slot i).latch) : t.enableRule i = s.enableRule i := by
  simp only [State.enableRule, State.part, State.mode, h.config, h.mode, h.line, h.wasIsolated, h.wasMember, h.leaving,
    hs, hv, hl]

theorem SameSlotInputs.reading {s t : State} (h : SameSlotInputs s t) (i : SlotNo) : t.reading i = s.reading i := by
  have hp : t.part i = s.part i := by simp only [State.part, h.config]
  have hf : t.pins.feedback[i.val] = s.pins.feedback[i.val] := by simp only [h.feedback]
  unfold State.reading
  rw [hp, hf]

theorem SameSlotInputs.ownClaim {s t : State} (h : SameSlotInputs s t) (i : SlotNo) : t.ownClaim i = s.ownClaim i := by
  simp only [State.ownClaim, State.ownKey, State.self, h.straps, h.replica]

theorem SameSlotInputs.orderedOff {s t : State} (h : SameSlotInputs s t) (i : SlotNo)
    (hs : (t.slot i).state = (s.slot i).state) : t.orderedOff i = s.orderedOff i := by
  simp only [State.orderedOff, h.ownClaim, hs]

theorem SameSlotInputs.offConditions {s t : State} (h : SameSlotInputs s t) (i : SlotNo)
    (hs : (t.slot i).state = (s.slot i).state) (hv : (t.slot i).values = (s.slot i).values)
    (hl : (t.slot i).latch = (s.slot i).latch) : t.offConditions i = s.offConditions i := by
  simp only [State.offConditions, h.enableRule i hs hv hl, h.reading, h.orderedOff i hs]

theorem SameSlotInputs.stuckCleared {s t : State} (h : SameSlotInputs s t) (i : SlotNo)
    (hs : (t.slot i).state = (s.slot i).state) : t.stuckCleared i = s.stuckCleared i := by
  simp only [State.stuckCleared, h.reading, h.ownClaim, hs]

theorem SameSlotInputs.unclaimedDraw {s t : State} (h : SameSlotInputs s t) (i : SlotNo)
    (hs : (t.slot i).state = (s.slot i).state) : t.unclaimedDraw i = s.unclaimedDraw i := by
  simp only [State.unclaimedDraw, h.reading, hs]

theorem State.refreshed_live (s : State) (i : SlotNo) (r : SlotRecord) (h : s.mode.live = true) :
    s.refreshed i r = { r with
      enable := s.enableRule i
      offWatch := s.offConditions i
      offDeadline := if s.offConditions i then
        (if r.offWatch then r.offDeadline else some (s.now + (s.part i).offDeadline)) else none
      retry := if s.stuckCleared i then r.retry else none
      unclaimed := s.unclaimedDraw i } := by
  unfold State.refreshed
  rw [if_pos h]

theorem State.refreshed_dead (s : State) (i : SlotNo) (r : SlotRecord) (h : s.mode.live = false) :
    s.refreshed i r = { r with enable := false, offWatch := false, offDeadline := none, settle := none, retry := none } := by
  unfold State.refreshed
  rw [if_neg (by simp [h])]

/-- A settled record of state s is settled in t, where t agrees in what the record follows. -/
theorem SameSlotInputs.refreshed_self {s t : State} (h : SameSlotInputs s t) (i : SlotNo) (r : SlotRecord)
    (hs : (t.slot i).state = (s.slot i).state) (hv : (t.slot i).values = (s.slot i).values)
    (hl' : (t.slot i).latch = (s.slot i).latch) (hr : s.refreshed i r = r) : t.refreshed i r = r := by
  have hm : t.mode = s.mode := h.mode
  cases hl : s.mode.live
  · rw [State.refreshed_dead s i r hl] at hr
    rw [State.refreshed_dead t i r (by rw [hm, hl]), hr]
  · rw [State.refreshed_live s i r hl] at hr
    rw [State.refreshed_live t i r (by rw [hm, hl]), h.enableRule i hs hv hl', h.offConditions i hs hv hl',
      h.stuckCleared i hs, h.unclaimedDraw i hs]
    cases hw : s.offConditions i
    · simpa [hw] using hr
    · have hr' := congrArg SlotRecord.offWatch hr
      simp only [hw] at hr'
      simp only [hw, ← hr', if_true] at hr ⊢
      exact hr

/-- A settled state stays settled where only what no slot follows changes. -/
theorem State.Settled.of_same {s t : State} (hs : s.Settled) (h : SameSlotInputs s t)
    (hslots : t.slotUnit.slots = s.slotUnit.slots) (hh : t.history.entries.length ≤ Config.historyCapacity) :
    t.Settled := by
  have hi (i : SlotNo) : t.slot i = s.slot i := by simp only [State.slot, hslots]
  refine ⟨fun i => ?_, hh⟩
  rw [hi i]
  exact h.refreshed_self i (s.slot i) (by rw [hi]) (by rw [hi]) (by rw [hi]) (hs.1 i)

theorem History.trim_of_le {h : History} (hh : h.entries.length ≤ Config.historyCapacity) : h.trim = h := by
  have : h.entries.length - Config.historyCapacity = 0 := by omega
  simp [History.trim, this]

theorem History.trim_length (h : History) : h.trim.entries.length ≤ Config.historyCapacity := by
  simp [History.trim]
  omega

/-- No unclaimed-draw episode begins in a settled state. -/
theorem State.Settled.episodes {s : State} (hs : s.Settled) : s.episodes = [] := by
  simp only [State.episodes, List.filter_eq_nil_iff]
  intro i _ hc
  have h := congrArg SlotRecord.unclaimed (hs.1 i)
  simp only [State.refreshed] at h
  simp only [Bool.and_eq_true, Bool.not_eq_true'] at hc
  obtain ⟨⟨hl, hu⟩, hn⟩ := hc
  rw [if_pos hl] at h
  simp only [hu, hn] at h
  exact Bool.noConfusion h

/-- The end of an event changes nothing in a settled state. -/
theorem State.Settled.conclude {s : State} (hs : s.Settled) : s.conclude = s := by
  have h1 : mapSlots s.refreshed s.slotUnit.slots = s.slotUnit.slots := mapSlots_eq_self fun i => hs.1 i
  have h2 : s.refreshSlots = s := by
    simp only [State.refreshSlots, hs.episodes, h1, List.foldl_nil, State.setSlots_self]
  simp only [State.conclude, h2, History.trim_of_le hs.2, State.setHistory_self]

theorem State.refreshed_state (s : State) (i : SlotNo) (r : SlotRecord) : (s.refreshed i r).state = r.state := by
  simp only [State.refreshed]
  split <;> rfl

theorem State.refreshed_values (s : State) (i : SlotNo) (r : SlotRecord) : (s.refreshed i r).values = r.values := by
  simp only [State.refreshed]
  split <;> rfl

theorem State.refreshed_latch (s : State) (i : SlotNo) (r : SlotRecord) : (s.refreshed i r).latch = r.latch := by
  simp only [State.refreshed]
  split <;> rfl

/-- Refreshing twice is refreshing once. -/
theorem State.refreshed_idem (s : State) (i : SlotNo) (r : SlotRecord) :
    s.refreshed i (s.refreshed i r) = s.refreshed i r := by
  cases hl : s.mode.live <;> cases hw : s.offConditions i <;> cases hc : s.stuckCleared i <;>
    simp [State.refreshed, hl, hw, hc]

/-- The slots after the end of an event. -/
theorem State.conclude_slot (s : State) (i : SlotNo) : s.conclude.slot i = s.refreshed i (s.slot i) := by
  have h := (foldl_capture_frame .unclaimedDraw Subject.slot s.episodes
    (s.setSlots (mapSlots s.refreshed s.slotUnit.slots))).2.2.2.2.2.2.1
  have h' : s.conclude.slotUnit = (s.setSlots (mapSlots s.refreshed s.slotUnit.slots)).slotUnit := h
  show s.conclude.slotUnit.slots[i.val] = _
  simp only [h']
  exact mapSlots_get s.refreshed s.slotUnit.slots i

theorem State.conclude_inputs (s : State) : SameSlotInputs s s.conclude := by
  constructor <;> simp [State.shedHigh, State.ownDrive]

/-- Every event leaves a settled state. -/
theorem State.conclude_settled (s : State) : s.conclude.Settled := by
  refine ⟨fun i => ?_, ?_⟩
  · rw [s.conclude_slot i]
    refine s.conclude_inputs.refreshed_self i _ ?_ ?_ ?_ (s.refreshed_idem i _)
    · rw [s.conclude_slot i, s.refreshed_state]
    · rw [s.conclude_slot i, s.refreshed_values]
    · rw [s.conclude_slot i, s.refreshed_latch]
  · exact History.trim_length _

theorem State.conclude_idem (s : State) : s.conclude.conclude = s.conclude := s.conclude_settled.conclude

/-! Updates that no slot follows. -/

theorem State.Settled.setLink {s : State} (hs : s.Settled) (v : LinkUnit) : (s.setLink v).Settled :=
  hs.of_same ⟨rfl, rfl, rfl, rfl, rfl, rfl, rfl, rfl, rfl⟩ rfl hs.2

theorem State.Settled.setPort {s : State} (hs : s.Settled) (v : Port) : (s.setPort v).Settled :=
  hs.of_same ⟨rfl, rfl, rfl, rfl, rfl, rfl, rfl, rfl, rfl⟩ rfl hs.2

theorem State.Settled.setMembers {s : State} (hs : s.Settled) (v : Membership) : (s.setMembers v).Settled :=
  hs.of_same ⟨rfl, rfl, rfl, rfl, rfl, rfl, rfl, rfl, rfl⟩ rfl hs.2

theorem State.Settled.setFault {s : State} (hs : s.Settled) (v : FaultUnit) : (s.setFault v).Settled :=
  hs.of_same ⟨rfl, rfl, rfl, rfl, rfl, rfl, rfl, rfl, rfl⟩ rfl hs.2

theorem State.Settled.setFreeCount {s : State} (hs : s.Settled) (v : Nat) : (s.setFreeCount v).Settled :=
  hs.of_same ⟨rfl, rfl, rfl, rfl, rfl, rfl, rfl, rfl, rfl⟩ rfl hs.2

theorem State.Settled.setPending {s : State} (hs : s.Settled) (v : List Instr) : (s.setPending v).Settled :=
  hs.of_same ⟨rfl, rfl, rfl, rfl, rfl, rfl, rfl, rfl, rfl⟩ rfl hs.2

theorem State.Settled.setHistory {s : State} (hs : s.Settled) {v : History}
    (h : v.entries.length ≤ Config.historyCapacity) : (s.setHistory v).Settled :=
  hs.of_same ⟨rfl, rfl, rfl, rfl, rfl, rfl, rfl, rfl, rfl⟩ rfl h

/-- A crank unit with the same hold. -/
theorem State.Settled.setCrank {s : State} (hs : s.Settled) {v : CrankUnit} (h : v.hold = s.crank.hold) :
    (s.setCrank v).Settled :=
  hs.of_same ⟨rfl, rfl, rfl, rfl, rfl, rfl, rfl, rfl, by simp [State.shedHigh, State.ownDrive, h]⟩ rfl hs.2

/-- A watch unit with the same pulse. -/
theorem State.Settled.setUnit {s : State} (hs : s.Settled) (second : Bool) {u : WatchUnit}
    (h : u.pulse.isSome = (s.unit second).pulse.isSome) : (s.setUnit second u).Settled := by
  have hl : (s.setUnit second u).shedHigh = s.shedHigh := by
    cases second <;> simp_all [State.setUnit, State.unit, State.shedHigh, State.ownDrive]
  refine hs.of_same ⟨?_, ?_, ?_, ?_, ?_, ?_, ?_, ?_, hl⟩ ?_ ?_ <;> cases second <;> first | rfl | exact hs.2

/-- One slot record changed, settled in its new place, in a way no other slot follows. -/
theorem State.Settled.putSlot {s : State} (hs : s.Settled) (i : SlotNo) {r : SlotRecord}
    (h : (s.putSlot i r).refreshed i r = r) : (s.putSlot i r).Settled := by
  refine ⟨fun j => ?_, hs.2⟩
  by_cases hj : j = i
  · subst hj
    simpa using h
  · have hk : (s.putSlot i r).slot j = s.slot j := by simp [hj]
    rw [hk]
    exact SameSlotInputs.refreshed_self (s := s) (t := s.putSlot i r) ⟨rfl, rfl, rfl, rfl, rfl, rfl, rfl, rfl, rfl⟩ j _
      (by rw [hk]) (by rw [hk]) (by rw [hk]) (hs.1 j)

/-! Time. -/

theorem State.advanceTo_now (s : State) (d : Nat) : (s.advanceTo d).now = max s.now d := by
  unfold State.advanceTo
  split
  · rename_i h
    exact (Nat.max_eq_left h).symm
  · rename_i h
    simp
    omega

/-- The passing of time changes a slot's hold time alone. -/
theorem State.advanceTo_slot (s : State) (d : Nat) (i : SlotNo) :
    (s.advanceTo d).slot i = { s.slot i with holdTime := ((s.advanceTo d).slot i).holdTime } := by
  unfold State.advanceTo
  split
  · rfl
  · simp only [State.setSlots, State.setNow, State.setSlotUnit, State.slot, mapSlots_get, heldFor]
    split <;> rfl

theorem State.advanceTo_inputs (s : State) (d : Nat) : SameSlotInputs s (s.advanceTo d) := by
  constructor <;> simp [State.shedHigh, State.ownDrive]

theorem State.refreshed_holdTime (s : State) (i : SlotNo) (r : SlotRecord) (n : Nat) :
    s.refreshed i { r with holdTime := n } = { s.refreshed i r with holdTime := n } := by
  simp only [State.refreshed]
  split <;> rfl

theorem State.Settled.advanceTo {s : State} (hs : s.Settled) (d : Nat) : (s.advanceTo d).Settled := by
  refine ⟨fun i => ?_, ?_⟩
  · have hi := s.advanceTo_slot d i
    have hst : ((s.advanceTo d).slot i).state = (s.slot i).state := by rw [hi]
    have hva : ((s.advanceTo d).slot i).values = (s.slot i).values := by rw [hi]
    have hla : ((s.advanceTo d).slot i).latch = (s.slot i).latch := by rw [hi]
    have := (s.advanceTo_inputs d).refreshed_self i (s.slot i) hst hva hla (hs.1 i)
    rw [hi, State.refreshed_holdTime, this]
  · simp [hs.2]

/-! Enables. -/

/-- A settled slot's enable is the rule's. -/
theorem State.Settled.enable {s : State} (hs : s.Settled) (i : SlotNo) : (s.slot i).enable = s.enableRule i := by
  have h := congrArg SlotRecord.enable (hs.1 i)
  simp only [State.refreshed] at h
  by_cases hl : s.mode.live = true
  · rw [if_pos hl] at h
    exact h.symm
  · rw [if_neg hl] at h
    simp only [Bool.not_eq_true] at hl
    simp [← h, State.enableRule, hl]

end Sys2Proof.Machine
end

