-- ==== Sys2Proof/Laws/Mailbox.lean ====
section
/-! SUPPORT. The mailbox: a command's record is read back as the command, and a free mailbox takes it at once. -/

namespace Sys2Proof.Machine

theorem halfOf_halfBytes (h : Half) : halfOf (h.extractLsb' 8 8) (h.extractLsb' 0 8) = h := by
  unfold halfOf
  apply BitVec.eq_of_toNat_eq
  simp only [BitVec.toNat_append, BitVec.extractLsb'_toNat]
  rw [← Nat.shiftLeft_add_eq_or_of_lt (by omega), Nat.shiftLeft_eq, Nat.shiftRight_eq_div_pow, Nat.shiftRight_eq_div_pow]
  omega

/-- Every row of the mailbox writes its command's record. -/
theorem exec_row (c : Command) (s : State) : exec c.row s = .next (s.give c) := by cases c <;> rfl

theorem Command.ofWrite_command (c : Command) (h : c.sized) : (CommandRecord.ofWrite c.bytes).command = .ok c := by
  cases c with
  | echo bytes =>
    simp only [Command.sized, Command.bytes, List.length_cons] at h
    simp [CommandRecord.ofWrite, CommandRecord.command, Command.bytes, Command.ofBytes,
      List.take_of_length_le (by omega : bytes.length ≤ 23), show bytes.length < 24 by omega,
      show bytes.length ≤ 23 by omega]
  | setWatch unit control selector compare mask reload =>
    simp [CommandRecord.ofWrite, CommandRecord.command, Command.bytes, Command.ofBytes, halfBytes, halfOf_halfBytes]
  | announceBudget ceiling reserve =>
    simp [CommandRecord.ofWrite, CommandRecord.command, Command.bytes, Command.ofBytes, halfBytes, halfOf_halfBytes]
  | _ => rfl

/-- The state that a taken command acts on: its record stands in the buffer. -/
def State.holding (s : State) (c : Command) : State :=
  s.setPort { s.port with command := some (.ofWrite c.bytes) }

/-- A free mailbox takes a command at once. -/
theorem State.give_free (s : State) (c : Command) (h : s.MailboxFree) (hc : c.sized) :
    s.give c = ((s.holding c).perform c).placed.conclude := by
  simp only [State.give, State.offerRecord, State.takeAtRise, State.engineBusy, h.awake, h.noCommand,
    Option.isSome_none, Bool.false_and, Bool.false_eq_true, if_false, State.takeCommand, State.setPort_port,
    h.noResponse, State.runRecord, c.ofWrite_command hc, State.holding]

/-- R167: a part held in reset answers no transfer. -/
theorem State.give_reset (s : State) (c : Command) (h : s.resetLow = true) : s.give c = s := by simp [State.give, h]

theorem State.transfer_reset (s : State) (span : Span) (shifted : List Byte) (h : s.resetLow = true) :
    s.transfer span shifted = s := by simp [State.transfer, h]

/-- R87: with no change waiting for its end, an application is the frame applied. -/
theorem State.application_quiet (s : State) (kind : FrameKind) (h : s.link.late = []) :
    s.application kind = s.applyKind kind := by simp [State.application, h]

/-- R87: the changes that wait take effect at the end of the application. -/
theorem State.application_late (s : State) (kind : FrameKind) (hh : s.headIs kind = true) (h : s.link.late ≠ []) :
    s.application kind = (s.applyKind kind).makeLate := by simp [State.application, hh, h]

/-- R159: with no command due, an application row is the application. -/
theorem State.applyRow_alone (s : State) (kind : FrameKind) (h : s.port.due = false) :
    s.applyRow kind = s.application kind := by simp [State.applyRow, h]

/-- R159: a command that is due is taken at the end of the application. -/
theorem State.applyRow_due (s : State) (kind : FrameKind) (hh : s.headIs kind = true) (h : s.port.due = true) :
    s.applyRow kind = (s.application kind).takeDue := by simp [State.applyRow, hh, h]

/-- Every row that applies a frame is the application row of its kind. -/
theorem exec_frameRow (kind : FrameKind) (s : State) : exec (frameRow kind) s = .next (s.applyRow kind) := by
  cases kind <;> rfl

/-- R158, R159: at a rise with the engine idle the condition takes the command at once. -/
theorem State.takeAtRise_idle (s : State) (applying : Bool) (h : s.engineBusy applying = false) :
    s.takeAtRise applying = s.takeCommand := by simp [State.takeAtRise, h]

/-- The row of a command whose record fits, at a free mailbox. -/
theorem exec_row_free (c : Command) (s : State) (h : s.MailboxFree) (hc : c.sized) :
    exec c.row s = .next ((s.holding c).perform c).placed.conclude := by
  rw [exec_row, s.give_free c h hc]

/-- A response alone changes nothing that a slot follows. -/
theorem State.Settled.responds {s : State} (hs : s.Settled) (code : ResponseCode) (body : List Byte) :
    (s.responds code body).Settled :=
  hs.of_same ⟨rfl, rfl, rfl, rfl, rfl, rfl, rfl, rfl, rfl⟩ rfl hs.2

theorem State.holding_responds (s : State) (c : Command) (code : ResponseCode) (body : List Byte) :
    ((s.holding c).responds code body) = s.responds code body := rfl

/-! What a waiting command does not change. -/

@[simp] theorem State.holding_pending (s : State) (c : Command) : (s.holding c).pending = s.pending := rfl
@[simp] theorem State.holding_resetLow (s : State) (c : Command) : (s.holding c).resetLow = s.resetLow := rfl
@[simp] theorem State.holding_now (s : State) (c : Command) : (s.holding c).now = s.now := rfl
@[simp] theorem State.holding_straps (s : State) (c : Command) : (s.holding c).straps = s.straps := rfl
@[simp] theorem State.holding_config (s : State) (c : Command) : (s.holding c).config = s.config := rfl
@[simp] theorem State.holding_station (s : State) (c : Command) : (s.holding c).station = s.station := rfl
@[simp] theorem State.holding_replica (s : State) (c : Command) : (s.holding c).replica = s.replica := rfl
@[simp] theorem State.holding_link (s : State) (c : Command) : (s.holding c).link = s.link := rfl
@[simp] theorem State.holding_members (s : State) (c : Command) : (s.holding c).members = s.members := rfl
@[simp] theorem State.holding_crank (s : State) (c : Command) : (s.holding c).crank = s.crank := rfl
@[simp] theorem State.holding_slotUnit (s : State) (c : Command) : (s.holding c).slotUnit = s.slotUnit := rfl
@[simp] theorem State.holding_w0 (s : State) (c : Command) : (s.holding c).w0 = s.w0 := rfl
@[simp] theorem State.holding_w1 (s : State) (c : Command) : (s.holding c).w1 = s.w1 := rfl
@[simp] theorem State.holding_fault (s : State) (c : Command) : (s.holding c).fault = s.fault := rfl
@[simp] theorem State.holding_history (s : State) (c : Command) : (s.holding c).history = s.history := rfl
@[simp] theorem State.holding_pins (s : State) (c : Command) : (s.holding c).pins = s.pins := rfl
@[simp] theorem State.holding_freeCount (s : State) (c : Command) : (s.holding c).freeCount = s.freeCount := rfl
@[simp] theorem State.holding_mode (s : State) (c : Command) : (s.holding c).mode = s.mode := rfl
@[simp] theorem State.holding_self (s : State) (c : Command) : (s.holding c).self = s.self := rfl
@[simp] theorem State.holding_epoch (s : State) (c : Command) : (s.holding c).epoch = s.epoch := rfl
@[simp] theorem State.holding_stamp (s : State) (c : Command) : (s.holding c).stamp = s.stamp := rfl
@[simp] theorem State.holding_shedHigh (s : State) (c : Command) : (s.holding c).shedHigh = s.shedHigh := rfl
@[simp] theorem State.holding_generalRoom (s : State) (c : Command) : (s.holding c).generalRoom = s.generalRoom := rfl
@[simp] theorem State.holding_urgentRoom (s : State) (c : Command) : (s.holding c).urgentRoom = s.urgentRoom := rfl
@[simp] theorem State.holding_mayQueue (s : State) (c : Command) : (s.holding c).mayQueue = s.mayQueue := rfl
@[simp] theorem State.holding_namedCrank (s : State) (c : Command) : (s.holding c).namedCrank = s.namedCrank := rfl
@[simp] theorem State.holding_namedSupply (s : State) (c : Command) : (s.holding c).namedSupply = s.namedSupply := rfl
@[simp] theorem State.holding_phaseRecord (s : State) (c : Command) : (s.holding c).phaseRecord = s.phaseRecord := rfl
@[simp] theorem State.holding_attempts (s : State) (c : Command) : (s.holding c).attempts = s.attempts := rfl
@[simp] theorem State.holding_failedAttempts (s : State) (c : Command) :
    (s.holding c).failedAttempts = s.failedAttempts := rfl
@[simp] theorem State.holding_boundByCrank (s : State) (c : Command) :
    (s.holding c).boundByCrank = s.boundByCrank := rfl
@[simp] theorem State.holding_replicaPage (s : State) (c : Command) : (s.holding c).replicaPage = s.replicaPage := rfl
@[simp] theorem State.holding_epochAndDigest (s : State) (c : Command) :
    (s.holding c).epochAndDigest = s.epochAndDigest := rfl
@[simp] theorem State.holding_pageState (s : State) (c : Command) : (s.holding c).pageState = s.pageState := rfl
@[simp] theorem State.holding_pageLink (s : State) (c : Command) : (s.holding c).pageLink = s.pageLink := rfl
@[simp] theorem State.holding_pageCrank (s : State) (c : Command) : (s.holding c).pageCrank = s.pageCrank := rfl
@[simp] theorem State.holding_joinBody (s : State) (c : Command) : (s.holding c).joinBody = s.joinBody := rfl
@[simp] theorem State.holding_part (s : State) (c : Command) (i : SlotNo) : (s.holding c).part i = s.part i := rfl
@[simp] theorem State.holding_slot (s : State) (c : Command) (i : SlotNo) : (s.holding c).slot i = s.slot i := rfl
@[simp] theorem State.holding_peer (s : State) (c : Command) (n : Station) : (s.holding c).peer n = s.peer n := rfl
@[simp] theorem State.holding_unit (s : State) (c : Command) (second : Bool) :
    (s.holding c).unit second = s.unit second := rfl
@[simp] theorem State.holding_claimUnsent (s : State) (c : Command) (i : SlotNo) :
    (s.holding c).claimUnsent i = s.claimUnsent i := rfl
@[simp] theorem State.holding_phaseIs (s : State) (c : Command) (ps : List Phase) :
    (s.holding c).phaseIs ps = s.phaseIs ps := rfl
@[simp] theorem State.holding_phaseUnsent (s : State) (c : Command) (p : Phase) :
    (s.holding c).phaseUnsent p = s.phaseUnsent p := rfl
@[simp] theorem State.holding_pageSlot (s : State) (c : Command) (i : SlotNo) :
    (s.holding c).pageSlot i = s.pageSlot i := rfl
@[simp] theorem State.holding_page (s : State) (c : Command) (n : Nat) : (s.holding c).page n = s.page n := rfl
@[simp] theorem State.holding_peerBytes (s : State) (c : Command) (n : Station) :
    (s.holding c).peerBytes n = s.peerBytes n := rfl
@[simp] theorem State.holding_rosterBytes (s : State) (c : Command) (n : Station) :
    (s.holding c).rosterBytes n = s.rosterBytes n := rfl
@[simp] theorem State.holding_ownClaim (s : State) (c : Command) (i : SlotNo) :
    (s.holding c).ownClaim i = s.ownClaim i := rfl
@[simp] theorem State.holding_port_response (s : State) (c : Command) :
    (s.holding c).port.response = s.port.response := rfl
@[simp] theorem State.holding_port_overwrite (s : State) (c : Command) :
    (s.holding c).port.overwrite = s.port.overwrite := rfl
@[simp] theorem State.holding_port_notices (s : State) (c : Command) :
    (s.holding c).port.notices = s.port.notices := rfl
@[simp] theorem State.holding_port_noticeLost (s : State) (c : Command) :
    (s.holding c).port.noticeLost = s.port.noticeLost := rfl
@[simp] theorem State.holding_port_sdo (s : State) (c : Command) : (s.holding c).port.sdo = s.port.sdo := rfl
@[simp] theorem State.holding_port_select (s : State) (c : Command) :
    (s.holding c).port.select = s.port.select := rfl
@[simp] theorem State.holding_port_due (s : State) (c : Command) : (s.holding c).port.due = s.port.due := rfl

/-! What a response does not change. -/

@[simp] theorem State.responds_pending (s : State) (code : ResponseCode) (body : List Byte) :
    (s.responds code body).pending = s.pending := rfl
@[simp] theorem State.responds_resetLow (s : State) (code : ResponseCode) (body : List Byte) :
    (s.responds code body).resetLow = s.resetLow := rfl
@[simp] theorem State.responds_now (s : State) (code : ResponseCode) (body : List Byte) :
    (s.responds code body).now = s.now := rfl
@[simp] theorem State.responds_straps (s : State) (code : ResponseCode) (body : List Byte) :
    (s.responds code body).straps = s.straps := rfl
@[simp] theorem State.responds_config (s : State) (code : ResponseCode) (body : List Byte) :
    (s.responds code body).config = s.config := rfl
@[simp] theorem State.responds_station (s : State) (code : ResponseCode) (body : List Byte) :
    (s.responds code body).station = s.station := rfl
@[simp] theorem State.responds_replica (s : State) (code : ResponseCode) (body : List Byte) :
    (s.responds code body).replica = s.replica := rfl
@[simp] theorem State.responds_link (s : State) (code : ResponseCode) (body : List Byte) :
    (s.responds code body).link = s.link := rfl
@[simp] theorem State.responds_members (s : State) (code : ResponseCode) (body : List Byte) :
    (s.responds code body).members = s.members := rfl
@[simp] theorem State.responds_crank (s : State) (code : ResponseCode) (body : List Byte) :
    (s.responds code body).crank = s.crank := rfl
@[simp] theorem State.responds_slotUnit (s : State) (code : ResponseCode) (body : List Byte) :
    (s.responds code body).slotUnit = s.slotUnit := rfl
@[simp] theorem State.responds_w0 (s : State) (code : ResponseCode) (body : List Byte) :
    (s.responds code body).w0 = s.w0 := rfl
@[simp] theorem State.responds_w1 (s : State) (code : ResponseCode) (body : List Byte) :
    (s.responds code body).w1 = s.w1 := rfl
@[simp] theorem State.responds_fault (s : State) (code : ResponseCode) (body : List Byte) :
    (s.responds code body).fault = s.fault := rfl
@[simp] theorem State.responds_history (s : State) (code : ResponseCode) (body : List Byte) :
    (s.responds code body).history = s.history := rfl
@[simp] theorem State.responds_pins (s : State) (code : ResponseCode) (body : List Byte) :
    (s.responds code body).pins = s.pins := rfl
@[simp] theorem State.responds_freeCount (s : State) (code : ResponseCode) (body : List Byte) :
    (s.responds code body).freeCount = s.freeCount := rfl
@[simp] theorem State.responds_mode (s : State) (code : ResponseCode) (body : List Byte) :
    (s.responds code body).mode = s.mode := rfl
@[simp] theorem State.responds_self (s : State) (code : ResponseCode) (body : List Byte) :
    (s.responds code body).self = s.self := rfl
@[simp] theorem State.responds_shedHigh (s : State) (code : ResponseCode) (body : List Byte) :
    (s.responds code body).shedHigh = s.shedHigh := rfl
@[simp] theorem State.responds_slot (s : State) (code : ResponseCode) (body : List Byte) (i : SlotNo) :
    (s.responds code body).slot i = s.slot i := rfl

/-- What taking leaves, as a response of the state it reached. -/
theorem Taken.placed_eq (t : Taken) : t.placed = t.state.responds t.reply.code t.reply.body := rfl

/-- The row of a command whose taking answers t and leaves a settled state. -/
theorem State.Open.exec_eq {s : State} (h : s.Open) (c : Command) (hc : c.sized) {t : State} {code : ResponseCode}
    {body : List Byte} (hp : (s.holding c).perform c = ⟨t, ⟨code, body⟩⟩) (ht : t.Settled) :
    exec c.row s = .next (t.responds code body) := by
  rw [exec_row_free c s h.free hc, hp, Taken.placed_eq]
  simp only [(ht.responds code body).conclude]

/-- The row of a command whose taking answers t. -/
theorem State.Open.exec_concludes {s : State} (h : s.Open) (c : Command) (hc : c.sized) {t : State} {code : ResponseCode}
    {body : List Byte} (hp : (s.holding c).perform c = ⟨t, ⟨code, body⟩⟩) :
    exec c.row s = .next (t.responds code body).conclude := by
  rw [exec_row_free c s h.free hc, hp, Taken.placed_eq]

theorem State.Settled.holding {s : State} (hs : s.Settled) (c : Command) : (s.holding c).Settled :=
  State.Settled.setPort hs _

theorem State.Settled.setConfig {s : State} (hs : s.Settled) (hm : s.mode.live = false) (v : ConfigRecord) :
    (s.setConfig v).Settled := by
  refine ⟨fun i => ?_, hs.2⟩
  have h := hs.1 i
  rw [State.refreshed_dead _ _ _ hm] at h
  rw [State.refreshed_dead _ _ _ (by exact hm)]
  exact h

end Sys2Proof.Machine
end

