-- ==== Sys2Proof/Laws/Steady.lean ====
section
/-! SUPPORT. What no operation of the station does to the fault record and to its queues: a locked record stays, and no lane
or queue that is within its capacity leaves it. One lemma for each operation; `b` is the state the event began in. -/

namespace Sys2Proof.Machine

/-- From b to s a locked fault record has not changed, and each queue within its capacity has stayed so. -/
structure Steady (b s : State) : Prop where
  fault : FaultKept b s
  urgent : b.link.urgent.length ≤ Config.urgentCapacity → s.link.urgent.length ≤ Config.urgentCapacity
  general : b.link.general.length ≤ Config.generalCapacity → s.link.general.length ≤ Config.generalCapacity
  inbound : b.link.inbound.length ≤ Config.inboundCapacity → s.link.inbound.length ≤ Config.inboundCapacity
  notices : b.port.notices.length ≤ Config.noticeCapacity → s.port.notices.length ≤ Config.noticeCapacity

theorem Steady.refl (s : State) : Steady s s := ⟨fun h => ⟨h, rfl⟩, id, id, id, id⟩

theorem Steady.trans {a b c : State} (h : Steady a b) (k : Steady b c) : Steady a c :=
  ⟨fun l => ⟨(k.fault (h.fault l).1).1, (k.fault (h.fault l).1).2.trans (h.fault l).2⟩,
    fun l => k.urgent (h.urgent l), fun l => k.general (h.general l), fun l => k.inbound (h.inbound l),
    fun l => k.notices (h.notices l)⟩

/-- What leaves the fault unit, the lanes and the queues alone is steady. -/
theorem Steady.of_eq {b s t : State} (h : Steady b s) (hf : t.fault = s.fault) (hu : t.link.urgent = s.link.urgent)
    (hg : t.link.general = s.link.general) (hi : t.link.inbound = s.link.inbound)
    (hn : t.port.notices = s.port.notices) : Steady b t :=
  ⟨fun l => by rw [hf]; exact h.fault l, fun l => by rw [hu]; exact h.urgent l, fun l => by rw [hg]; exact h.general l,
    fun l => by rw [hi]; exact h.inbound l, fun l => by rw [hn]; exact h.notices l⟩

theorem Steady.foldl {α : Type} {b : State} {f : State → α → State} (hf : ∀ s a, Steady b s → Steady b (f s a))
    (l : List α) (s : State) (h : Steady b s) : Steady b (l.foldl f s) := by
  induction l generalizing s with
  | nil => exact h
  | cons a l ih => exact ih _ (hf s a h)

theorem withdrawFrom_length (inTx : Bool) (p : Queued → Bool) (lane : List Queued) :
    (withdrawFrom inTx p lane).length ≤ lane.length := by
  unfold withdrawFrom
  split
  · simp only [List.length_cons]
    exact Nat.succ_le_succ (List.length_filter_le _ _)
  · exact List.length_filter_le _ _

@[simp] theorem State.setSlots_steady {b s : State} (h : Steady b s) (v : Vector SlotRecord 4) :
    Steady b (s.setSlots v) := by
  exact h.of_eq (by simp) (by simp) (by simp) (by simp) (by simp)

@[simp] theorem State.setPending_steady {b s : State} (h : Steady b s) (v : List Instr) :
    Steady b (s.setPending v) := by
  exact h.of_eq rfl rfl rfl rfl rfl

@[simp] theorem State.setNow_steady {b s : State} (h : Steady b s) (v : Nat) : Steady b (s.setNow v) := by
  exact h.of_eq rfl rfl rfl rfl rfl

@[simp] theorem State.setConfig_steady {b s : State} (h : Steady b s) (v : ConfigRecord) :
    Steady b (s.setConfig v) := by
  exact h.of_eq rfl rfl rfl rfl rfl

@[simp] theorem State.setStation_steady {b s : State} (h : Steady b s) (v : StationUnit) :
    Steady b (s.setStation v) := by
  exact h.of_eq rfl rfl rfl rfl rfl

@[simp] theorem State.setReplica_steady {b s : State} (h : Steady b s) (v : Option Replica) :
    Steady b (s.setReplica v) := by
  exact h.of_eq rfl rfl rfl rfl rfl

@[simp] theorem State.setMembers_steady {b s : State} (h : Steady b s) (v : Membership) :
    Steady b (s.setMembers v) := by
  exact h.of_eq rfl rfl rfl rfl rfl

@[simp] theorem State.setCrank_steady {b s : State} (h : Steady b s) (v : CrankUnit) : Steady b (s.setCrank v) := by
  exact h.of_eq rfl rfl rfl rfl rfl

@[simp] theorem State.setSlotUnit_steady {b s : State} (h : Steady b s) (v : SlotUnit) :
    Steady b (s.setSlotUnit v) := by
  exact h.of_eq rfl rfl rfl rfl rfl

@[simp] theorem State.setW0_steady {b s : State} (h : Steady b s) (v : WatchUnit) : Steady b (s.setW0 v) := by
  exact h.of_eq rfl rfl rfl rfl rfl

@[simp] theorem State.setW1_steady {b s : State} (h : Steady b s) (v : WatchUnit) : Steady b (s.setW1 v) := by
  exact h.of_eq rfl rfl rfl rfl rfl

@[simp] theorem State.setHistory_steady {b s : State} (h : Steady b s) (v : History) : Steady b (s.setHistory v) := by
  exact h.of_eq rfl rfl rfl rfl rfl

@[simp] theorem State.setPins_steady {b s : State} (h : Steady b s) (v : Pins) : Steady b (s.setPins v) := by
  exact h.of_eq rfl rfl rfl rfl rfl

@[simp] theorem State.setFreeCount_steady {b s : State} (h : Steady b s) (v : Nat) : Steady b (s.setFreeCount v) := by
  exact h.of_eq rfl rfl rfl rfl rfl

@[simp] theorem State.putSlot_steady {b s : State} (h : Steady b s) (i : SlotNo) (r : SlotRecord) :
    Steady b (s.putSlot i r) := by
  exact h.of_eq (by simp) (by simp) (by simp) (by simp) (by simp)

@[simp] theorem State.advanceTo_steady {b s : State} (h : Steady b s) (d : Nat) : Steady b (s.advanceTo d) := by
  exact h.of_eq (by simp) (by simp) (by simp) (by simp) (by simp)

@[simp] theorem State.record_steady {b s : State} (h : Steady b s) (e : HistEvent) : Steady b (s.record e) := by
  exact h.of_eq (by simp) (by simp) (by simp) (by simp) (by simp)

@[simp] theorem State.captureQuiet_steady {b s : State} (h : Steady b s) (k : FaultKind) (u : Subject) (f : Option FrameKind) :
    Steady b (s.captureQuiet k u f) := by
  refine ⟨fun l => ?_, by simpa using h.urgent, by simpa using h.general, by simpa using h.inbound, by simpa using h.notices⟩
  have hl := (h.fault l).1
  simp [State.captureQuiet, State.record, FaultUnit.take, hl, (h.fault l).2]

@[simp] theorem State.post_steady {b s : State} (h : Steady b s) (c : NoticeContent) : Steady b (s.post c) := by
  unfold State.post
  split
  · rename_i hr
    refine ⟨by simpa [FaultKept] using h.fault, h.urgent, h.general, h.inbound, fun _ => ?_⟩
    simpa using hr
  · exact State.captureQuiet_steady (s := s.setPort { s.port with noticeLost := true }) (h.of_eq rfl rfl rfl rfl rfl) _ _ _

@[simp] theorem State.capture_steady {b s : State} (h : Steady b s) (k : FaultKind) (u : Subject) (f : Option FrameKind) :
    Steady b (s.capture k u f) := by
  simp only [State.capture]
  simp (maxDischargeDepth := 40) [*]

@[simp] theorem State.badCheck_steady {b s : State} (h : Steady b s) : Steady b (s.badCheck) := by
  unfold State.badCheck
  exact State.capture_steady (s := s.setFault { s.fault with badChecks := Nat.min 65535 (s.fault.badChecks + 1) })
    ⟨h.fault, h.urgent, h.general, h.inbound, h.notices⟩ _ _ _

@[simp] theorem State.pushUrgent_steady {b s : State} (h : Steady b s) (hr : s.urgentRoom = true) (q : Body) :
    Steady b (s.pushUrgent q) := by
  refine ⟨h.fault, fun _ => ?_, h.general, h.inbound, h.notices⟩
  simp only [State.urgentRoom, decide_eq_true_eq] at hr
  simp [State.pushUrgent]
  omega

@[simp] theorem State.pushGeneral_steady {b s : State} (h : Steady b s) (hr : s.generalRoom = true) (q : Queued) :
    Steady b (s.pushGeneral q) := by
  refine ⟨h.fault, h.urgent, fun _ => ?_, h.inbound, h.notices⟩
  simp only [State.generalRoom, decide_eq_true_eq] at hr
  simp [State.pushGeneral]
  omega

@[simp] theorem State.pushInbound_steady {b s : State} (h : Steady b s) (hr : s.inboundRoom = true) (f : Frame) :
    Steady b (s.pushInbound f) := by
  refine ⟨h.fault, h.urgent, h.general, fun _ => ?_, h.notices⟩
  simp only [State.inboundRoom, decide_eq_true_eq] at hr
  simp [State.pushInbound]
  omega

@[simp] theorem State.autoUrgent_steady {b s : State} (h : Steady b s) (q : Body) : Steady b (s.autoUrgent q) := by
  simp only [State.autoUrgent]
  (repeat' split) <;> simp (maxDischargeDepth := 40) [*]

@[simp] theorem State.autoGeneral_steady {b s : State} (h : Steady b s) (q : Queued) : Steady b (s.autoGeneral q) := by
  simp only [State.autoGeneral]
  (repeat' split) <;> simp (maxDischargeDepth := 40) [*]

@[simp] theorem State.withdrawGeneral_steady {b s : State} (h : Steady b s) (p : Queued → Bool) :
    Steady b (s.withdrawGeneral p) := by
  exact ⟨h.fault, h.urgent, fun l => (withdrawFrom_length _ _ _).trans (h.general l), h.inbound, h.notices⟩

@[simp] theorem State.withdrawUrgent_steady {b s : State} (h : Steady b s) (p : Queued → Bool) :
    Steady b (s.withdrawUrgent p) := by
  exact ⟨h.fault, fun l => (withdrawFrom_length _ _ _).trans (h.urgent l), h.general, h.inbound, h.notices⟩

@[simp] theorem State.latchSlots_steady {b s : State} (h : Steady b s) : Steady b (s.latchSlots) := by
  exact h.of_eq (by simp) (by simp) (by simp) (by simp) (by simp)

@[simp] theorem State.clearLatches_steady {b s : State} (h : Steady b s) : Steady b (s.clearLatches) := by
  exact h.of_eq (by simp) (by simp) (by simp) (by simp) (by simp)

@[simp] theorem State.noteFall_steady {b s : State} (h : Steady b s) : Steady b (s.noteFall) := by
  exact h.of_eq (by simp) (by simp) (by simp) (by simp) (by simp)

@[simp] theorem State.noteRise_steady {b s : State} (h : Steady b s) : Steady b (s.noteRise) := by
  exact h.of_eq (by simp) (by simp) (by simp) (by simp) (by simp)

@[simp] theorem State.setUnit_steady {b s : State} (h : Steady b s) (second : Bool) (u : WatchUnit) :
    Steady b (s.setUnit second u) := by
  cases second <;> exact h.of_eq rfl rfl rfl rfl rfl

@[simp] theorem State.pullShed_steady {b s : State} (h : Steady b s) (second : Bool) :
    Steady b (s.pullShed second) := by
  simp only [State.pullShed]
  (repeat' split) <;> simp (maxDischargeDepth := 40) [*]

@[simp] theorem State.freeze_steady {b s : State} (h : Steady b s) : Steady b (s.freeze) := by
  simp only [State.freeze]
  simp (maxDischargeDepth := 40) [*]

@[simp] theorem State.armSecond_steady {b s : State} (h : Steady b s) : Steady b (s.armSecond) := by
  simp only [State.armSecond]
  (repeat' split) <;> simp (maxDischargeDepth := 40) [*]

@[simp] theorem State.fire_steady {b s : State} (h : Steady b s) (second : Bool) (v : EvalValue) :
    Steady b (s.fire second v) := by
  simp only [State.fire]
  (repeat' split) <;> simp (maxDischargeDepth := 40) [*]

@[simp] theorem State.evaluate_steady {b s : State} (h : Steady b s) (second : Bool) (o : Option EvalValue) :
    Steady b (s.evaluate second o).1 := by
  simp only [State.evaluate]
  (repeat' split) <;> simp (maxDischargeDepth := 40) [*]

@[simp] theorem State.offer_steady {b s : State} (h : Steady b s) (a c : Bool) (v : WatchSource → Option EvalValue) :
    Steady b (s.offer a c v) := by
  simp only [State.offer]
  (repeat' split) <;> simp (maxDischargeDepth := 40) [*]

@[simp] theorem State.watchEvent_steady {b s : State} (h : Steady b s) (v : WatchSource → Option EvalValue) :
    Steady b (s.watchEvent v) := by
  simp only [State.watchEvent]
  (repeat' split) <;> simp (maxDischargeDepth := 40) [*]

@[simp] theorem State.edgeFrom_steady {b s : State} (h : Steady b s) (w : Bool) : Steady b (s.edgeFrom w) := by
  simp only [State.edgeFrom]
  (repeat' split) <;> simp (maxDischargeDepth := 40) [*]

@[simp] theorem State.mirrorSlot_steady {b s : State} (h : Steady b s) (i : SlotNo) : Steady b (s.mirrorSlot i) := by
  simp only [State.mirrorSlot]
  simp (maxDischargeDepth := 40) [*]

@[simp] theorem State.postSlot_steady {b s : State} (h : Steady b s) (i : SlotNo) (n : Option Nat) (c : SlotCause) :
    Steady b (s.postSlot i n c) := by
  simp only [State.postSlot]
  simp (maxDischargeDepth := 40) [*]

@[simp] theorem State.postCause_steady {b s : State} (h : Steady b s) (i : SlotNo) (c : SlotCause) :
    Steady b (s.postCause i c) := by
  simp only [State.postCause]
  simp (maxDischargeDepth := 40) [*]

@[simp] theorem State.ownTransition_steady {b s : State} (h : Steady b s) (c : SlotCause) (t : Transition) :
    Steady b (s.ownTransition c t) := by
  simp only [State.ownTransition]
  (repeat' split) <;> simp (maxDischargeDepth := 40) [*]

@[simp] theorem State.releaseAgain_steady {b s : State} (h : Steady b s) (i : SlotNo) :
    Steady b (s.releaseAgain i) := by
  simp only [State.releaseAgain]
  (repeat' split) <;> simp (maxDischargeDepth := 40) [*]

@[simp] theorem State.releasesAgain_steady {b s : State} (h : Steady b s) : Steady b (s.releasesAgain) := by
  exact Steady.foldl (fun _ a k => State.releaseAgain_steady k a) _ _ h

@[simp] theorem State.testStuckClear_steady {b s : State} (h : Steady b s) (i : SlotNo) :
    Steady b (s.testStuckClear i) := by
  simp only [State.testStuckClear]
  (repeat' split) <;> simp (maxDischargeDepth := 40) [*]

@[simp] theorem State.testStuckClears_steady {b s : State} (h : Steady b s) : Steady b (s.testStuckClears) := by
  exact Steady.foldl (fun _ a k => State.testStuckClear_steady k a) _ _ h

@[simp] theorem State.refreshSlots_steady {b s : State} (h : Steady b s) : Steady b (s.refreshSlots) := by
  exact Steady.foldl (fun _ a k => State.capture_steady k _ _ _) _ _ (State.setSlots_steady h _)

@[simp] theorem State.conclude_steady {b s : State} (h : Steady b s) : Steady b (s.conclude) := by
  simp only [State.conclude]
  simp (maxDischargeDepth := 40) [*]

@[simp] theorem State.gateTimers_steady {b s : State} (h : Steady b s) (k : Option Key) (n : Nat) :
    Steady b (s.gateTimers k n) := by
  exact h.of_eq (by simp) (by simp) (by simp) (by simp) (by simp)

@[simp] theorem State.postPhase_steady {b s : State} (h : Steady b s) (c : PhaseCause) : Steady b (s.postPhase c) := by
  simp only [State.postPhase]
  simp (maxDischargeDepth := 40) [*]

@[simp] theorem State.toIdle_steady {b s : State} (h : Steady b s) : Steady b (s.toIdle) := by
  simp only [State.toIdle]
  simp (maxDischargeDepth := 40) [*]

@[simp] theorem State.abandon_steady {b s : State} (h : Steady b s) : Steady b (s.abandon) := by
  simp only [State.abandon]
  (repeat' split) <;> simp (maxDischargeDepth := 40) [*]

@[simp] theorem State.checkAbandon_steady {b s : State} (h : Steady b s) : Steady b (s.checkAbandon) := by
  simp only [State.checkAbandon]
  (repeat' split) <;> simp (maxDischargeDepth := 40) [*]

@[simp] theorem State.startLockout_steady {b s : State} (h : Steady b s) : Steady b (s.startLockout) := by
  simp only [State.startLockout]
  simp (maxDischargeDepth := 40) [*]

@[simp] theorem State.checkLockout_steady {b s : State} (h : Steady b s) : Steady b (s.checkLockout) := by
  simp only [State.checkLockout]
  (repeat' split) <;> simp (maxDischargeDepth := 40) [*]

@[simp] theorem State.postGo_steady {b s : State} (h : Steady b s) (r : Replica) : Steady b (s.postGo r) := by
  simp only [State.postGo]
  simp (maxDischargeDepth := 40) [*]

@[simp] theorem State.startSettle_steady {b s : State} (h : Steady b s) : Steady b (s.startSettle) := by
  simp only [State.startSettle]
  simp (maxDischargeDepth := 40) [*]

@[simp] theorem State.crankLoaded_steady {b s : State} (h : Steady b s) : Steady b (s.crankLoaded) := by
  simp only [State.crankLoaded]
  (repeat' split) <;> simp (maxDischargeDepth := 40) [*]

@[simp] theorem State.requestSync_steady {b s : State} (h : Steady b s) : Steady b (s.requestSync) := by
  simp only [State.requestSync]
  simp (maxDischargeDepth := 40) [*]

@[simp] theorem State.startSync_steady {b s : State} (h : Steady b s) : Steady b (s.startSync) := by
  simp only [State.startSync]
  simp (maxDischargeDepth := 40) [*]

@[simp] theorem State.queueJoin_steady {b s : State} (h : Steady b s) (j : Body) : Steady b (s.queueJoin j) := by
  simp only [State.queueJoin]
  (repeat' split) <;> simp (maxDischargeDepth := 40) [*]

@[simp] theorem State.mapRecords_steady {b s : State} (h : Steady b s) (f : Station → PeerRecord → PeerRecord) :
    Steady b (s.mapRecords f) := by
  simp only [State.mapRecords]
  simp (maxDischargeDepth := 40) [*]

@[simp] theorem State.stopMemberTimers_steady {b s : State} (h : Steady b s) : Steady b (s.stopMemberTimers) := by
  simp only [State.stopMemberTimers]
  simp (maxDischargeDepth := 40) [*]

@[simp] theorem State.membersLoaded_steady {b s : State} (h : Steady b s) (r : Replica) :
    Steady b (s.membersLoaded r) := by
  simp only [State.membersLoaded]
  simp (maxDischargeDepth := 40) [*]

@[simp] theorem State.shift_steady {b s : State} (h : Steady b s) (n : StationState) (c : SyncCause) :
    Steady b (s.shift n c) := by
  exact h.of_eq rfl rfl rfl rfl rfl

@[simp] theorem State.announce_steady {b s : State} (h : Steady b s) (o n : StationState) (c : SyncCause) :
    Steady b (s.announce o n c) := by
  simp only [State.announce]
  simp (maxDischargeDepth := 40) [*]

@[simp] theorem State.moveTo_steady {b s : State} (h : Steady b s) (n : StationState) (c : SyncCause) :
    Steady b (s.moveTo n c) := by
  simp only [State.moveTo]
  simp (maxDischargeDepth := 40) [*]

@[simp] theorem State.dropInbound_steady {b s : State} (h : Steady b s) : Steady b (s.dropInbound) := by
  exact ⟨h.fault, h.urgent, h.general, fun l => (List.length_filter_le _ _).trans (h.inbound l), h.notices⟩

@[simp] theorem State.endCarry_steady {b s : State} (h : Steady b s) (i : SlotNo) : Steady b (s.endCarry i) := by
  simp only [State.endCarry]
  (repeat' split) <;> simp (maxDischargeDepth := 40) [*]

@[simp] theorem State.dropCarry_steady {b s : State} (h : Steady b s) (i : SlotNo) : Steady b (s.dropCarry i) := by
  simp only [State.dropCarry]
  (repeat' split) <;> simp (maxDischargeDepth := 40) [*]

@[simp] theorem State.endDrive_steady {b s : State} (h : Steady b s) : Steady b (s.endDrive) := by
  simp only [State.endDrive]
  simp (maxDischargeDepth := 40) [*]

@[simp] theorem State.emptyLanes_steady {b s : State} (h : Steady b s) : Steady b (s.emptyLanes) := by
  exact ⟨h.fault, fun _ => Nat.zero_le _, fun _ => Nat.zero_le _, h.inbound, h.notices⟩

@[simp] theorem State.stopSlotTimers_steady {b s : State} (h : Steady b s) : Steady b (s.stopSlotTimers) := by
  simp only [State.stopSlotTimers]
  simp (maxDischargeDepth := 40) [*]

@[simp] theorem State.silenceOffline_steady {b s : State} (h : Steady b s) : Steady b (s.silenceOffline) := by
  simp only [State.silenceOffline]
  split <;> simp (maxDischargeDepth := 40) [*]

@[simp] theorem State.onEntry_steady {b s : State} (h : Steady b s) : Steady b (s.onEntry) := by
  have e1 {t : State} (k : Steady b t) : Steady b (allSlots.foldl State.endCarry t) :=
    Steady.foldl (fun _ a k => State.endCarry_steady k a) _ _ k
  have e2 {t : State} (k : Steady b t) : Steady b (allSlots.foldl State.dropCarry t) :=
    Steady.foldl (fun _ a k => State.dropCarry_steady k a) _ _ k
  simp only [State.onEntry]
  split <;> simp (maxDischargeDepth := 40) [*]

@[simp] theorem State.enterAnnounced_steady {b s : State} (h : Steady b s) (n : StationState) (c : SyncCause) :
    Steady b (s.enterAnnounced n c) := by
  simp only [State.enterAnnounced]
  simp (maxDischargeDepth := 40) [*]

@[simp] theorem State.enterOnce_steady {b s : State} (h : Steady b s) (n : StationState) (c : SyncCause) :
    Steady b (s.enterOnce n c) := by
  simp only [State.enterOnce]
  simp (maxDischargeDepth := 40) [*]

@[simp] theorem State.enter_steady {b s : State} (h : Steady b s) (n : StationState) (c : SyncCause) :
    Steady b (s.enter n c) := by
  simp only [State.enter]
  (repeat' split) <;> simp (maxDischargeDepth := 40) [*]

@[simp] theorem State.slotTests_steady {b s : State} (h : Steady b s) : Steady b (s.slotTests) := by
  simp only [State.slotTests]
  simp (maxDischargeDepth := 40) [*]

@[simp] theorem State.changeState_steady {b s : State} (h : Steady b s) (n : StationState) (c : SyncCause) :
    Steady b (s.changeState n c) := by
  simp only [State.changeState]
  simp (maxDischargeDepth := 40) [*]

@[simp] theorem State.loadSlot_steady {b s : State} (h : Steady b s) (i : SlotNo) : Steady b (s.loadSlot i) := by
  simp only [State.loadSlot]
  (repeat' split) <;> simp (maxDischargeDepth := 40) [*]

@[simp] theorem State.loadSlots_steady {b s : State} (h : Steady b s) : Steady b (s.loadSlots) := by
  exact Steady.foldl (fun _ a k => State.loadSlot_steady k a) _ _ h

@[simp] theorem State.latchesLoaded_steady {b s : State} (h : Steady b s) : Steady b (s.latchesLoaded) := by
  simp only [State.latchesLoaded]
  (repeat' split) <;> simp (maxDischargeDepth := 40) [*]

@[simp] theorem State.gateLoaded_steady {b s : State} (h : Steady b s) (r : Replica) : Steady b (s.gateLoaded r) := by
  simp only [State.gateLoaded]
  (repeat' split) <;> simp (maxDischargeDepth := 40) [*]

@[simp] theorem State.enterLoaded_steady {b s : State} (h : Steady b s) (p : Bool) (c : SyncCause) (j : Body) :
    Steady b (s.enterLoaded p c j) := by
  simp only [State.enterLoaded]
  (repeat' split) <;> simp (maxDischargeDepth := 40) [*]

@[simp] theorem State.forgetIsolation_steady {b s : State} (h : Steady b s) : Steady b (s.forgetIsolation) := by
  simp only [State.forgetIsolation]
  simp (maxDischargeDepth := 40) [*]

@[simp] theorem State.loadReplica_steady {b s : State} (h : Steady b s) (r : Replica) : Steady b (s.loadReplica r) := by
  simp only [State.loadReplica]
  simp (maxDischargeDepth := 40) [*]

@[simp] theorem State.loadSnapshot_steady {b s : State} (h : Steady b s) (e : Half) (i : List Byte) (f : Frame) :
    Steady b (s.loadSnapshot e i f) := by
  simp only [State.loadSnapshot]
  (repeat' split) <;> simp (maxDischargeDepth := 40) [*]

@[simp] theorem State.adoptStart_steady {b s : State} (h : Steady b s) : Steady b (s.adoptStart) := by
  simp only [State.adoptStart]
  simp (maxDischargeDepth := 40) [*]

@[simp] theorem State.changePeer_steady {b s : State} (h : Steady b s) (n : Station) (f : PeerRecord → PeerRecord) :
    Steady b (s.changePeer n f) := by
  simp only [State.changePeer]
  simp (maxDischargeDepth := 40) [*]

@[simp] theorem State.raiseDisagree_steady {b s : State} (h : Steady b s) (n : Station) :
    Steady b (s.raiseDisagree n) := by
  simp only [State.raiseDisagree]
  simp (maxDischargeDepth := 40) [*]

@[simp] theorem State.tidy_steady {b s : State} (h : Steady b s) (n : Nat) : Steady b (s.tidy n) := by
  simp only [State.tidy]
  simp (maxDischargeDepth := 40) [*]

@[simp] theorem State.settleDown_steady {b s : State} (h : Steady b s) (n : Nat) : Steady b (s.settleDown n) := by
  simp only [State.settleDown]
  simp (maxDischargeDepth := 40) [*]

@[simp] theorem State.offerApplication_steady {b s : State} (h : Steady b s) (f : Frame) (p : Option Phase) :
    Steady b (s.offerApplication f p) := by
  simp only [State.offerApplication]
  simp (maxDischargeDepth := 40) [*]

@[simp] theorem State.ended_steady {b s : State} (h : Steady b s) (n : Nat) : Steady b (s.ended n) := by
  simp only [State.ended]
  simp (maxDischargeDepth := 40) [*]

@[simp] theorem State.offerApplicationIn_steady {b s : State} (h : Steady b s) (m : StationState) (f : Frame)
    (p : Option Phase) : Steady b (s.offerApplicationIn m f p) := by
  simp only [State.offerApplicationIn]
  simp (maxDischargeDepth := 40) [*]

@[simp] theorem State.evaluated_steady {b s : State} (h : Steady b s) (n : Nat) (f : Frame) (p : Option Phase) :
    Steady b (s.evaluated n f p) := by
  simp only [State.evaluated]
  simp (maxDischargeDepth := 40) [*]

@[simp] theorem State.evaluatedAtChange_steady {b s : State} (h : Steady b s) (k : Nat) (f : Frame) (p : Option Phase)
    (n : StationState) (c : SyncCause) : Steady b (s.evaluatedAtChange k f p n c) := by
  simp only [State.evaluatedAtChange]
  simp (maxDischargeDepth := 40) [*]

@[simp] theorem State.yieldTo_steady {b s : State} (h : Steady b s) (n : Nat) (f : Frame) :
    Steady b (s.yieldTo n f) := by
  simp only [State.yieldTo]
  (repeat' split) <;> simp (maxDischargeDepth := 40) [*]

@[simp] theorem State.explained_steady {b s : State} (h : Steady b s) : Steady b (s.explained) := by
  simp only [State.explained]
  simp (maxDischargeDepth := 40) [*]

@[simp] theorem State.recordTransitions_steady {b s : State} (h : Steady b s) (ts : List Transition) :
    Steady b (s.recordTransitions ts) := by
  exact Steady.foldl (fun _ a k => State.record_steady k _) _ _ h

@[simp] theorem State.takeTransitions_steady {b s : State} (h : Steady b s) (ts : List Transition) :
    Steady b (s.takeTransitions ts) := by
  exact Steady.foldl (fun _ a k => State.ownTransition_steady k _ a) _ _ h

@[simp] theorem State.claimIgnored_steady {b s : State} (h : Steady b s) (i : SlotNo) (a : Applied) (c : IgnoreCause) :
    Steady b (s.claimIgnored i a c) := by
  simp only [State.claimIgnored]
  split <;> simp (maxDischargeDepth := 40) [*]

@[simp] theorem State.ownClaimOutcome_steady {b s : State} (h : Steady b s) (i : SlotNo) (a : Applied) :
    Steady b (s.ownClaimOutcome i a) := by
  simp only [State.ownClaimOutcome]
  (repeat' split) <;> simp (maxDischargeDepth := 40) [*]

@[simp] theorem State.ownReleaseOutcome_steady {b s : State} (h : Steady b s) (i : SlotNo) (a : Applied) :
    Steady b (s.ownReleaseOutcome i a) := by
  simp only [State.ownReleaseOutcome]
  (repeat' split) <;> simp (maxDischargeDepth := 40) [*]

@[simp] theorem State.ownSettledOutcome_steady {b s : State} (h : Steady b s) (i : SlotNo) (o : Bool) (a : Applied) :
    Steady b (s.ownSettledOutcome i o a) := by
  simp only [State.ownSettledOutcome]
  (repeat' split) <;> simp (maxDischargeDepth := 40) [*]

@[simp] theorem State.ownStuckOutcome_steady {b s : State} (h : Steady b s) (i : SlotNo) (a : Applied) :
    Steady b (s.ownStuckOutcome i a) := by
  simp only [State.ownStuckOutcome]
  (repeat' split) <;> simp (maxDischargeDepth := 40) [*]

@[simp] theorem State.ownJoinSlot_steady {b s : State} (h : Steady b s) (a : Applied) (x : SlotNo × JoinOutcome) :
    Steady b (State.ownJoinSlot a s x) := by
  simp only [State.ownJoinSlot]
  (repeat' split) <;> simp (maxDischargeDepth := 40) [*]

@[simp] theorem State.ownJoinOutcome_steady {b s : State} (h : Steady b s) (a : Applied) :
    Steady b (s.ownJoinOutcome a) := by
  exact State.takeTransitions_steady (Steady.foldl (fun _ x k => State.ownJoinSlot_steady k a x) _ _ h) _

@[simp] theorem State.slotOutcomes_steady {b s : State} (h : Steady b s) (f : Frame) (a : Applied) :
    Steady b (s.slotOutcomes f a) := by
  simp only [State.slotOutcomes]
  (repeat' split) <;> simp (maxDischargeDepth := 40) [*]

@[simp] theorem State.stateOutcome_steady {b s : State} (h : Steady b s) (f : Frame) (a : Applied) (j : Body) :
    Steady b (s.stateOutcome f a j) := by
  simp only [State.stateOutcome]
  (repeat' split) <;> simp (maxDischargeDepth := 40) [*]

@[simp] theorem State.rosterOutcome_steady {b s : State} (h : Steady b s) (f : Frame) (a : Applied) (n : Station) :
    Steady b (State.rosterOutcome f a s n) := by
  simp only [State.rosterOutcome]
  (repeat' split) <;> simp (maxDischargeDepth := 40) [*]

@[simp] theorem State.phaseOutcome_steady {b s : State} (h : Steady b s) (a : Applied) :
    Steady b (s.phaseOutcome a) := by
  simp only [State.phaseOutcome]
  (repeat' split) <;> simp (maxDischargeDepth := 40) [*]

@[simp] theorem State.rolesRefused_steady {b s : State} (h : Steady b s) (f : Frame) (a : Applied) :
    Steady b (s.rolesRefused f a) := by
  unfold State.rolesRefused
  split
  · exact Steady.foldl (fun _ a k => State.capture_steady k _ _ _) _ _ h
  · exact h

@[simp] theorem State.memberOutcome_steady {b s : State} (h : Steady b s) (a : Applied) :
    Steady b (s.memberOutcome a) := by
  simp only [State.memberOutcome]
  simp (maxDischargeDepth := 40) [*]

@[simp] theorem State.crankOutcome_steady {b s : State} (h : Steady b s) (f : Frame) (a : Applied) :
    Steady b (s.crankOutcome f a) := by
  simp only [State.crankOutcome]
  (repeat' split) <;> simp (maxDischargeDepth := 40) [*]

@[simp] theorem State.gateOutcome_steady {b s : State} (h : Steady b s) (f : Frame) (a : Applied) :
    Steady b (s.gateOutcome f a) := by
  simp only [State.gateOutcome]
  (repeat' split) <;> simp (maxDischargeDepth := 40) [*]

@[simp] theorem State.takeOutcome_steady {b s : State} (h : Steady b s) (f : Frame) (a : Applied) :
    Steady b (s.takeOutcome f a) := by
  have e {t : State} (k : Steady b t) : Steady b (allStations.foldl (State.rosterOutcome f a) t) :=
    Steady.foldl (fun _ n k => State.rosterOutcome_steady k f a n) _ _ k
  simp only [State.takeOutcome]
  split <;> simp (maxDischargeDepth := 40) [*]

@[simp] theorem State.applyTable_steady {b s : State} (h : Steady b s) (f : Frame) (e : Frame → Replica → OwnEffect) (n : Nat) :
    Steady b (s.applyTable f e n) := by
  simp only [State.applyTable]
  (repeat' split) <;> simp (maxDischargeDepth := 40) [*]

@[simp] theorem State.takePresence_steady {b s : State} (h : Steady b s) (f : Frame) : Steady b (s.takePresence f) := by
  simp only [State.takePresence]
  (repeat' split) <;> simp (maxDischargeDepth := 40) [*]

@[simp] theorem State.takeSyncRequest_steady {b s : State} (h : Steady b s) (f : Frame) :
    Steady b (s.takeSyncRequest f) := by
  simp only [State.takeSyncRequest]
  (repeat' split) <;> simp (maxDischargeDepth := 40) [*]

@[simp] theorem State.takeSnapshot_steady {b s : State} (h : Steady b s) (f : Frame) : Steady b (s.takeSnapshot f) := by
  simp only [State.takeSnapshot]
  (repeat' split) <;> simp (maxDischargeDepth := 40) [*]

@[simp] theorem State.applyFrame_steady {b s : State} (h : Steady b s) (f : Frame) {steps : State → Nat → State} (hs : ∀ t n, Steady b t → Steady b (steps t n)) :
    Steady b (s.applyFrame f steps) := by
  simp only [State.applyFrame]
  split <;> simp (maxDischargeDepth := 40) [*]

@[simp] theorem State.applyHead_steady {b s : State} (h : Steady b s) (k : FrameKind) {act : Frame → State → State} (ha : ∀ f t, Steady b t → Steady b (act f t)) :
    Steady b (s.applyHead k act) := by
  unfold State.applyHead
  split
  · rename_i f rest hq
    split
    · refine State.conclude_steady (ha _ _ ⟨h.fault, h.urgent, h.general, fun l => ?_, h.notices⟩)
      have := h.inbound l
      rw [hq, List.length_cons] at this
      exact Nat.le_of_succ_le this
    · exact h
  · exact h

@[simp] theorem State.tableFrame_steady {b s : State} (h : Steady b s) (k : FrameKind) (e : Frame → Replica → OwnEffect) :
    Steady b (s.tableFrame k e) := by
  exact State.applyHead_steady h k fun _ _ i => State.applyFrame_steady i _ fun _ _ j => State.applyTable_steady j _ _ _

@[simp] theorem State.plainFrame_steady {b s : State} (h : Steady b s) (k : FrameKind) {take : State → Frame → State} (ht : ∀ t f, Steady b t → Steady b (take t f)) :
    Steady b (s.plainFrame k take) := by
  exact State.applyHead_steady h k fun _ _ i => State.applyFrame_steady i _ fun _ _ j => State.evaluated_steady (ht _ _ j) _ _ _

@[simp] theorem State.snapshotFrame_steady {b s : State} (h : Steady b s) : Steady b (s.snapshotFrame) := by
  refine State.applyHead_steady h _ fun f t i => ?_
  split
  · exact State.settleDown_steady (State.loadSnapshot_steady i _ _ _) _
  · exact State.settleDown_steady (State.loadSnapshot_steady i _ _ _) _
  · exact State.applyFrame_steady i _ fun _ _ j => State.evaluated_steady (State.takeSnapshot_steady j _) _ _ _

@[simp] theorem State.takeStartBit_steady {b s : State} (h : Steady b s) : Steady b (s.takeStartBit) := by
  unfold State.takeStartBit
  split
  · exact h.of_eq rfl rfl rfl rfl rfl
  · exact h

@[simp] theorem State.endTransmission_steady {b s : State} (h : Steady b s) : Steady b (s.endTransmission) := by
  exact h.of_eq rfl rfl rfl rfl rfl

@[simp] theorem State.probeEnded_steady {b s : State} (h : Steady b s) : Steady b (s.probeEnded) := by
  exact h.of_eq rfl rfl rfl rfl rfl

@[simp] theorem State.failReadback_steady {b s : State} (h : Steady b s) (t : Transmission) :
    Steady b (s.failReadback t) := by
  have e {u : State} (k : Steady b u) (v : Nat) : Steady b (u.setLink { u.link with readback := v }) :=
    k.of_eq rfl rfl rfl rfl rfl
  simp only [State.failReadback]
  (repeat' split) <;> simp (maxDischargeDepth := 40) [*]

@[simp] theorem State.setIsolation_steady {b s : State} (h : Steady b s) (c : IsolationCause) :
    Steady b (s.setIsolation c) := by
  simp only [State.setIsolation]
  simp (maxDischargeDepth := 40) [*]

@[simp] theorem State.heardItself_steady {b s : State} (h : Steady b s) : Steady b (s.heardItself) := by
  simp only [State.heardItself]
  (repeat' split) <;> simp (maxDischargeDepth := 40) [*]

@[simp] theorem State.heardOther_steady {b s : State} (h : Steady b s) : Steady b (s.heardOther) := by
  simp only [State.heardOther]
  (repeat' split) <;> simp (maxDischargeDepth := 40) [*]

@[simp] theorem State.leaveLane_steady {b s : State} (h : Steady b s) (t : Transmission) :
    Steady b (s.leaveLane t) := by
  have e : Steady b (s.setLink { s.link with
      urgent := if t.source = .urgent then s.link.urgent.tail else s.link.urgent
      general := if t.source = .general then s.link.general.tail else s.link.general
      tx := none
      readback := 0
      heartbeat := if s.mode.beating then some (s.now + Config.heartbeatPeriod) else s.link.heartbeat }) := by
    refine ⟨h.fault, fun l => ?_, fun l => ?_, h.inbound, h.notices⟩
    · have := h.urgent l
      simp only [State.setLink_link]
      split <;> simp <;> omega
    · have := h.general l
      simp only [State.setLink_link]
      split <;> simp <;> omega
  unfold State.leaveLane
  dsimp only
  split
  · exact State.probeEnded_steady e
  · exact e

@[simp] theorem State.beginHold_steady {b s : State} (h : Steady b s) (q : Body) : Steady b (s.beginHold q) := by
  simp only [State.beginHold]
  (repeat' split) <;> simp (maxDischargeDepth := 40) [*]

@[simp] theorem State.admitOwn_steady {b s : State} (h : Steady b s) (f : Frame) : Steady b (s.admitOwn f) := by
  unfold State.admitOwn
  split
  · rename_i hr
    simp only [Bool.and_eq_true] at hr
    exact State.pushInbound_steady h hr.2 f
  · exact h

@[simp] theorem State.completeClean_steady {b s : State} (h : Steady b s) (t : Transmission) :
    Steady b (s.completeClean t) := by
  simp only [State.completeClean]
  (repeat' split) <;> simp (maxDischargeDepth := 40) [*]

@[simp] theorem State.hear_steady {b s : State} (h : Steady b s) (n : Station) : Steady b (s.hear n) := by
  exact State.setMembers_steady (State.changePeer_steady h _ _) _

@[simp] theorem State.makeChange_steady {b s : State} (h : Steady b s) (c : LateChange) : Steady b (s.makeChange c) := by
  cases c <;> simp only [State.makeChange] <;> split <;> simp (maxDischargeDepth := 40) [*]

@[simp] theorem State.changeOutside_steady {b s : State} (h : Steady b s) (c : LateChange) :
    Steady b (s.changeOutside c) := by
  simp only [State.changeOutside, State.defer]
  (repeat' split) <;> first
    | exact h
    | exact h.of_eq rfl rfl rfl rfl rfl
    | exact State.makeChange_steady h c

@[simp] theorem State.makeLate_steady {b s : State} (h : Steady b s) : Steady b (s.makeLate) :=
  State.conclude_steady (Steady.foldl (fun _ c k => State.makeChange_steady k c) _ _ (h.of_eq rfl rfl rfl rfl rfl))

@[simp] theorem State.overrun_steady {b s : State} (h : Steady b s) (f : Frame) : Steady b (s.overrun f) := by
  simp only [State.overrun]
  (repeat' split) <;> simp (maxDischargeDepth := 40) [*]

@[simp] theorem State.takeFrame_steady {b s : State} (h : Steady b s) (f : Frame) : Steady b (s.takeFrame f) := by
  simp only [State.takeFrame]
  (repeat' split) <;> simp (maxDischargeDepth := 40) [*]

@[simp] theorem State.duplicate_steady {b s : State} (h : Steady b s) (f : Frame) : Steady b (s.duplicate f) := by
  simp only [State.duplicate]
  simp (maxDischargeDepth := 40) [*]

@[simp] theorem State.receive_steady {b s : State} (h : Steady b s) (w : WireFrame) : Steady b (s.receive w) := by
  simp only [State.receive]
  (repeat' split) <;> simp (maxDischargeDepth := 40) [*]

@[simp] theorem State.expire_steady {b s : State} (h : Steady b s) (d : Option Nat) {act : State → State} (ha : ∀ t, Steady b t → Steady b (act t)) :
    Steady b (s.expire d act) := by
  unfold State.expire
  split
  · exact State.conclude_steady (ha _ (State.advanceTo_steady h _))
  · exact h

@[simp] theorem State.beat_steady {b s : State} (h : Steady b s) : Steady b (s.beat) := by
  have e {u : State} (k : Steady b u) (v : Option Nat) : Steady b (u.setLink { u.link with heartbeat := v }) :=
    k.of_eq rfl rfl rfl rfl rfl
  simp only [State.beat]
  (repeat' split) <;> simp (maxDischargeDepth := 40) [*]

@[simp] theorem State.probeFalls_steady {b s : State} (h : Steady b s) : Steady b (s.probeFalls) := by
  exact h.of_eq rfl rfl rfl rfl rfl

@[simp] theorem State.keepReplica_steady {b s : State} (h : Steady b s) : Steady b (s.keepReplica) := by
  simp only [State.keepReplica]
  (repeat' split) <;> simp (maxDischargeDepth := 40) [*]

@[simp] theorem State.askAgain_steady {b s : State} (h : Steady b s) : Steady b (s.askAgain) := by
  simp only [State.askAgain]
  (repeat' split) <;> simp (maxDischargeDepth := 40) [*]

@[simp] theorem State.syncExpires_steady {b s : State} (h : Steady b s) : Steady b (s.syncExpires) := by
  simp only [State.syncExpires]
  (repeat' split) <;> simp (maxDischargeDepth := 40) [*]

@[simp] theorem State.peerSilent_steady {b s : State} (h : Steady b s) (p : Station) : Steady b (s.peerSilent p) := by
  simp only [State.peerSilent]
  (repeat' split) <;> simp (maxDischargeDepth := 40) [*]

@[simp] theorem State.orphansDue_steady {b s : State} (h : Steady b s) (p : Station) : Steady b (s.orphansDue p) := by
  simp only [State.orphansDue]
  (repeat' split) <;> simp (maxDischargeDepth := 40) [*]

@[simp] theorem State.beginCrank_steady {b s : State} (h : Steady b s) (a : BitVec 2) : Steady b (s.beginCrank a) := by
  simp only [State.beginCrank]
  (repeat' split) <;> simp (maxDischargeDepth := 40) [*]

@[simp] theorem State.settleExpires_steady {b s : State} (h : Steady b s) : Steady b (s.settleExpires) := by
  simp only [State.settleExpires]
  (repeat' split) <;> simp (maxDischargeDepth := 40) [*]

@[simp] theorem State.restartLockout_steady {b s : State} (h : Steady b s) : Steady b (s.restartLockout) := by
  simp only [State.restartLockout]
  simp (maxDischargeDepth := 40) [*]

@[simp] theorem State.lockoutExpires_steady {b s : State} (h : Steady b s) : Steady b (s.lockoutExpires) := by
  simp only [State.lockoutExpires]
  (repeat' split) <;> simp (maxDischargeDepth := 40) [*]

@[simp] theorem State.latchExpires_steady {b s : State} (h : Steady b s) : Steady b (s.latchExpires) := by
  simp only [State.latchExpires]
  (repeat' split) <;> simp (maxDischargeDepth := 40) [*]

@[simp] theorem State.setOffDeadline_steady {b s : State} (h : Steady b s) (i : SlotNo) (d : Option Nat) :
    Steady b (s.setOffDeadline i d) := by
  simp only [State.setOffDeadline]
  simp (maxDischargeDepth := 40) [*]

@[simp] theorem State.restartOff_steady {b s : State} (h : Steady b s) (i : SlotNo) : Steady b (s.restartOff i) := by
  simp only [State.restartOff]
  simp (maxDischargeDepth := 40) [*]

@[simp] theorem State.offExpires_steady {b s : State} (h : Steady b s) (i : SlotNo) : Steady b (s.offExpires i) := by
  simp only [State.offExpires]
  (repeat' split) <;> simp (maxDischargeDepth := 40) [*]

@[simp] theorem State.retryClear_steady {b s : State} (h : Steady b s) (i : SlotNo) : Steady b (s.retryClear i) := by
  simp only [State.retryClear]
  simp (maxDischargeDepth := 40) [*]

@[simp] theorem State.setSettle_steady {b s : State} (h : Steady b s) (i : SlotNo) (d : Option Nat) :
    Steady b (s.setSettle i d) := by
  simp only [State.setSettle]
  simp (maxDischargeDepth := 40) [*]

@[simp] theorem State.restartSettle_steady {b s : State} (h : Steady b s) (i : SlotNo) :
    Steady b (s.restartSettle i) := by
  simp only [State.restartSettle]
  simp (maxDischargeDepth := 40) [*]

@[simp] theorem State.slotSettled_steady {b s : State} (h : Steady b s) (i : SlotNo) : Steady b (s.slotSettled i) := by
  simp only [State.slotSettled]
  (repeat' split) <;> simp (maxDischargeDepth := 40) [*]

@[simp] theorem State.setGate_steady {b s : State} (h : Steady b s) (g : Option GateTimeout) :
    Steady b (s.setGate g) := by
  simp only [State.setGate]
  simp (maxDischargeDepth := 40) [*]

@[simp] theorem State.restartGate_steady {b s : State} (h : Steady b s) (g : GateTimeout) :
    Steady b (s.restartGate g) := by
  simp only [State.restartGate]
  simp (maxDischargeDepth := 40) [*]

@[simp] theorem State.gateExpires_steady {b s : State} (h : Steady b s) (g : GateTimeout) :
    Steady b (s.gateExpires g) := by
  simp only [State.gateExpires]
  (repeat' split) <;> simp (maxDischargeDepth := 40) [*]

@[simp] theorem State.holdBack_steady {b s : State} (h : Steady b s) (i : SlotNo) : Steady b (s.holdBack i) := by
  simp only [State.holdBack]
  (repeat' split) <;> simp (maxDischargeDepth := 40) [*]

@[simp] theorem State.beginRelease_steady {b s : State} (h : Steady b s) (hr : s.generalRoom = true) (i : SlotNo) :
    Steady b (s.beginRelease i) := by
  exact State.putSlot_steady (State.pushGeneral_steady h hr _) _ _

@[simp] theorem State.holdReached_steady {b s : State} (h : Steady b s) (i : SlotNo) : Steady b (s.holdReached i) := by
  simp only [State.holdReached]
  (repeat' split) <;> simp (maxDischargeDepth := 40) [*]

@[simp] theorem State.peerDrive_steady {b s : State} (h : Steady b s) (l : Bool) : Steady b (s.peerDrive l) := by
  simp only [State.peerDrive]
  split <;> simp (maxDischargeDepth := 40) [*]

@[simp] theorem State.feedback_steady {b s : State} (h : Steady b s) (i : SlotNo) (d : Bool) :
    Steady b (s.feedback i d) := by
  simp only [State.feedback]
  (repeat' split) <;> simp (maxDischargeDepth := 40) [*]

@[simp] theorem State.sample_steady {b s : State} (h : Steady b s) (v : Byte) : Steady b (s.sample v) := by
  simp only [State.sample]
  simp (maxDischargeDepth := 40) [*]

@[simp] theorem State.endPulse_steady {b s : State} (h : Steady b s) (w : Bool) : Steady b (s.endPulse w) := by
  simp only [State.endPulse]
  simp (maxDischargeDepth := 40) [*]

/-! Commands. -/

@[simp] theorem State.refuse_steady {b s : State} (h : Steady b s) (c : ResponseCode) : Steady b (s.refuse c).state := h

@[simp] theorem State.answer_steady {b s : State} (h : Steady b s) (l : List Byte) : Steady b (s.answer l).state := h

@[simp] theorem State.accept_steady {b s : State} (h : Steady b s) : Steady b s.accept.state := h

theorem Steady.setPort {b s : State} (h : Steady b s) (v : Port) (hn : v.notices.length ≤ s.port.notices.length) :
    Steady b (s.setPort v) :=
  ⟨h.fault, h.urgent, h.general, h.inbound, fun l => hn.trans (h.notices l)⟩

@[simp] theorem State.softReset_steady {b s : State} (h : Steady b s) : Steady b s.softReset := by
  unfold State.softReset
  dsimp only
  refine State.edgeFrom_steady ?_ _
  exact ⟨by simpa [FaultKept] using h.fault, by simp [LinkUnit.reset], by simp [LinkUnit.reset], by simp [LinkUnit.reset],
    by simp⟩

@[simp] theorem State.freshTables_steady {b s : State} (h : Steady b s) : Steady b s.freshTables := by
  simp only [State.freshTables]
  simp (maxDischargeDepth := 40) [*]

@[simp] theorem State.setLeavePending_steady {b s : State} (h : Steady b s) : Steady b s.setLeavePending := by
  simp only [State.setLeavePending]
  simp (maxDischargeDepth := 40) [*]

@[simp] theorem State.setLeavePending_generalRoom (s : State) : s.setLeavePending.generalRoom = s.generalRoom := rfl

@[simp] theorem State.spendFree_steady {b s : State} (h : Steady b s) : Steady b s.spendFree := by
  simp only [State.spendFree]
  split <;> simp (maxDischargeDepth := 40) [*]

@[simp] theorem State.reportPhase_steady {b s : State} (h : Steady b s) (hr : s.urgentRoom = true) (p : Phase)
    (a : BitVec 2) : Steady b (s.reportPhase p a) :=
  State.pushUrgent_steady h hr _

@[simp] theorem State.failCrank_steady {b s : State} (h : Steady b s) (hr : s.urgentRoom = true) :
    Steady b s.failCrank := by
  simp only [State.failCrank]
  split <;> simp (maxDischargeDepth := 40) [*]

@[simp] theorem State.beginSettling_steady {b s : State} (h : Steady b s) (hr : s.urgentRoom = true) :
    Steady b s.beginSettling := by
  simp only [State.beginSettling]
  simp (maxDischargeDepth := 40) [*]

@[simp] theorem State.sendClaim_steady {b s : State} (h : Steady b s) (hr : s.generalRoom = true) (i : SlotNo)
    (q m : Byte) : Steady b (s.sendClaim i q m) := by
  simp only [State.sendClaim]
  simp (maxDischargeDepth := 40) [*]

@[simp] theorem State.withdrawClaim_steady {b s : State} (h : Steady b s) (i : SlotNo) :
    Steady b (s.withdrawClaim i) := by
  simp only [State.withdrawClaim]
  simp (maxDischargeDepth := 40) [*]

@[simp] theorem State.setPart_steady {b s : State} (h : Steady b s) (i : SlotNo) (p : SlotPart) :
    Steady b (s.setPart i p) := by
  simp only [State.setPart]
  simp (maxDischargeDepth := 40) [*]

@[simp] theorem State.configure_steady {b s : State} (h : Steady b s) (p a0 a1 a2 a3 a4 a5 : Byte) :
    Steady b (s.configure p a0 a1 a2 a3 a4 a5).state := by
  simp only [State.configure]
  (repeat' split) <;> simp (maxDischargeDepth := 40) [*]

@[simp] theorem State.readConfig_steady {b s : State} (h : Steady b s) : Steady b (s.readConfig).state := by
  exact h

@[simp] theorem State.joinCommand_steady {b s : State} (h : Steady b s) : Steady b (s.joinCommand).state := by
  simp only [State.joinCommand]
  (repeat' split) <;> simp (maxDischargeDepth := 40) [*]

@[simp] theorem State.leaveCommand_steady {b s : State} (h : Steady b s) : Steady b (s.leaveCommand).state := by
  simp only [State.leaveCommand, State.checked]
  (repeat' split) <;> simp (maxDischargeDepth := 40) [*]

@[simp] theorem State.restartCommand_steady {b s : State} (h : Steady b s) : Steady b (s.restartCommand).state := by
  simp only [State.restartCommand]
  (repeat' split) <;> simp (maxDischargeDepth := 40) [*]

@[simp] theorem State.claimCommand_steady {b s : State} (h : Steady b s) (x q m : Byte) :
    Steady b (s.claimCommand x q m).state := by
  simp only [State.claimCommand, State.checked]
  (repeat' split) <;> simp (maxDischargeDepth := 40) [*]

@[simp] theorem State.releaseCommand_steady {b s : State} (h : Steady b s) (x : Byte) :
    Steady b (s.releaseCommand x).state := by
  simp only [State.releaseCommand, State.checked]
  (repeat' split) <;> simp (maxDischargeDepth := 40) [*]

@[simp] theorem State.requestCrank_steady {b s : State} (h : Steady b s) : Steady b (s.requestCrank).state := by
  simp only [State.requestCrank, State.checked]
  (repeat' split) <;> simp (maxDischargeDepth := 40) [*]

@[simp] theorem State.crankDone_steady {b s : State} (h : Steady b s) : Steady b (s.crankDone).state := by
  simp only [State.crankDone, State.checked, State.reportChecks, List.cons_append, List.nil_append]
  (repeat' split) <;> simp (maxDischargeDepth := 40) [*]

@[simp] theorem State.crankFailed_steady {b s : State} (h : Steady b s) : Steady b (s.crankFailed).state := by
  simp only [State.crankFailed, State.checked, State.reportChecks, List.cons_append, List.nil_append]
  (repeat' split) <;> simp (maxDischargeDepth := 40) [*]

@[simp] theorem State.cancelCrank_steady {b s : State} (h : Steady b s) : Steady b (s.cancelCrank).state := by
  simp only [State.cancelCrank, State.checked, State.reportChecks, List.cons_append, List.nil_append]
  (repeat' split) <;> simp (maxDischargeDepth := 40) [*]

@[simp] theorem State.engineRunning_steady {b s : State} (h : Steady b s) : Steady b (s.engineRunning).state := by
  simp only [State.engineRunning, State.checked, State.reportChecks, List.cons_append, List.nil_append]
  (repeat' split) <;> simp (maxDischargeDepth := 40) [*]

@[simp] theorem State.engineStopped_steady {b s : State} (h : Steady b s) : Steady b (s.engineStopped).state := by
  simp only [State.engineStopped, State.checked, State.reportChecks, List.cons_append, List.nil_append]
  (repeat' split) <;> simp (maxDischargeDepth := 40) [*]

@[simp] theorem State.announceBudget_steady {b s : State} (h : Steady b s) (x r : Half) :
    Steady b (s.announceBudget x r).state := by
  simp only [State.announceBudget, State.checked]
  (repeat' split) <;> simp (maxDischargeDepth := 40) [*]

@[simp] theorem State.liftCommand_steady {b s : State} (h : Steady b s) : Steady b (s.liftCommand).state := by
  simp only [State.liftCommand, State.checked]
  (repeat' split) <;> simp (maxDischargeDepth := 40) [*]

@[simp] theorem State.readStatus_steady {b s : State} (h : Steady b s) (p : Byte) :
    Steady b (s.readStatus p).state := by
  simp only [State.readStatus]
  (repeat' split) <;> simp (maxDischargeDepth := 40) [*]

@[simp] theorem State.readClaim_steady {b s : State} (h : Steady b s) (k : Byte) : Steady b (s.readClaim k).state := by
  simp only [State.readClaim]
  (repeat' split) <;> simp (maxDischargeDepth := 40) [*]

@[simp] theorem State.readPeer_steady {b s : State} (h : Steady b s) (n : Byte) : Steady b (s.readPeer n).state := by
  simp only [State.readPeer]
  (repeat' split) <;> simp (maxDischargeDepth := 40) [*]

@[simp] theorem State.readNotice_steady {b s : State} (h : Steady b s) : Steady b (s.readNotice).state := by
  exact h.setPort _ (by simp)

@[simp] theorem State.readFault_steady {b s : State} (h : Steady b s) : Steady b (s.readFault).state := by
  exact h

@[simp] theorem State.readHistory_steady {b s : State} (h : Steady b s) (i : Byte) :
    Steady b (s.readHistory i).state := by
  simp only [State.readHistory, State.checked]
  (repeat' split) <;> simp (maxDischargeDepth := 40) [*]

@[simp] theorem State.freezeCommand_steady {b s : State} (h : Steady b s) : Steady b (s.freezeCommand).state := by
  simp only [State.freezeCommand, State.checked]
  (repeat' split) <;> simp (maxDischargeDepth := 40) [*]

@[simp] theorem State.thaw_steady {b s : State} (h : Steady b s) : Steady b (s.thaw).state := by
  simp only [State.thaw, State.checked]
  (repeat' split) <;> simp (maxDischargeDepth := 40) [*]

@[simp] theorem State.setWatch_steady {b s : State} (h : Steady b s) (u k x : Byte) (p m : Half) (r : Byte) :
    Steady b (s.setWatch u k x p m r).state := by
  simp only [State.setWatch]
  (repeat' split) <;> simp (maxDischargeDepth := 40) [*]

@[simp] theorem State.armWatch_steady {b s : State} (h : Steady b s) (u : Byte) : Steady b (s.armWatch u).state := by
  simp only [State.armWatch]
  (repeat' split) <;> simp (maxDischargeDepth := 40) [*]

@[simp] theorem State.echo_steady {b s : State} (h : Steady b s) (l : List Byte) : Steady b (s.echo l).state := by
  exact h

/-- A command other than CLEAR_FAULT. -/
theorem State.perform_steady {b s : State} (h : Steady b s) (c : Command) (hc : c ≠ .clearFault) :
    Steady b (s.perform c).state := by
  cases c
  case clearFault => exact absurd rfl hc
  all_goals
    simp only [State.perform]
    simp (maxDischargeDepth := 40) [*]

/-- Any command keeps the queues within their capacities. -/
theorem State.perform_bounds {b s : State} (h : Steady b s) (c : Command) :
    (b.link.urgent.length ≤ Config.urgentCapacity → (s.perform c).state.link.urgent.length ≤ Config.urgentCapacity) ∧
    (b.link.general.length ≤ Config.generalCapacity → (s.perform c).state.link.general.length ≤ Config.generalCapacity) ∧
    (b.link.inbound.length ≤ Config.inboundCapacity → (s.perform c).state.link.inbound.length ≤ Config.inboundCapacity) ∧
    (b.port.notices.length ≤ Config.noticeCapacity → (s.perform c).state.port.notices.length ≤ Config.noticeCapacity) := by
  by_cases hc : c = .clearFault
  · subst hc
    exact ⟨h.urgent, h.general, h.inbound, h.notices⟩
  · have k := State.perform_steady h c hc
    exact ⟨k.urgent, k.general, k.inbound, k.notices⟩

end Sys2Proof.Machine
end

