-- ==== Sys2Proof/Tests/Slice0.lean ====
section
/-! SUPPORT. The model's own tests: well-formedness, and for every statement of Certificates/Slice0/Obligations.lean a state
and operands that meet its premises, clause by clause. -/

namespace Sys2Proof.Tests

set_option Elab.async false

open Sys2Proof.Machine

/-! Small states. -/

/-- The state a command leaves. -/
def after (c : Instr) (s : State) : State :=
  match exec c s with
  | .next t => t
  | .fault _ => s
  | .refused _ => s

/-- Slot 0 COMFORT with feedback, slot 1 CRITICAL, slot 2 DEFERRABLE with a hold limit of 60 s, slot 3 unused. -/
def partOf (cls : LoadClass) (feedback : Bool) (limit : Option Nat) : SlotPart :=
  { given := true, used := true, cls := cls, maxAmps := 100, minAllowed := true, settle := 50, offDeadline := 30,
    feedback := feedback, holdLimit := limit }

def parts : Vector SlotPart 4 :=
  #v[partOf .comfort true none, partOf .critical false none, partOf .deferrable false (some 60), .default]

def capsOf : Vector Capability 4 := vecMap SlotPart.capability parts

/-- Stations 3 (BOTH) and 5 (NONE) are present; phase STOP with 120 and 40 units. -/
def roster : Vector RosterEntry 16 :=
  (((.replicate 16 .absent : Vector RosterEntry 16).set 3 { present := true, role := .both, caps := capsOf }).set 5
    { present := true, role := .none, caps := capsOf })

def phaseNow (p : Phase) (attempts : BitVec 2) : PhaseRecord :=
  { PhaseRecord.start with phase := p, attempts := attempts, crankStation := some 3, supplyStation := some 3 }

def repOf (p : PhaseRecord) (claims : List Claim) (gate : Option Key) : Replica :=
  { claims := claims, arrival := 9, phase := p, gate := gate, roster := roster, epoch := 7, digest := 0x1234 }

def key (station : Station) (slot : SlotNo) : Key := { station := station, slot := slot }

/-- A claim of 40 units with a minimum of 10. -/
def claimOf (k : Key) (cls : LoadClass) (st : ClaimState) (held arrival : Nat) : Claim :=
  { key := k, cls := cls, requested := 40, minimum := some 10, held := held, state := st, prior := none,
    arrival := arrival, skip := 0 }

/-- Station 3 in a state, holding replica r. -/
def at_ (mode : StationState) (r : Replica) : State :=
  { State.reset with
    straps := { station := 3, role := .both }
    config := { general := { GeneralPart.default with given := true }, slots := parts, locked := true }
    station := { StationUnit.reset with state := mode, wasMember := true }
    replica := some r }

def home : State := at_ .member (repOf (phaseNow .stop 0) [] none)

/-- Station 3 with COMFORT held in slot 0 and DEFERRABLE held in slot 2, settled. -/
def heldClaims : List Claim :=
  [claimOf (key 3 0) .comfort .held 40 1, claimOf (key 3 2) .deferrable .held 40 2]

def holding : State :=
  ((((at_ .member (repOf (phaseNow .run 0) heldClaims (some (key 3 0)))).putSlot 0
    (SlotRecord.reset.mirror (some (claimOf (key 3 0) .comfort .held 40 1)))).putSlot 2
      (SlotRecord.reset.mirror (some (claimOf (key 3 2) .deferrable .held 40 2)))).conclude)

def with_ (s : State) (f : LinkUnit → LinkUnit) : State := s.setLink (f s.link)

/-- Both lanes are full, of frames that no timer queues. -/
def jammed (s : State) : State :=
  with_ s fun l => { l with urgent := List.replicate 3 (.fixed (.phase 0 0)), general := List.replicate 6 (.fixed .lift) }

/-- A frame from a station, in step with replica r. -/
def frameFrom (n : Station) (r : Replica) (b : Body) : Frame :=
  { sender := n, sync := .member, epoch := r.epoch, digest := r.digest, body := b }

/-- A settled state with a free mailbox. -/
theorem open_of (s : State) (h : (∀ i : SlotNo, s.refreshed i (s.slot i) = s.slot i)
    ∧ s.history.entries.length ≤ 32 ∧ s.resetLow = false ∧ s.port.command = none ∧ s.port.response = none) : s.Open :=
  ⟨⟨h.1, h.2.1⟩, h.2.2.1, h.2.2.2.1, h.2.2.2.2⟩

theorem settled_of (s : State) (h : (∀ i : SlotNo, s.refreshed i (s.slot i) = s.slot i)
    ∧ s.history.entries.length ≤ 32) : s.Settled := h

theorem home_open : home.Open := open_of _ (by decide +kernel)

theorem holding_open : holding.Open := open_of _ (by decide +kernel)

/-! Well-formedness. -/

theorem test_echo_of_24_bytes_is_ill_formed : (Instr.echo (List.replicate 24 0)).wellFormed = false := by decide

theorem test_echo_of_23_bytes_is_well_formed : (Instr.echo (List.replicate 23 0)).wellFormed = true := by decide

/-- More payload than the length field says. -/
def overLongFrame : WireFrame :=
  { lane := 0, contender := 0, kind := 11, sender := 0, sync := 0, length := 0, payload := [0], epoch := 0, digest := 0,
    check := 0 }

theorem test_over_long_frame_is_ill_formed : (Instr.frameReceived overLongFrame).wellFormed = false := by decide

/-! The machine and its invariants. -/

theorem test_tick_counts_hold : holding.pending = [] ∧ holding.countsHold 2 60 ∧ ¬ holding.countsHold 0 60 := by
  unfold State.countsHold
  decide +kernel

/-- R120: in OFFLINE the hold time stands. -/
theorem test_offline_counts_no_hold : ¬ ((holding.setStation { holding.station with state := .offline }).countsHold 2 60) ∧
    (holding.setStation { holding.station with state := .offline }).holdLimitAt 2 = none ∧
    (holding.advanceTo 5).slot 2 = { holding.slot 2 with holdTime := 5 } ∧
    ((holding.setStation { holding.station with state := .offline }).advanceTo 5).slot 2 = holding.slot 2 := by
  unfold State.countsHold
  decide +kernel

theorem test_lock_premises : home.config.locked = true ∧ exec .lift home = .next (after .lift home) := ⟨rfl, rfl⟩

theorem test_settled_steps : home.Settled ∧ step (home.setPending [.join]) = .next (after .join home) :=
  ⟨home_open.settled, rfl⟩

theorem test_invariants_at_home :
    home.Bounded ∧ home.InboundFits ∧ home.HoldUnderCrank ∧ home.LateUnderWay := by
  refine ⟨?_, ?_, ?_, ?_⟩
  · unfold State.Bounded
    decide +kernel
  · intro f h
    cases h
  · intro h
    cases h
  · unfold State.LateUnderWay
    decide +kernel

theorem test_sound_table : (repOf (phaseNow .run 0) heldClaims none).Sound := by
  unfold Replica.Sound
  decide +kernel

theorem test_locked_fault_stays :
    ((home.badCheck).fault.lock = true) ∧ step ((home.badCheck).setPending [.lift]) = .next (after .lift home.badCheck) ∧
      ¬ emptiesFault .lift home.badCheck := by
  refine ⟨by decide +kernel, rfl, ?_⟩
  rintro (⟨edge, pins, h⟩ | ⟨r, h, _⟩)
  · cases h
  · cases h

/-! The mailbox. -/

/-- A fresh station 3 with role BOTH. -/
def fresh : State := after (.pinReset .rise ⟨3, 3⟩) State.reset

theorem fresh_open : fresh.Open := open_of _ (by decide +kernel)

theorem reset_open : State.reset.Open := open_of _ (by decide +kernel)

theorem test_refused_lift : State.reset.Open ∧ (State.reset.perform .lift).reply.code = .refusedState ∧
    Command.lift.bytes.length ≤ 24 ∧ after .lift State.reset = State.reset.responds .refusedState [] :=
  ⟨reset_open, by decide +kernel⟩

theorem test_first_failing_conditions :
    FirstFails (State.reset.conditions .lift) .refusedState ∧ FirstFails (home.conditions (.claim 4 1 0)) .badArg ∧
    FirstFails (home.conditions (.claim 0 101 0)) .badArg ∧ FirstFails (home.conditions .crankDone) .refusedPhase ∧
    (∀ p ∈ home.conditions .lift, p.1) := by
  refine ⟨?_, ?_, ?_, ?_, ?_⟩
  · left
    refine ⟨?_, rfl⟩
    unfold State.mayAsk
    decide +kernel
  · right
    refine ⟨⟨rfl, rfl⟩, Or.inl ⟨?_, rfl⟩⟩
    intro h
    exact absurd h.1 (by decide)
  · right
    refine ⟨⟨rfl, rfl⟩, Or.inr ⟨⟨by decide, ?_⟩, Or.inr ⟨?_, Or.inl ⟨?_, rfl⟩⟩⟩⟩
    · intro i h
      cases h
      rfl
    · intro i h
      cases h
      rfl
    · intro h
      exact absurd (h 0 rfl).2 (by decide +kernel)
  · right
    refine ⟨⟨Or.inl rfl, rfl⟩, Or.inr ⟨by decide +kernel, Or.inl ⟨by decide +kernel, rfl⟩⟩⟩
  · intro p hp
    rcases List.mem_cons.1 hp with rfl | hp
    · exact ⟨rfl, rfl⟩
    · rw [List.eq_of_mem_singleton hp]
      exact (by decide +kernel : home.link.general.length < 6)

theorem test_no_command_has_this_record : ∀ c : Command, c.sized → c.bytes ≠ [15, 1] := by
  intro c _ h
  cases c
  all_goals
    simp [Command.bytes] at h

theorem test_refusals :
    (after (.spiWriteTransfer ⟨.whole, [0]⟩) home).port.response = some [byteOf ResponseCode.unknown.code] ∧
    (after (.spiWriteTransfer ⟨.whole, [28]⟩) home).port.response = some [byteOf ResponseCode.unknown.code] ∧
    (after (.spiWriteTransfer ⟨.whole, [15, 1]⟩) home).port.response = some [byteOf ResponseCode.badArg.code] ∧
    (after (.spiWriteTransfer ⟨.whole, 27 :: List.replicate 24 0⟩) home).port.response =
      some [byteOf ResponseCode.badArg.code] ∧
    (after .crankDone home).port.response = some [byteOf ResponseCode.refusedPhase.code] ∧
    (after (.announceBudget 1 2) home).port.response = some [byteOf ResponseCode.badArg.code] ∧
    (after (.readHistory 0) home).port.response = some [byteOf ResponseCode.notFrozen.code] ∧
    (after .requestCrank (home.setCrank { CrankUnit.reset with state := .lockout })).port.response =
      some [byteOf ResponseCode.refusedLockout.code] ∧
    (after .lift (with_ home fun l => { l with general := List.replicate 6 .presence })).port.response =
      some [byteOf ResponseCode.queueFull.code] := by decide +kernel

theorem test_claim_premises : home.Open ∧ home.mode = .member ∧ home.slotUnit.leavePending = false ∧
    slotOf 0 = some 0 ∧ (home.part 0).used = true ∧ (home.slot 0).state = .free ∧ (40 : Byte).toNat ≤ (home.part 0).maxAmps ∧
    (home.part 0).minAllowed = true ∧ home.link.general.length < 6 := ⟨home_open, by decide +kernel⟩

theorem test_claim_is_queued : (after (.claim 0 40 10) home).link.general = [.fixed (.claim 0 3 40 10)] ∧
    ((after (.claim 0 40 10) home).slot 0).state = .sending ∧
    (after (.claim 0 40 10) home).port.response = some [1] := by decide +kernel

/-- The CLAIM of slot 0 stands unsent in the lane. -/
def claimed : State := (after (.claim 0 40 10) home).setPort home.port

theorem claimed_open : claimed.Open := open_of _ (by decide +kernel)

theorem test_release_premises :
    (holding.Open ∧ holding.mode.reporting = true ∧ slotOf 0 = some 0 ∧ (holding.slot 0).state.releasable = true ∧
      holding.claimUnsent 0 = false ∧ holding.slotUnit.leavePending = false ∧ holding.link.general.length < 6) ∧
    (claimed.Open ∧ claimed.mode.reporting = true ∧ claimed.claimUnsent 0 = true) :=
  ⟨⟨holding_open, by decide +kernel⟩, claimed_open, by decide +kernel⟩

theorem test_release_answers :
    ((after (.release 0) holding).slot 0).state = .releasing ∧ holding.enabled 0 = true ∧
      (after (.release 0) holding).enabled 0 = false ∧
      (after (.release 0) holding).link.general = [.fixed (.release 0)] ∧
      (after (.release 0) claimed).link.general = [] ∧ ((after (.release 0) claimed).slot 0).state = .free ∧
      (after (.release 0) claimed).port.notices =
        [{ stamp := 0, epoch := some 7, content := .slot 0 none none .withdrawn }] := by decide +kernel

/-- With the general part of the configuration given. -/
def configured : State := (after (.configure 0 0 0 0 0 0 0) fresh).setPort fresh.port

theorem configured_open : configured.Open := open_of _ (by decide +kernel)

def offline : State :=
  (at_ .offline (repOf (phaseNow .stop 0) [] none)).setStation
    { StationUnit.reset with state := .offline, offline := some .leave }

theorem offline_open : offline.Open := open_of _ (by decide +kernel)

theorem no_inbound_fits (s : State) (h : s.link.inbound = []) : s.InboundFits := by
  intro f hf
  rw [h] at hf
  cases hf

theorem test_join_and_leave_premises :
    (configured.Open ∧ configured.InboundFits ∧ configured.link.general.length < 6 ∧ configured.mode = .unconfigured ∧
      configured.config.general.given = true) ∧
    (offline.Open ∧ offline.InboundFits ∧ offline.link.general.length < 6 ∧ offline.mode = .offline ∧
      offline.station.offline = some .leave) ∧
    (home.Open ∧ home.mode = .member ∧ home.slotUnit.leavePending = false ∧ home.boundByCrank = false ∧
      home.link.general.length < 6) :=
  ⟨⟨configured_open, no_inbound_fits _ (by decide +kernel), by decide +kernel⟩,
    ⟨offline_open, no_inbound_fits _ (by decide +kernel), by decide +kernel⟩, home_open, by decide +kernel⟩

theorem test_join_enters_joining :
    (after .join configured).mode = .joining ∧ (after .join configured).config.locked = true ∧
      (after .join configured).link.general = [.fixed (.syncRequest 0)] ∧
      (after .join configured).port.response = some [1] ∧ (after .join offline).replica = none ∧
      (after .join offline).link.general = [.fixed (.syncRequest 0)] := by decide +kernel

theorem test_leave_is_pending :
    (after .leave home).link.general = [.fixed .leave] ∧ (after .leave home).slotUnit.leavePending = true ∧
      (after .leave home).port.response = some [1] := by decide +kernel

theorem test_restart_premises : holding.Open ∧ holding.mode ≠ .unconfigured ∧ holding.mode ≠ .offline :=
  ⟨holding_open, by decide +kernel⟩

theorem test_restart_rejoins :
    (after .restart holding).mode = .joining ∧ (after .restart holding).replica = none ∧
      (after .restart holding).link.general = [.fixed (.syncRequest 0)] ∧
      (after .restart holding).port.notices.map (·.content) =
        [.restarted 0 false, .sync .member .joining .restart] := by decide +kernel

/-- R148, R149, R153: a RESTART keeps a locked fault record, the counters and a frozen history; a FREE slot that draws is
captured. -/
def faulted : State :=
  let s := holding.badCheck
  (s.setHistory { s.history with frozen := true }).setPort holding.port

def drawingFree : State := holding.setPins { holding.pins with feedback := #v[true, false, false, false] }

theorem test_restart_keeps : faulted.Open ∧ faulted.fault.lock = true ∧ (∀ i, faulted.reading i ≠ some true) ∧
    (after .restart faulted).fault = faulted.fault ∧
    (after .restart faulted).history.entries = faulted.history.entries ∧
    drawingFree.reading 0 = some true ∧ (after .restart drawingFree).counter .unclaimedDraw = 1 ∧
    ((after .restart drawingFree).history.entries.map (·.event)).contains (.sync 3 .member .joining .restart) = true ∧
    (after .restart drawingFree).link.heartbeat = none ∧ ((after .restart drawingFree).peer 5) = .reset :=
  ⟨open_of _ (by decide +kernel), by decide +kernel⟩

/-- R131: a draw captured before the restart is captured again by it (log entry 60). -/
theorem test_restart_captures_again :
    let s := (after (.feedbackChange 0 true) home)
    s.Open ∧ s.counter .unclaimedDraw = 1 ∧ (after .restart s).counter .unclaimedDraw = 2 :=
  ⟨open_of _ (by decide +kernel), by decide +kernel⟩

/-- The crank under way, its CRANK_PENDING unsent. -/
def settling : State := (after .requestCrank home).setPort home.port

theorem settling_open : settling.Open := open_of _ (by decide +kernel)

theorem test_request_crank_premises : home.Open ∧ home.HoldUnderCrank ∧ home.mode = .member ∧
    home.slotUnit.leavePending = false ∧ home.namedCrank = true ∧ home.attempts ≠ 3 ∧ home.crank.state = .idle ∧
    home.phaseIs [.stop] = true ∧ home.link.urgent.length < 3 :=
  ⟨home_open, (by intro h; cases h), by decide +kernel⟩

/-- The same crank, its CRANK_PENDING gone out. -/
def sent : State := settling.setLink { settling.link with urgent := [] }

theorem sent_open : sent.Open := open_of _ (by decide +kernel)

theorem test_cancel_premises : (settling.Reports ∧ settling.crank.state.underWay = true ∧
      settling.phaseUnsent .crankPending = true) ∧
    (sent.Reports ∧ sent.crank.state.underWay = true ∧ sent.phaseUnsent .crankPending = false ∧
      (withdrawFrom (sent.link.sending .urgent) Queued.isCrankFrame sent.link.urgent).length < 3) :=
  ⟨⟨⟨settling_open, by decide +kernel, by decide +kernel, by decide +kernel⟩, by decide +kernel⟩,
    ⟨sent_open, by decide +kernel, by decide +kernel, by decide +kernel⟩, by decide +kernel⟩

theorem test_cancel_answers :
    (after .cancelCrank settling).link.urgent = [] ∧ (after .cancelCrank settling).crank = .reset ∧
      (after .cancelCrank settling).port.response = some [0] ∧
      (after .cancelCrank sent).link.urgent = [.fixed (.phase 1 0)] ∧
      (after .cancelCrank sent).port.response = some [1] := by decide +kernel

/-- Station 3 in a phase, with these attempts and this sequencer. -/
def inPhase (p : Phase) (attempts : BitVec 2) (c : CrankState) : State :=
  (at_ .member (repOf (phaseNow p attempts) [] none)).setCrank { CrankUnit.reset with state := c }

theorem cranking_reports (n : BitVec 2) : (inPhase .crank n .cranking).Reports := by
  refine ⟨open_of _ ?_, ?_, ?_, ?_⟩
  · revert n
    decide +kernel
  · left
    rfl
  · rfl
  · revert n
    decide +kernel

theorem test_crank_report_premises : (inPhase .crank 1 .cranking).phaseIs [.crank] = true ∧
    (inPhase .crank 1 .cranking).link.urgent.length < 3 ∧ (inPhase .crank 1 .cranking).nextAttempts = 2 ∧
    (inPhase .crank 2 .cranking).phaseIs [.crank] = true ∧ (inPhase .crank 2 .cranking).nextAttempts = 3 ∧
    (inPhase .crank 3 .cranking).phaseIs [.crank] = true ∧ (inPhase .crank 3 .cranking).attempts = 3 := by decide +kernel

theorem test_crank_reports :
    (after .crankDone (inPhase .crank 1 .cranking)).link.urgent = [.fixed (.phase 4 1)] ∧
      (after .crankDone (inPhase .crank 1 .cranking)).crank = .reset ∧
      (after .crankFailed (inPhase .crank 1 .cranking)).link.urgent = [.fixed (.phase 1 2)] ∧
      (after .crankFailed (inPhase .crank 1 .cranking)).crank = .reset ∧
      (after .crankFailed (inPhase .crank 2 .cranking)).link.urgent = [.fixed (.phase 1 3)] ∧
      (after .crankFailed (inPhase .crank 2 .cranking)).crank =
        { CrankUnit.reset with state := .lockout, lockout := some 10000 } := by decide +kernel

theorem test_engine_and_budget_premises :
    ((inPhase .recover 1 .idle).Reports ∧ (inPhase .recover 1 .idle).link.urgent.length < 3 ∧
      (inPhase .recover 1 .idle).phaseIs [.recover] = true ∧ (inPhase .recover 1 .idle).phaseIs [.run, .recover] = true) ∧
    (home.Open ∧ home.namedSupply = true ∧ home.link.general.length < 6) :=
  ⟨⟨⟨open_of _ (by decide +kernel), by decide +kernel, by decide +kernel, by decide +kernel⟩, by decide +kernel⟩,
    home_open, by decide +kernel⟩

theorem test_engine_and_budget :
    (after .engineRunning (inPhase .recover 1 .idle)).link.urgent = [.fixed (.phase 0 0)] ∧
      (after .engineStopped (inPhase .recover 1 .idle)).link.urgent = [.fixed (.phase 1 1)] ∧
      (after (.announceBudget 1600 1600) home).link.general = [.fixed (.budget 1600 1600)] ∧
      (after (.announceBudget 1601 0) home).link.general = [] ∧
      (after .lift home).link.general = [.fixed .lift] := by decide +kernel

theorem test_configure_premises : fresh.Open ∧ fresh.mode = .unconfigured ∧ fresh.config.locked = false ∧
    (halfOf 0x07 0xD0).toNat = 2000 ∧ (halfOf 0 100).toNat = 100 ∧ (0xE1 : Byte).getLsbD 7 = true ∧
    LoadClass.ofCode ((0xE1 : Byte).extractLsb' 0 3).toNat = some .deferrable ∧ (halfOf 0x0E 0x10).toNat = 3600 ∧
    (0x61 : Byte).getLsbD 7 = false := ⟨fresh_open, by decide +kernel⟩

theorem test_configure_stores :
    (after (.configure 0 0xFF 60 0x07 0xD0 200 30) fresh).config.general =
        { given := true, mask := 0xFF, orphanHold := 60, latchLimit := 2000, crankSettle := 200, crankLockout := 30 } ∧
      (after (.configure 4 0xE1 200 250 250 0x0E 0x10) fresh).part 3 =
        { given := true, used := true, cls := .deferrable, maxAmps := 200, minAllowed := true, settle := 250,
          offDeadline := 250, feedback := true, holdLimit := some 3600 } ∧
      (after (.configure 1 0xE1 0 5 0 0 0) fresh).config = fresh.config ∧
      (after (.configure 1 0x61 0 0 0 0 0) fresh).part 0 =
        { SlotPart.default with given := true } := by decide +kernel

theorem test_read_premises : (∃ bytes, holding.page 0 = some bytes) ∧ holding.mode ≠ .unconfigured ∧
    holding.mode ≠ .joining ∧ holding.replica.isSome = true ∧ Key.ofCode 12 = some (key 3 0) ∧
    stationOf 15 = some 15 ∧ (after .freezeHistory holding).history.frozen = true := by
  refine ⟨⟨_, rfl⟩, ?_⟩
  decide +kernel

theorem test_reads_answer :
    ((after .readConfig holding).port.response.map List.length) = some 37 ∧
      ((after (.readStatus 1) holding).port.response.map List.length) = some 33 ∧
      ((after (.readClaim 12) holding).port.response.map List.length) = some 15 ∧
      ((after (.readPeer 15) holding).port.response.map List.length) = some 21 ∧
      ((after .readFault holding).port.response.map List.length) = some 23 ∧
      ((after (.readHistory 31) (holding.setHistory { holding.history with frozen := true })).port.response.map
        List.length) = some 14 ∧
      (after (.echo [1, 2]) holding).port.response = some [0, 1, 2] := by decide +kernel

/-- R104, R173: a peer's 20 bytes, in the order of the record's fields. -/
theorem test_peer_bytes :
    let p : PeerRecord :=
      { lastValid := some 258, silence := some 9, orphanHold := none, disagree := 4, presence := some (.tainted, 7) }
    let s := holding.changePeer 5 fun _ => p
    (s.peerBytes 5 = [1, 1, 2, 1, 4, 4, 7]) ∧ s.peerBytes 3 = [0, 0, 0, 0, 0xFF, 0xFF, 0xFF] ∧
      (s.rosterBytes 5).take 4 = [0x80, 0x83, 100, 50] ∧ (s.rosterBytes 5).length = 13 ∧
      (s.setReplica none).rosterBytes 5 = List.replicate 13 0 := by decide +kernel

/-- R173: a SLOT notice with state and amount, one whose rule names the state, and one whose rule names the cause
alone. -/
theorem test_slot_notice_bytes : (NoticeContent.slot 2 (some .held) (some 40) .applied).bytes = [2, 1, 40, 0] ∧
    (NoticeContent.slot 2 (some .free) none (.ignored .noRecord)).bytes = [2, 6, 1, 7] ∧
    (NoticeContent.slot 2 none none (.gateOpened true)).bytes = [2, 3, 1] := by decide

/-- R163, R173: without a replica its amounts have a clear presence flag and its small fields are 0xFF. -/
theorem test_replica_page_without_a_replica : State.reset.replicaPage =
    [0xFF, 0, 0, 0, 0, 0, 0, 0xFF, 0xFF, 0, 0, 0, 0, 0, 0, 0, 0, 0, 0xFF, 0xFF, 0xFF] ∧
    (home.replicaPage.drop 1).take 3 = [1, 0, 120] := by decide +kernel

/-- One notice waits, and the notice-lost flag is set. -/
def noticed : State := home.setPort { home.port with
  notices := [{ stamp := 1, epoch := some 2, content := .slot 0 none none .withdrawn }], noticeLost := true }

theorem test_notice_premises : noticed.Open ∧ noticed.port.notices.length = 1 ∧ home.port.notices = [] ∧
    home.mode ≠ .unconfigured := ⟨open_of _ (by decide +kernel), by decide +kernel⟩

theorem test_read_notice : ((after .readNotice noticed).port.response.map (List.take 3)) = some [0, 0, 1] ∧
    (after .readNotice noticed).port.notices = [] ∧ (after .readNotice noticed).port.noticeLost = false ∧
    ((after .readNotice home).port.response.map (List.take 3)) = some [0, 0, 2] := by decide +kernel

/-- W0 fired in SINGLE mode and W1 fired in SEQUENCE mode. -/
def firedUnits : State :=
  (home.setW0 { WatchUnit.reset with state := .fired, reload := 2 }).setW1
    { WatchUnit.reset with state := .fired, sequence := true }

theorem test_watch_premises : firedUnits.Open ∧ firedUnits.mode.live = true ∧
    ((0x40 : Byte).extractLsb' 5 3).toNat = WatchSource.frame.code ∧
    ((0x03 : Byte).extractLsb' 0 2).toNat = Relation.isMatch.code ∧
    WatchSource.frame.allows .isMatch (0 : Half).toInt = true ∧ (firedUnits.unit false).state = .fired ∧
    (firedUnits.unit false).sequence = false ∧ (firedUnits.unit true).sequence = true ∧
    ((after (.setWatch 0 0x80 0x00 5 0 9) home).unit false).state = .armed ∧
    ((after (.setWatch 1 0xC0 0x00 5 0 9) home).unit true).state = .disarmed :=
  ⟨open_of _ (by decide +kernel), by decide +kernel⟩

theorem test_watch_commands :
    (after (.setWatch 0 0x80 0x00 5 0 9) home).w0.counter = 9 ∧
      (after (.setWatch 0 0xC0 0x00 5 0 9) home).w0 = .reset ∧
      (after (.setWatch 0 0x80 0x43 0 0 0) home).w0 = .reset ∧
      (after (.armWatch 0) firedUnits).w0 = { firedUnits.w0 with state := .armed, counter := 2 } ∧
      (after (.armWatch 1) firedUnits).w1 = { firedUnits.w1 with state := .disarmed } := by decide +kernel

/-! The port's transfers. -/

/-- A response of one byte is unread; in the second state a LIFT waits too. -/
def unread : State := home.setPort { home.port with response := some [7] }

def waiting : State := home.setPort
  { home.port with response := some [7], command := some (.ofWrite Command.lift.bytes) }

/-- CS# has fallen on these states: OVERWRITE stands, and a response that its READ may take. -/
def begun : State := after (.spiReadTransfer ⟨.fall, 1⟩) (waiting.setPort { waiting.port with overwrite := true })

/-- CS# has fallen on `home`; then a frame came in. -/
def begunEmpty : State :=
  with_ (after (.spiStatusTransfer ⟨.fall, []⟩) home) fun l => { l with
    inbound := [{ sender := 5, sync := .member, epoch := 7, digest := 0x1234, body := .presence 4 9 }] }

theorem test_transfer_premises :
    (home.Settled ∧ unread.Settled ∧ waiting.Settled ∧ home.resetLow = false ∧ home.port.select = none ∧
      Command.lift.bytes.length ≤ 24) ∧
    (begun.Settled ∧ begun.port.select.map (·.full) = some true ∧ begun.port.command = some (.ofWrite Command.lift.bytes) ∧
      begun.port.response = some [7] ∧ begun.link.inbound = []) ∧
    (begunEmpty.Settled ∧ begunEmpty.port.select.map (·.full) = some false ∧ begunEmpty.port.command = none ∧
      begunEmpty.link.inbound ≠ []) :=
  ⟨⟨home_open.settled, settled_of _ (by decide +kernel), settled_of _ (by decide +kernel), by decide +kernel⟩,
    ⟨settled_of _ (by decide +kernel), by decide +kernel⟩, settled_of _ (by decide +kernel), by decide +kernel⟩

theorem test_transfers :
    (after (.spiWriteTransfer ⟨.whole, Command.lift.bytes⟩) home).link.general = [.fixed .lift] ∧
      (after (.spiReadTransfer ⟨.whole, 1⟩) waiting).link.general = [.fixed .lift] ∧
      (after (.spiReadTransfer ⟨.whole, 1⟩) waiting).port.response = some [1] ∧
      (after (.spiReadTransfer ⟨.whole, 0⟩) waiting).port = { waiting.port with sdo := [waiting.statusByte] } ∧
      (after (.spiWriteTransfer ⟨.whole, [27]⟩) waiting).port.overwrite = true ∧
      ((after (.spiReadTransfer ⟨.whole, 4⟩) home).port.sdo.drop 1) = [0xFF] ∧
      (after (.spiStatusTransfer ⟨.whole, [9, 1]⟩) begun).port.overwrite = false := by decide +kernel

/-- R158: the command is taken while the WRITE is under way, and the record of that WRITE is accepted. -/
theorem test_record_behind_a_taken_command :
    let fallen := after (.spiWriteTransfer ⟨.fall, []⟩) (waiting.setPort { waiting.port with response := none })
    let freed := fallen.setPort { fallen.port with command := none, response := some [1] }
    (after (.spiWriteTransfer ⟨.rise false, [27]⟩) freed).port.overwrite = false ∧
      (after (.spiWriteTransfer ⟨.rise false, [27]⟩) freed).port.command = some (.ofWrite [27]) := by decide +kernel

/-- R159: a record written during an application is taken at the end of it, before anything else. -/
theorem test_record_due_at_the_end_of_an_application :
    let written := after (.spiWriteTransfer ⟨.rise true, [27, 5]⟩) begunEmpty
    written.port.due = true ∧ written.port.response = none ∧ (written.peer 5).presence = none ∧
      (after .presenceFrame written).port.response = some [0, 5] ∧ (after .presenceFrame written).port.due = false ∧
      ((after .presenceFrame written).peer 5).presence = some (.tainted, 9) := by decide +kernel

theorem test_due_premises : (after (.spiWriteTransfer ⟨.rise true, Command.lift.bytes⟩) begunEmpty).port.command =
      some (.ofWrite Command.lift.bytes) ∧
    (after (.spiWriteTransfer ⟨.rise true, Command.lift.bytes⟩) begunEmpty).link.inbound ≠ [] ∧
    (after (.spiWriteTransfer ⟨.rise true, Command.lift.bytes⟩) begunEmpty).resetLow = false := by decide +kernel

theorem test_pin_reset : (after (.pinReset .rise ⟨3, 3⟩) holding).straps = { station := 3, role := .both } ∧
    (after (.pinReset .rise ⟨3, 3⟩) holding).replica = none := by decide +kernel

/-- RESET# is low. -/
def heldReset : State := after (.pinReset .fall ⟨0, 0⟩) holding

theorem test_held_in_reset : heldReset.HeldInReset ∧ heldReset.straps.station = 3 ∧
    after (.spiWriteTransfer ⟨.whole, [27]⟩) heldReset = heldReset ∧ after (.echo []) heldReset = heldReset ∧
    (after .shedFallingEdge heldReset).shedHigh = false ∧
    (after (.pinReset .rise ⟨3, 3⟩) heldReset).resetLow = false ∧
    unread.attention = true ∧ heldReset.attention = false := by
  refine ⟨?_, ?_⟩
  · unfold State.HeldInReset
    rfl
  · decide +kernel

/-! The link. -/

def homeRep : Replica := repOf (phaseNow .stop 0) [] none

def station (s : State) (f : StationUnit → StationUnit) : State := s.setStation (f s.station)

/-- Station 3 ISOLATED, with a probe due. -/
def probing (cause : IsolationCause) : State :=
  with_ ((at_ .isolated homeRep).setStation
    { StationUnit.reset with state := .isolated, isolation := some cause, wasIsolated := true, wasMember := true })
    fun l => { l with probeDue := true }

theorem probing_settled (cause : IsolationCause) : (probing cause).Settled := by
  cases cause
  · exact settled_of _ (by decide +kernel)
  · exact settled_of _ (by decide +kernel)

/-- A PRESENCE waits in the general lane. -/
def beaten : State := with_ home fun l => { l with general := [.presence], heartbeat := some 10 }

theorem test_start_bit_premises :
    (beaten.Settled ∧ beaten.mode.live = true ∧ beaten.link.inbound = [] ∧ beaten.link.tx = none ∧
      beaten.mode ≠ .isolated ∧ beaten.link.urgent = [] ∧ beaten.link.general = [.presence]) ∧
    (settling.Settled ∧ settling.mode.live = true ∧ settling.link.urgent = [.fixed (.phase 2 0)]) ∧
    ((probing .silence).mode.live = true ∧ (probing .silence).mode = .isolated ∧ (probing .silence).link.probeDue = true) :=
  ⟨⟨settled_of _ (by decide +kernel), by decide +kernel⟩, ⟨settled_of _ (by decide +kernel), by decide +kernel⟩,
    by decide +kernel⟩

/-- The PRESENCE of `beaten` in transmission. -/
def sending : State := after .startBit beaten

theorem sending_settled : sending.Settled := settled_of _ (by decide +kernel)

theorem test_start_bit : sending.link.tx = some { source := .general, frame := { sender := 3, sync := .member, epoch := 7, digest := 0x1234, body := .presence 3 0 } } ∧
    (after .lostContention sending).link = beaten.link := by decide +kernel

theorem test_readback_premises : sending.Settled ∧ sending.link.tx.isSome = true ∧ beaten.link.tx = none ∧
    sending.mode.beating = true ∧ sending.fault.lock = false ∧ sending.link.readback = 0 := ⟨sending_settled, by decide +kernel⟩

/-- Two failures stand already. -/
def failing : State := with_ sending fun l => { l with readback := 2 }

theorem test_readback_failure : (after .readbackFailure sending).link.readback = 1 ∧
    (after .readbackFailure sending).link.general = [.presence] ∧
    (after .readbackFailure sending).fault.record.isSome = true ∧ (after .readbackFailure failing).mode = .isolated ∧
    (after .readbackFailure failing).station.isolation = some .readback ∧
    (after .readbackFailure failing).link.heartbeat = none := by decide +kernel

/-- R84: a failed probe. -/
theorem test_failed_probe :
    let s := after .startBit (probing .silence)
    s.Settled ∧ s.link.tx.map (·.source) = some .probe ∧ s.mode = .isolated ∧
      (after .readbackFailure s).link.probeDue = false ∧ (after .readbackFailure s).link.probeTimer = some 100 ∧
      (after .readbackFailure s).counter .readback = 1 := ⟨settled_of _ (by decide +kernel), by decide +kernel⟩

theorem test_completion_premises : sending.Settled ∧ sending.mode ≠ .isolated ∧
    sending.link.tx.map (·.source) = some .general ∧ sending.link.tx.map (·.frame.body.kind) = some .presence :=
  ⟨sending_settled, by decide +kernel⟩

theorem test_completion : (after .frameCompletedClean sending).link.general = [] ∧
    (after .frameCompletedClean sending).link.heartbeat = some 100 ∧
    (after .frameCompletedClean sending).link.inbound.length = 1 := by decide +kernel

/-- TAINTED, with its own LEAVE in transmission. -/
def leaving : State :=
  with_ (at_ .tainted homeRep) fun l => { l with
    general := [.fixed .leave]
    tx := some { source := .general, frame := { sender := 3, sync := .tainted, epoch := 7, digest := 0, body := .leave } } }

theorem test_completion_move_premises :
    ((after .startBit settling).Settled ∧ (after .startBit settling).crank.state = .settling ∧
      (after .startBit settling).link.tx.map (fun t => t.frame.body.isPhase .crankPending) = some true) ∧
    (leaving.Settled ∧ leaving.mode = .tainted) ∧
    ((after .startBit (probing .readback)).Settled ∧ (after .startBit (probing .readback)).silent = false ∧
      (((after .startBit (probing .readback)).setNow 1000).silent = true)) ∧
    ((after .startBit (probing .silence)).Settled ∧
      (after .startBit (probing .silence)).link.tx.map (·.source) = some .probe) :=
  ⟨⟨settled_of _ (by decide +kernel), by decide +kernel⟩, ⟨settled_of _ (by decide +kernel), by decide +kernel⟩,
    ⟨settled_of _ (by decide +kernel), by decide +kernel⟩, settled_of _ (by decide +kernel), by decide +kernel⟩

theorem test_completion_moves :
    (after .frameCompletedClean (after .startBit settling)).crank.hold = true ∧
      (after .frameCompletedClean leaving).mode = .offline ∧
      (after .frameCompletedClean (after .startBit (probing .readback))).mode = .tainted ∧
      (after .frameCompletedClean ((after .startBit (probing .readback)).setNow 1000)).station.isolation = some .silence ∧
      (after .frameCompletedClean (after .startBit (probing .silence))).link.probeTimer = some 100 := by decide +kernel

/-- A cancelled request's CRANK_PENDING is in transmission, its STOP and a new request's CRANK_PENDING behind it. -/
def requestedAgain : State :=
  with_ settling fun l => { l with
    urgent := [.fixed (.phase 2 0), .fixed (.phase 1 0), .fixed (.phase 2 0)]
    tx := some { source := .urgent, frame := frameFrom 3 homeRep (.phase 2 0) } }

/-- R56: the hold begins at the request's own CRANK_PENDING, the second. -/
theorem test_hold_of_the_request : requestedAgain.Settled ∧ requestedAgain.crank.state = .settling ∧
    (after .frameCompletedClean requestedAgain).crank = requestedAgain.crank ∧
    (after .frameCompletedClean (with_ requestedAgain fun l => { l with urgent := [.fixed (.phase 2 0)] })).crank.hold =
      true := ⟨settled_of _ (by decide +kernel), by decide +kernel⟩

def heard : Frame := frameFrom 5 homeRep .lift

theorem test_reception_premises : home.Settled ∧ home.link.tx = none ∧ goodFrame heard.toWire = some heard ∧
    goodFrame { heard.toWire with check := heard.toWire.check + 1 } = none ∧ heard.sender ≠ home.self ∧
    home.mode ≠ .isolated ∧ admits home.mode home.self heard = true ∧ home.link.inbound.length < 8 ∧ home.resetLow = false :=
  ⟨home_open.settled, by decide +kernel⟩

theorem test_reception : (after (.frameReceived heard.toWire) home).link.inbound = [heard] ∧
    (after (.frameReceived { heard.toWire with check := heard.toWire.check + 1 }) home).fault.badChecks = 1 ∧
    (after (.frameReceived { heard.toWire with check := heard.toWire.check + 1 }) home).link = home.link := by decide +kernel

/-- Eight frames stand in the inbound queue. -/
def full : State := with_ home fun l => { l with inbound := List.replicate 8 heard }

/-- R101, R104: a frame heard while ISOLATED. R79: a PRESENCE that meets a full queue. -/
theorem test_reception_beside_the_queue :
    let s := (probing .silence).setNow 40
    let f := frameFrom 5 homeRep (.presence 3 9)
    s.Settled ∧ goodFrame f.toWire = some f ∧ (after (.frameReceived f.toWire) s).members.lastGood = some 40 ∧
      ((after (.frameReceived f.toWire) s).peer 5).lastValid = some 40 ∧
      (after (.frameReceived f.toWire) s).link.inbound = [] ∧
      admits full.mode full.self f = true ∧ f.body.kind.tableChanging = false ∧
      (after (.frameReceived f.toWire) full).link = full.link ∧ (after (.frameReceived f.toWire) full).fault = full.fault ∧
      (after (.frameReceived f.toWire) full).mode = .member := ⟨settled_of _ (by decide +kernel), by decide +kernel⟩

/-- A frame with the station's own number. -/
def echoed : Frame := frameFrom 3 homeRep .lift

theorem test_reception_move_premises :
    (full.Settled ∧ full.InboundFits ∧ full.link.inbound.length = 8 ∧ heard.body.kind.tableChanging = true ∧
      full.resetLow = false) ∧
    (goodFrame echoed.toWire = some echoed ∧ echoed.sender = home.self) ∧
    ((probing .silence).Settled ∧ (probing .silence).InboundFits ∧ (probing .silence).link.readback ≠ 3) := by
  refine ⟨⟨settled_of _ (by decide +kernel), ?_, by decide +kernel⟩, by decide +kernel, probing_settled _,
    no_inbound_fits _ rfl, by decide +kernel⟩
  unfold State.InboundFits
  decide +kernel

theorem test_reception_moves :
    (after (.frameReceived echoed.toWire) home).station.offline = some .duplicate ∧
    (after (.frameReceived heard.toWire) (probing .silence)).mode = .tainted ∧
    (after (.frameReceived heard.toWire) (with_ (probing .silence) fun l => { l with readback := 3 })).station.isolation =
      some .readback := by decide +kernel

/-- R79, R87: an overrun of `full`; `home` with one frame, silence or a duplicate found during its application. -/
def overran : State := after (.frameReceived heard.toWire) full

def oneWaits : State := with_ home fun l => { l with inbound := [heard] }

def wentSilent : State := after .isolationBySilence oneWaits

def metItself : State := after (.frameReceived echoed.toWire) oneWaits

theorem test_late_premises : overran.link.inbound = List.replicate 8 heard ∧ overran.port.due = false ∧
    overran.link.late = [.overrun] ∧ oneWaits.link.late = [] ∧ wentSilent.link.late = [.silence] ∧
    metItself.link.late = [.duplicate] ∧ (overran.applyKind .lift).mode = .member ∧
    (wentSilent.applyKind .lift).mode = .member ∧
    (after (.frameReceived heard.toWire) overran).link.late = [.overrun] := by decide +kernel

theorem test_late_changes : overran.mode = .member ∧ overran.counter .inboundOverrun = 1 ∧
    (after .liftFrame overran).mode = .tainted ∧ (after .liftFrame overran).epoch = some 8 ∧
    (after .liftFrame overran).link.late = [] ∧
    wentSilent.mode = .member ∧ (after .liftFrame wentSilent).station.isolation = some .silence ∧
    metItself.counter .duplicateStation = 1 ∧ metItself.mode = .member ∧
    (after .liftFrame metItself).station.offline = some .duplicate ∧ (after .liftFrame metItself).epoch = some 8 := by
  decide +kernel

/-- R87: a change finds the station already gone: an overrun behind its own LEAVE. -/
theorem test_late_change_that_finds_the_station_gone :
    let s := (with_ home fun l => { l with inbound := [frameFrom 3 homeRep .leave], late := [.overrun, .silence] })
    (after .leaveFrame s).station.offline = some .leave ∧ (after .leaveFrame s).link.late = [] := by decide +kernel

/-! Applications. -/

/-- R96, R78: the station's own SYNC_REQUEST, completing in MEMBER, does not join its inbound queue. -/
theorem test_own_sync_request_is_not_admitted : admits .member 3 (frameFrom 3 homeRep (.syncRequest 7)) = false ∧
    admits .member 3 (frameFrom 5 homeRep (.syncRequest 7)) = true := by decide +kernel

/-- The replica of `holding`: station 3 holds COMFORT in 3.0 and DEFERRABLE in 3.2, and 3.0 holds the gate. -/
def heldRep : Replica := repOf (phaseNow .run 0) heldClaims (some (key 3 0))

/-- Station 3, MEMBER, with this frame of station 5 at the head of its inbound queue. -/
def handed (b : Body) : State := with_ holding fun l => { l with inbound := [frameFrom 5 heldRep b] }

theorem handed_applies (b : Body) : (handed b).Applies (frameFrom 5 heldRep b) heldRep [] :=
  ⟨rfl, rfl, rfl, rfl, by intro h; cases h⟩

theorem handed_fits (b : Body) : (handed b).InboundFits := by
  intro f hf
  rw [List.eq_of_mem_singleton hf]
  cases b <;> rfl

def noCap : CapabilityField := { used := false, cls := 0, maxAmps := 0, settle := 0 }

def usedCap : CapabilityField := { used := true, cls := 3, maxAmps := 100, settle := 50 }

/-- One body of each of the thirteen table-changing kinds. -/
def tableBodies : List Body :=
  [.join 0 usedCap noCap noCap noCap [], .leave, .claim 0 3 40 10, .release 0, .settled (key 3 0) false, .phase 1 0,
   .budget 200 40, .shedRequest 0 0, .lift, .shedFault 0, .stuckClear 0, .absence 6, .reclaim 6]

theorem test_table_bodies_are_the_thirteen_kinds :
    (∀ b ∈ tableBodies, (tableEffect b.kind).isSome = true) ∧ (tableBodies.map Body.kind).Nodup := by decide +kernel

theorem test_table_frames_apply : ∀ b ∈ tableBodies,
    (after (frameRow b.kind) (handed b)).epoch = some 8 ∧ (after (frameRow b.kind) (handed b)).link.inbound = [] := by
  decide +kernel

/-- Slot 0 of station 3 is SENDING over this replica, and a frame of its own stands at the head. -/
def mine (st : LocalState) (r : Replica) (b : Body) : State :=
  with_ (((at_ .member r).putSlot 0 { SlotRecord.reset with
    state := st, values := some { cls := .comfort, requested := 40, minimum := some 10 } }).conclude) fun l => { l with
      inbound := [frameFrom 3 r b] }

theorem mine_applies (st : LocalState) (r : Replica) (b : Body) :
    (mine st r b).Applies (frameFrom 3 r b) r [] := by
  refine ⟨rfl, rfl, rfl, rfl, ?_⟩
  unfold Frame.verdict frameFrom
  simp

/-- What the application of an own frame leaves in slot 0, and what its first notice says. -/
def outcomeOf (st : LocalState) (r : Replica) (b : Body) : LocalState × Option NoticeContent :=
  let t := after (frameRow b.kind) (mine st r b)
  ((t.slot 0).state, (t.port.notices.map (·.content)).head?)

/-- The replica that shows station 3 absent, and one that shows it STUCK in slot 0. -/
def absentRep : Replica := { repOf (phaseNow .run 0) heldClaims none with roster := roster.set 3 .absent }

/-- R15: the four outcomes of an own CLAIM; R16, R17: those of an own RELEASE; R39: an own SETTLED,
and one for a key with no record (log entry 61). -/
theorem test_own_outcomes :
    outcomeOf .sending (repOf (phaseNow .run 0) [] none) (.claim 0 3 40 10) =
      (.held, some (.slot 0 (some .held) (some 40) .applied)) ∧
    outcomeOf .sending absentRep (.claim 0 3 40 10) = (.free, some (.slot 0 (some .free) none (.ignored .absentSender))) ∧
    outcomeOf .sending (repOf (phaseNow .run 0) heldClaims none) (.claim 0 3 40 10) =
      (.held, some (.slot 0 (some .held) (some 40) (.ignored .duplicateKey))) ∧
    outcomeOf .releasing (repOf (phaseNow .run 0) heldClaims none) (.release 0) =
      (.free, some (.slot 0 (some .free) (some 0) .applied)) ∧
    outcomeOf .releasing (repOf (phaseNow .run 0) [claimOf (key 3 0) .comfort .stuck 40 1] none) (.release 0) =
      (.releasing, some (.slot 0 (some .stuck) none (.ignored .stuckHeld))) ∧
    outcomeOf .releasing (repOf (phaseNow .run 0) [] none) (.release 0) =
      (.free, some (.slot 0 (some .free) none (.ignored .noRecord))) ∧
    outcomeOf .held (repOf (phaseNow .run 0) heldClaims (some (key 3 0))) (.settled (key 3 0) true) =
      (.held, some (.slot 0 none none (.gateOpened true))) ∧
    outcomeOf .free homeRep (.settled (key 3 0) true) =
      (.free, some (.slot 0 none none (.ignored .notHolder))) := by decide +kernel

theorem test_own_outcome_premises : (mine .sending homeRep (.claim 0 3 40 10)).InboundFits ∧
    ((mine .sending homeRep .lift).part 0).used = true ∧
    (holding.slot 0).Shows (heldRep.find (key 3 0)) ∧ (holding.slot 0).state.apart = false ∧
    (∀ x ∈ (absentRep.apply (claimEffect (frameFrom 3 absentRep (.claim 0 3 40 10)))).log, x.key ≠ key 3 0) := by
  refine ⟨?_, by decide +kernel, ?_, by decide +kernel, by decide +kernel⟩
  · intro f hf
    rw [List.eq_of_mem_singleton hf]
    rfl
  · exact ⟨rfl, rfl⟩

/-- R125: `holding` with its latches set, a frame of station 5 at the head. -/
def latched (b : Body) : State := with_ (after .shedFallingEdge holding) fun l => { l with
  inbound := [frameFrom 5 heldRep b], urgent := [.fixed (.shedRequest 1 0)] }

theorem test_explaining_frames : ((latched .lift).slot 0).latch = true ∧
    ((after .liftFrame (latched .lift)).slot 0).latch = true ∧
    ((after .shedRequestFrame (latched (.shedRequest 0 0))).slot 0).latch = false ∧
    (after .shedRequestFrame (latched (.shedRequest 0 0))).slotUnit.latchLimit = none ∧
    (after .shedRequestFrame (latched (.shedRequest 0 0))).link.urgent = [] ∧
    Explains (frameFrom 5 heldRep (.shedRequest 0 0)) (shedRequestEffect (frameFrom 5 heldRep (.shedRequest 0 0)) heldRep) ∧
    (latched .lift).w0.state ≠ .armed ∧ (latched .lift).w1.state ≠ .armed := by
  unfold Explains
  decide +kernel

/-- ENTERING over a replica that shows station 3 absent, its own frame at the head. -/
def entering (b : Body) : State :=
  with_ (at_ .entering absentRep) fun l => { l with inbound := [frameFrom 3 absentRep b] }

def bareJoin : Body := .join 3 usedCap noCap noCap noCap []

theorem test_state_change_premises :
    (entering bareJoin).Applies (frameFrom 3 absentRep bareJoin) absentRep [] ∧
    (handed (.absence 3)).RejoinsAfter (frameFrom 5 heldRep (.absence 3)) none
      (heldRep.applied (absenceEffect (frameFrom 5 heldRep (.absence 3)))) ∧
    (handed (.absence 3)).inGeneral Queued.isJoin = false ∧ (handed (.absence 3)).link.general.length < 6 :=
  ⟨⟨rfl, rfl, rfl, rfl, by decide +kernel⟩, Or.inl ⟨rfl, rfl⟩, by decide +kernel⟩

/-- R100, R118, R109: the own JOIN, the own LEAVE and an ABSENCE about itself. -/
theorem test_state_changes : (after .joinFrame (entering bareJoin)).mode = .member ∧
    (after .joinFrame (entering bareJoin)).station.wasMember = true ∧
    (after .leaveFrame (mine .held heldRep .leave)).station.offline = some .leave ∧
    (after .absenceFrame (handed (.absence 3))).mode = .entering ∧
    (after .absenceFrame (handed (.absence 3))).link.general = [.fixed (handed (.absence 3)).joinBody] ∧
    (after .absenceFrame (handed (.absence 6))).mode = .member := by decide +kernel

/-- R100: an own JOIN whose fields are out of range leaves the station absent, and is queued again. -/
theorem test_rejoin : let b : Body := .join 9 usedCap noCap noCap noCap []
    (after .joinFrame (entering b)).mode = .entering ∧
      (after .joinFrame (entering b)).link.general = [.fixed (entering b).joinBody] ∧
      (entering b).RejoinsAfter (frameFrom 3 absentRep b) (some .badField)
        (absentRep.applied (joinEffect (frameFrom 3 absentRep b))) := by
  refine ⟨by decide +kernel, by decide +kernel, Or.inr ⟨rfl, rfl, rfl, ?_⟩⟩
  decide +kernel

/-- A frame one epoch ahead: station 3 yields to it. -/
def ahead : Frame := { frameFrom 5 heldRep .lift with epoch := 8 }

def outrun : State := with_ holding fun l => { l with inbound := [ahead] }

theorem test_yield_premises : outrun.link.inbound = [ahead] ∧ outrun.replica = some heldRep ∧
    ahead.verdict outrun.mode outrun.self heldRep = .yields ∧ ahead.body = .lift ∧ outrun.fault.lock = false := by
  decide +kernel

theorem test_yield : (after .liftFrame outrun).mode = .tainted ∧ (after .liftFrame outrun).epoch = some 7 ∧
    (after .liftFrame outrun).counter .digestYield = 1 := by decide +kernel

/-- Station 3 in a state, with this general lane and a SYNC_REQUEST of station 5 at its head. -/
def asked (mode : StationState) (lane : List Queued) : State :=
  with_ (at_ mode heldRep) fun l => { l with general := lane, inbound := [frameFrom 5 heldRep (.syncRequest 2)] }

theorem test_sync_frame_premises :
    (handed (.presence 4 9)).Applies (frameFrom 5 heldRep (.presence 4 9)) heldRep [] ∧
    (handed (.syncRequest 2)).Applies (frameFrom 5 heldRep (.syncRequest 2)) heldRep [] ∧
    ((handed (.syncRequest 2)).mode = .member ∧ (handed (.syncRequest 2)).link.general = []) ∧
    (asked .tainted []).Applies (frameFrom 5 heldRep (.syncRequest 2)) heldRep [] ∧
    (asked .member [.snapshot 5]).Applies (frameFrom 5 heldRep (.syncRequest 2)) heldRep [] ∧
    (stationOf 6 = some 6 ∧ (handed (.snapshot 6 7 [])).mode ≠ .joining ∧ (handed (.snapshot 6 7 [])).mode ≠ .tainted ∧
      (6 : Station) ≠ holding.self) :=
  ⟨handed_applies _, handed_applies _, by decide +kernel, ⟨rfl, rfl, rfl, rfl, by decide +kernel⟩,
    ⟨rfl, rfl, rfl, rfl, by decide +kernel⟩, by decide +kernel⟩

theorem test_sync_frames :
    ((after .presenceFrame (handed (.presence 4 9))).peer 5).presence = some (.tainted, 9) ∧
      (after .syncRequestFrame (handed (.syncRequest 2))).link.general = [.snapshot 5] ∧
      (after .syncRequestFrame (asked .tainted [])).link.general = [] ∧
      (after .syncRequestFrame (asked .member [.snapshot 5])).link.general = [.snapshot 5] ∧
      (after .snapshotFrame (with_ (handed (.snapshot 6 7 [])) fun l => { l with
        general := [.snapshot 6, .presence] })).link.general = [.presence] := by decide +kernel

/-- R70: an answer that meets a full lane. -/
theorem test_sync_frame_full_lane :
    let s := asked .member (List.replicate 6 (.fixed .lift))
    s.Applies (frameFrom 5 heldRep (.syncRequest 2)) heldRep [] ∧ s.fault.lock = false ∧
      (after .syncRequestFrame s).link.general = s.link.general ∧
      (after .syncRequestFrame s).fault.record.map (·.frame) = some (some .snapshot) :=
  ⟨⟨rfl, rfl, rfl, rfl, by decide +kernel⟩, by decide +kernel⟩

/-- A valid replica whose digest is the computed one. -/
def goodRep : Replica := { heldRep with digest := heldRep.computeDigest }

theorem serialize_of_digest (r : Replica) (d : Half) : ({ r with digest := d } : Replica).serialize = r.serialize := rfl

theorem computeDigest_of_digest (r : Replica) (d : Half) :
    ({ r with digest := d } : Replica).computeDigest = r.computeDigest := by
  unfold Replica.computeDigest
  rw [serialize_of_digest]

theorem valid_of_digest (r : Replica) (d : Half) : ({ r with digest := d } : Replica).valid = r.valid := rfl

theorem goodRep_parses : Replica.parse 7 heldRep.serialize = some { heldRep with digest := 0 } := by
  decide +kernel

theorem heldRep_tabled : ({ heldRep with digest := 0 } : Replica).tabled = { heldRep with digest := 0 } := by
  decide +kernel

theorem heldRep_coherent : ({ heldRep with digest := 0 } : Replica).claims.all Claim.coherent = true := by decide +kernel

theorem heldRep_valid : heldRep.valid = true := by decide +kernel

theorem good_digest (r : Replica) (d : Half) (h : d = r.computeDigest) :
    ({ r with digest := d } : Replica).digest = ({ r with digest := d } : Replica).computeDigest := by
  rw [computeDigest_of_digest]
  exact h

theorem test_image_premises : goodRep.valid = true ∧ goodRep.digest = goodRep.computeDigest := by
  unfold goodRep
  refine ⟨?_, good_digest heldRep _ rfl⟩
  rw [valid_of_digest]
  exact heldRep_valid

theorem loads_of {e te td : Half} {image : List Byte} {spelt : Replica} (hp : Replica.parse e image = some spelt)
    (he : e = te) (hs : spelt.serialize = image) (hc : spelt.claims.all Claim.coherent = true)
    (hd : spelt.tabled.computeDigest = td) :
    Replica.ofImage e image te td = some { spelt.tabled with digest := td } := by
  unfold Replica.ofImage
  rw [hp]
  exact if_pos ⟨he, hs, hc, hd⟩

/-- A replica whose image spells it, with the digest of its image. -/
theorem image_loads (r : Replica) (hp : Replica.parse r.epoch r.serialize = some { r with digest := 0 })
    (ht : ({ r with digest := 0 } : Replica).tabled = { r with digest := 0 })
    (hc : ({ r with digest := 0 } : Replica).claims.all Claim.coherent = true) :
    Replica.ofImage r.epoch r.serialize r.epoch r.computeDigest = some { r with digest := r.computeDigest } := by
  rw [loads_of hp rfl (serialize_of_digest _ _) hc (by rw [ht, computeDigest_of_digest]), ht]

theorem goodRep_loads : Replica.ofImage 7 heldRep.serialize 7 heldRep.computeDigest = some goodRep :=
  image_loads heldRep goodRep_parses heldRep_tabled heldRep_coherent

/-- The replica that holds COMFORT in 3.0, in a phase and with a gate holder. -/
def imaged (p : Phase) (gate : Option Key) : Replica := repOf (phaseNow p 0) heldClaims gate

theorem imaged_loads : ∀ x ∈ ([(.run, none), (.run, some (key 5 0)), (.crankPending, none), (.crank, none)] :
      List (Phase × Option Key)),
    Replica.ofImage 7 (imaged x.1 x.2).serialize 7 (imaged x.1 x.2).computeDigest =
      some { imaged x.1 x.2 with digest := (imaged x.1 x.2).computeDigest } := by
  intro x hx
  refine image_loads (imaged x.1 x.2) ?_ ?_ ?_ <;> (revert x; decide +kernel)

/-- A JOINING station with this image at the head of its inbound queue. -/
def loading (image : List Byte) : State :=
  with_ (at_ .joining heldRep) fun l => { l with
    inbound := [{ frameFrom 5 goodRep (.snapshot 3 7 image) with epoch := 7 }] }

theorem test_snapshot_premises : (loading []).mode = .joining ∧ Replica.ofImage 7 [] 7 heldRep.computeDigest = none ∧
    Replica.ofImage 7 heldRep.serialize 7 heldRep.computeDigest = some goodRep := ⟨by decide +kernel, rfl, goodRep_loads⟩

theorem test_bad_snapshot : (after .snapshotFrame (loading [])).fault.badChecks = 1 ∧
    (after .snapshotFrame (loading [])).mode = .joining := by decide +kernel

/-- A MEMBER that yields at a SNAPSHOT addressed to it, one epoch ahead. -/
def yieldingAt (image : List Byte) : State :=
  with_ holding fun l => { l with inbound := [{ frameFrom 5 goodRep (.snapshot 3 7 image) with epoch := 8 }] }

theorem test_yielding_load_premises : (yieldingAt []).replica = some heldRep ∧ hasOwnLeave (yieldingAt []).self [] = false ∧
    Frame.verdict { frameFrom 5 goodRep (.snapshot 3 7 []) with epoch := 8 } .member 3 heldRep = .yields ∧
    (after .snapshotFrame (yieldingAt [])).mode = .tainted ∧
    (after .snapshotFrame (yieldingAt [])).fault.badChecks = 1 ∧
    (after .snapshotFrame (yieldingAt [])).counter .digestYield = 1 := by decide +kernel

/-- Log entry 21: its own completed LEAVE behind the SNAPSHOT takes it OFFLINE, and it loads nothing. -/
theorem test_yield_with_own_leave :
    let s := with_ (yieldingAt []) fun l => { l with inbound := l.inbound ++ [frameFrom 3 heldRep .leave] }
    (after .snapshotFrame s).mode = .offline ∧ (after .snapshotFrame s).fault.badChecks = 0 := by decide +kernel

/-- R172: an image with R above S and its records out of key order passes the four checks. -/
def rough : Replica := { heldRep with claims := heldRep.claims.reverse, phase := { heldRep.phase with reserve := 60000 } }

theorem test_rough_image_parses : Replica.parse 7 rough.serialize = some { rough with digest := 0 } ∧
    rough.claims.all Claim.coherent = true ∧ rough.valid = false ∧
    ({ rough with digest := 0 } : Replica).tabled.claims = heldRep.claims := by decide +kernel

/-! Own effects. -/

/-- Station 6 is absent. -/
def stranger (b : Body) : Frame := frameFrom 6 heldRep b

def friend (b : Body) : Frame := frameFrom 3 heldRep b

theorem test_ignored_frames : ∀ b ∈ tableBodies, b.kind ≠ .join →
    ∃ effect, tableEffect b.kind = some effect ∧ (effect (stranger b) heldRep).ignored = some .absentSender := by
  decide +kernel

/-- The checks of a CLAIM, in their order, and one that passes. -/
theorem test_claim_checks :
    (claimEffect (stranger (.claim 0 3 40 10)) heldRep).ignored = some .absentSender ∧
    (claimEffect (friend (.claim 1 6 40 10)) heldRep).ignored = some .badField ∧
    (claimEffect (friend (.claim 1 5 40 40)) heldRep).ignored = some .badField ∧
    (claimEffect (friend (.claim 3 5 40 10)) heldRep).ignored = some .noCapability ∧
    (claimEffect (friend (.claim 1 4 40 10)) heldRep).ignored = some .classMismatch ∧
    (claimEffect (friend (.claim 1 5 101 10)) heldRep).ignored = some .overCapability ∧
    (claimEffect (friend (.claim 0 3 100 0)) heldRep).ignored = some .duplicateKey ∧
    (claimEffect (friend (.claim 1 5 100 0)) { heldRep with arrival := 4294967295 }).ignored = some .arrivalsExhausted ∧
    (claimEffect (friend (.claim 1 5 100 0)) { heldRep with arrival := 4294967294 }).rep.find (key 3 1) = some
      { key := key 3 1, cls := .critical, requested := 100, minimum := none, held := 0, state := .waiting, prior := none,
        arrival := 4294967294, skip := 0 } := by decide +kernel

/-- 3.0 is STUCK and holds the gate. -/
def stuckRep : Replica := repOf (phaseNow .run 0) [claimOf (key 3 0) .comfort .stuck 40 1] (some (key 3 0))

theorem test_release_and_settled_checks :
    (releaseEffect (stranger (.release 0)) heldRep).ignored = some .absentSender ∧
    (releaseEffect (friend (.release 4)) heldRep).ignored = some .badField ∧
    (releaseEffect (friend (.release 1)) heldRep).ignored = some .noRecord ∧
    (releaseEffect (friend (.release 0)) stuckRep).ignored = some .stuckHeld ∧
    (releaseEffect (friend (.release 0)) heldRep).rep.gate = none ∧
    (releaseEffect (friend (.release 2)) heldRep).rep.gate = some (key 3 0) ∧
    (settledEffect (stranger (.settled (key 3 0) true)) heldRep).ignored = some .absentSender ∧
    (settledEffect (frameFrom 5 heldRep (.settled (key 3 0) true)) heldRep).ignored = some .badField ∧
    (settledEffect (friend (.settled (key 3 2) true)) heldRep).ignored = some .notHolder ∧
    (settledEffect (friend (.settled (key 3 0) true)) heldRep).rep.gate = none := by decide +kernel

/-- Every pair of phases: the nine legal steps, STOP to STOP with attempts 0 among them, and no other. -/
theorem test_phase_steps :
    (([.run, .stop, .crankPending, .crank, .recover] : List Phase).map fun old =>
      ([0, 1, 2, 3, 4] : List (BitVec 3)).map fun code =>
        (phaseEffect (friend (.phase code 0)) (repOf (phaseNow old 0) [] none)).ignored.isNone) =
      [[false, true, false, false, false], [false, true, true, false, false], [false, true, false, true, false],
       [false, true, false, false, true], [true, true, false, false, false]] ∧
    (phaseEffect (friend (.phase 1 1)) homeRep).ignored = some .illegalStep ∧
    (phaseEffect (friend (.phase 5 0)) homeRep).ignored = some .badField ∧
    (phaseEffect (frameFrom 5 homeRep (.phase 1 0)) homeRep).ignored = some .notRole ∧
    (phaseEffect (stranger (.phase 1 0)) homeRep).ignored = some .absentSender := by decide +kernel

theorem test_budget_and_brownout :
    (budgetEffect (stranger (.budget 1600 1600)) homeRep).ignored = some .absentSender ∧
    (budgetEffect (frameFrom 5 homeRep (.budget 1600 1600)) homeRep).ignored = some .notRole ∧
    (budgetEffect (friend (.budget 1601 0)) homeRep).ignored = some .badField ∧
    (budgetEffect (friend (.budget 1600 1601)) homeRep).ignored = some .badField ∧
    (budgetEffect (friend (.budget 1600 1600)) homeRep).rep.phase.ceiling = 1600 ∧
    (shedRequestEffect (stranger (.shedRequest 0 9)) homeRep).ignored = some .absentSender ∧
    (shedRequestEffect (friend (.shedRequest 2 9)) homeRep).ignored = some .badField ∧
    (shedRequestEffect (friend (.shedRequest 1 9)) homeRep).rep.phase.brownout = true ∧
    (liftEffect (stranger .lift) homeRep).ignored = some .absentSender ∧
    (liftEffect (friend .lift) { homeRep with phase := { homeRep.phase with brownout := true } }).rep.phase.brownout =
      false := by decide +kernel

/-- R48, log entry 62: a BUDGET that ends a brownout writes S before brownout. -/
theorem test_phase_entries :
    let r : Replica := { heldRep with phase := { heldRep.phase with brownout := true, ceiling := 160 } }
    let t := after .budgetFrame (mine .held r (.budget 200 40))
    (t.history.entries.map (·.event)).filter (fun e => match e with
      | .ceiling .. | .brownout .. | .phase .. => true
      | _ => false) = [.ceiling 160 200, .brownout true false] := by decide +kernel

theorem test_stuck_frame_premises : heldRep.isPresent (friend .lift).sender = true ∧ slotOf 0 = some 0 ∧
    heldRep.find (key 3 0) = some (claimOf (key 3 0) .comfort .held 40 1) ∧
    stuckRep.find (key 3 0) = some (claimOf (key 3 0) .comfort .stuck 40 1) := by decide +kernel

theorem test_stuck_frames :
    (shedFaultEffect (friend (.shedFault 0)) heldRep).rep.find (key 3 0) = some (claimOf (key 3 0) .comfort .stuck 40 1) ∧
    (shedFaultEffect (friend (.shedFault 0)) stuckRep).ignored = some .notApplicable ∧
    (stuckClearEffect (friend (.stuckClear 0)) stuckRep).rep.find (key 3 0) =
      some (claimOf (key 3 0) .comfort .shed 0 1) ∧
    (stuckClearEffect (friend (.stuckClear 0)) stuckRep).rep.gate = none ∧
    (stuckClearEffect (friend (.stuckClear 0)) heldRep).ignored = some .notStuck := by decide +kernel

/-- Station 5 holds a record in each of four states, and CRITICAL ones that wait and are shed. -/
def peerRep : Replica := repOf (phaseNow .run 0)
  [claimOf (key 5 0) .comfort .held 40 1, claimOf (key 5 1) .restart .stuck 40 2,
   claimOf (key 5 2) .deferrable .waiting 0 3, claimOf (key 5 3) .critical .waiting 0 4] (some (key 5 0))

/-- Station 6, absent, left an orphan that can be reclaimed, one of CRITICAL and one that was STUCK. -/
def orphanRep : Replica := repOf (phaseNow .run 0)
  [{ claimOf (key 6 0) .comfort .orphaned 40 1 with prior := some .held },
   { claimOf (key 6 1) .critical .orphaned 40 2 with prior := some .held },
   { claimOf (key 6 2) .deferrable .orphaned 40 3 with prior := some .stuck }] none

theorem test_absence_premises : peerRep.Sound ∧ orphanRep.Sound ∧ peerRep.isPresent 3 = true ∧ stationOf 5 = some 5 ∧
    (friend .lift).sync = .member ∧ peerRep.isPresent 5 = true ∧ orphanRep.isPresent 6 = false := by
  unfold Replica.Sound
  decide +kernel

theorem test_absence_and_reclaim :
    ((absenceEffect (friend (.absence 5)) peerRep).rep.claims.map fun c => (c.key.slot, c.state, c.held, c.prior)) =
      [(0, .orphaned, 40, some .held), (1, .orphaned, 40, some .stuck), (3, .waiting, 0, none)] ∧
    (absenceEffect (friend (.absence 6)) peerRep).ignored = some .alreadyAbsent ∧
    (reclaimEffect (friend (.reclaim 6)) orphanRep).rep.claims.map (·.key.slot) = [1, 2] ∧
    (reclaimEffect (friend (.reclaim 5)) orphanRep).ignored = some .notAbsent := by decide +kernel

/-- R50: station 5 is the supply station and the crank station, a crank under way. -/
def peerRoles : Replica := { peerRep with phase := { peerRep.phase with
  phase := .crank, crankStation := some 5, supplyStation := some 5 } }

theorem test_absence_of_the_role_stations : peerRoles.Sound ∧
    (absenceEffect (friend (.absence 5)) peerRoles).rep.phase = { peerRoles.phase with
      ceiling := 60, reserve := 40, announced := false, supplyStation := none, crankStation := none, phase := .stop } ∧
    (absenceEffect (friend (.absence 5)) peerRoles).rep.gate = some (key 5 0) ∧
    (reclaimEffect (friend (.reclaim 6)) { orphanRep with gate := some (key 6 0) }).rep.gate = none := by
  unfold Replica.Sound
  decide +kernel

/-- A JOIN of station 3 that resumes slot 0 and enters slot 1 anew. -/
def joinBack : Body := .join 3 usedCap { usedCap with cls := 5 } noCap noCap
  [{ slot := 0, cls := 3, wasOn := true, requested := 40, minimum := 10 },
   { slot := 1, cls := 5, wasOn := false, requested := 20, minimum := 0 }]

theorem test_join_premises : heldRep.Sound ∧ Role.ofCode (3 : Byte).toNat = some .both ∧ usedCap.capability.isSome = true ∧
    ({ usedCap with cls := 5 } : CapabilityField).capability.isSome = true ∧ noCap.capability.isSome = true ∧
    heldRep.isPresent 3 = true := by
  unfold Replica.Sound
  decide +kernel

theorem test_join_and_leave :
    ((joinEffect (friend joinBack) heldRep).rep.claims.map fun c => (c.key.slot, c.state, c.held, c.arrival)) =
      [(0, .held, 40, 1), (1, .waiting, 0, 9)] ∧
    (joinEffect (friend joinBack) heldRep).outcomes = [(0, .resumed), (1, .entered), (2, .removed)] ∧
    (leaveEffect (friend .leave) heldRep).rep.claims = [] := by decide +kernel

/-- R37, R115, R117: the gate opens where its holder leaves, or is removed or replaced by a JOIN; resumed, it stays. -/
theorem test_join_and_leave_gate :
    (leaveEffect (friend .leave) heldRep).rep.gate = none ∧ (joinEffect (friend joinBack) heldRep).rep.gate = some (key 3 0) ∧
    (joinEffect (friend (.join 3 usedCap noCap noCap noCap [])) heldRep).rep.gate = none ∧
    (joinEffect (friend (.join 3 usedCap noCap noCap noCap
      [{ slot := 0, cls := 3, wasOn := false, requested := 40, minimum := 10 }])) heldRep).rep.gate = none := by
  decide +kernel

/-- R115, R116 and log entry 39: an entry of the wrong class is discarded with its cause, and its slot's record goes. -/
theorem test_discarded_entry :
    let caps := #v[Capability.mk true .comfort 100 50, .unused, .unused, .unused]
    let entry : EntryField := { slot := 0, cls := 5, wasOn := true, requested := 40, minimum := 10 }
    let e := joinEffect (friend (.join 3 usedCap noCap noCap noCap [entry])) heldRep
    entryFor 0 [entry] = some entry ∧ entryFailure caps [] entry = some .classMismatch ∧ e.rep.find (key 3 0) = none ∧
      (0, .discarded .classMismatch) ∈ e.outcomes := by decide +kernel

/-- R114, R117: the crank station returns with role NONE, a crank under way; and it leaves. -/
theorem test_role_fields :
    (joinEffect (friend (.join 0 usedCap noCap noCap noCap [])) (repOf (phaseNow .crank 1) [] none)).rep.phase =
      { phaseNow .stop 1 with crankStation := none, supplyStation := none } ∧
    (leaveEffect (friend .leave) homeRep).rep.phase =
      { phaseNow .stop 0 with crankStation := none, supplyStation := none } := by decide +kernel

/-! Budget, shedding and admission. -/

theorem test_available_premises : ∀ p ∈ ([.run, .stop, .crankPending, .crank, .recover] : List Phase),
    (phaseNow p 0).inRange = true ∧ (repOf (phaseNow p 0) [] none).gate = none ∧
    ({ phaseNow p 0 with brownout := true }).low = 0 := by decide +kernel

theorem test_yield_rule_premises : heard.sync = .member ∧ ahead.sync = .member ∧
    ¬ (ahead.epoch = heldRep.epoch ∧ ahead.digest = heldRep.digest) ∧ (ahead.epoch - heldRep.epoch).toNat = 1 ∧
    ({ ahead with epoch := 7, digest := 1 }).verdict .member 6 heldRep = .yields ∧
    ({ ahead with epoch := 7, digest := 1 }).verdict .member 4 heldRep = .differs ∧
    ({ ahead with epoch := 7 + 32767 }).verdict .member 3 heldRep = .yields ∧
    ({ ahead with epoch := 7 + 32768 }).verdict .member 3 heldRep = .differs ∧
    ({ ahead with epoch := 7 + 32769 }).verdict .member 6 heldRep = .differs := by decide +kernel

def waitingClaim : Claim := claimOf (key 3 0) .comfort .waiting 0 1

theorem test_admission_test_premises : waitingClaim.inRange = true ∧ waitingClaim.state = .waiting ∧
    fit 40 0 waitingClaim = some (.held, 40) ∧ fit 39 0 waitingClaim = some (.trimmed, 39) ∧
    fit 10 0 waitingClaim = some (.trimmed, 10) ∧ fit 9 0 waitingClaim = none ∧ fit 9 10 waitingClaim = none ∧
    fit 39 0 { waitingClaim with minimum := none } = none := by decide +kernel

/-- Two held claims over a limit of 50 units: the DEFERRABLE one goes first. -/
theorem test_shedding : heldRep.charged = 80 ∧
    ((sheddingPass { rep := { heldRep with phase := { heldRep.phase with ceiling := 50 } }, log := [] }).rep.claims.map
      fun c => (c.key.slot, c.held)) = [(0, 40), (2, 10)] := by decide +kernel

theorem test_admission_premises :
    (admissionPass [] { rep := heldRep, log := [] }).2 = none ∧ heldRep.gate.isSome = true ∧
    (admissionPass [] { rep := repOf (phaseNow .run 0) [waitingClaim] none, log := [] }).2 = some (key 3 0) ∧
    (repOf (phaseNow .crank 0) [waitingClaim] none).phase.phase = .crank := by decide +kernel

/-- A big RESTART claim heads the queue, with this skip count, before a COMFORT claim that fits. -/
def overtaken (skip : Nat) : Replica := repOf (phaseNow .run 0)
  [waitingClaim, { claimOf (key 5 0) .restart .waiting 0 2 with requested := 200, minimum := none, skip := skip }] none

/-- R31, R35, R36: an entry that does not fit is passed over and its skip count raised; at 8 it is a barrier. R33: a
TRIMMED claim grows. -/
theorem test_admission_walk :
    (admissionPass [] { rep := overtaken 7, log := [] }).2 = some (key 3 0) ∧
    ((admissionPass [] { rep := overtaken 7, log := [] }).1.rep.claims.map fun c => (c.state, c.skip)) =
      [(.held, 0), (.waiting, 8)] ∧
    (admissionPass [] { rep := overtaken 8, log := [] }).2 = none ∧
    (admissionPass [key 3 0] { rep := overtaken 7, log := [] }).2 = none ∧
    fit 80 50 { waitingClaim with state := .trimmed, held := 15 } = some (.held, 40) ∧
    fit 60 50 { waitingClaim with state := .trimmed, held := 15 } = some (.trimmed, 25) ∧
    fit 50 50 { waitingClaim with state := .trimmed, held := 15 } = none := by decide +kernel

/-! Timers. -/

/-- The heartbeat of station 3 stands at 10 ms. -/
def beating (mode : StationState) (lane : List Queued) : State :=
  with_ (at_ mode homeRep) fun l => { l with heartbeat := some 10, general := lane }

theorem test_heartbeat_premises :
    ((beating .member [.presence]).Settled ∧ (beating .member [.presence]).inGeneral Queued.isPresence = true) ∧
    ((beating .member []).Settled ∧ (beating .member []).inGeneral Queued.isPresence = false) ∧
    ((beating .entering []).Settled ∧ (beating .entering []).inGeneral Queued.isPresence = false ∧
      (beating .entering []).inGeneral Queued.isJoin = false) ∧
    ((beating .entering [.presence]).Settled ∧ (beating .entering [.presence]).inGeneral Queued.isJoin = false) ∧
    ((beating .entering [.fixed joinBack]).Settled ∧ (beating .entering [.fixed joinBack]).inGeneral Queued.isJoin = true ∧
      (beating .entering [.fixed joinBack]).inGeneral Queued.isPresence = false) :=
  ⟨⟨settled_of _ (by decide +kernel), by decide +kernel⟩, ⟨settled_of _ (by decide +kernel), by decide +kernel⟩,
    ⟨settled_of _ (by decide +kernel), by decide +kernel⟩, ⟨settled_of _ (by decide +kernel), by decide +kernel⟩,
    settled_of _ (by decide +kernel), by decide +kernel⟩

theorem test_heartbeat :
    (after .heartbeatExpiry (beating .member [.presence])).link.general = [.presence] ∧
    (after .heartbeatExpiry (beating .member [])).link.general = [.presence] ∧
    (after .heartbeatExpiry (beating .entering [])).link.general.map Queued.kind = [.presence, .join] ∧
    (after .heartbeatExpiry (beating .entering [.presence])).link.general.map Queued.kind = [.presence, .join] ∧
    (after .heartbeatExpiry (beating .entering [.fixed joinBack])).link.general.map Queued.kind = [.join, .presence] ∧
    (after .heartbeatExpiry (beating .entering [.fixed joinBack, .presence])).link.general.map Queued.kind =
      [.join, .presence] ∧
    (after .heartbeatExpiry (beating .member [])).link.heartbeat = some 110 ∧
    (after .heartbeatExpiry (beating .member [])).now = 10 := by decide +kernel

/-- R70: PRESENCE and JOIN at a full lane, and at one with room for one. -/
theorem test_heartbeat_full_lane :
    let s := jammed (beating .member [])
    let t := jammed (beating .entering [])
    let u := beating .entering (List.replicate 5 (.fixed .lift))
    s.Settled ∧ t.Settled ∧ u.Settled ∧ s.inGeneral Queued.isPresence = false ∧ t.inGeneral Queued.isJoin = false ∧
      (after .heartbeatExpiry s).counter .outboundFull = 1 ∧ (after .heartbeatExpiry s).link.heartbeat = some 110 ∧
      (after .heartbeatExpiry s).link.general = s.link.general ∧
      (after .heartbeatExpiry t).counter .outboundFull = 2 ∧ (after .heartbeatExpiry u).counter .outboundFull = 1 ∧
      (after .heartbeatExpiry u).link.general = u.link.general ++ [.presence] ∧
      (after .heartbeatExpiry u).fault.record.map (·.frame) = some (some .join) :=
  ⟨settled_of _ (by decide +kernel), settled_of _ (by decide +kernel), settled_of _ (by decide +kernel), by decide +kernel⟩

theorem test_probe_premises : (with_ (probing .silence) fun l => { l with probeTimer := some 5 }).Settled ∧
    (after .probeDue (with_ (probing .silence) fun l => { l with probeTimer := some 5, probeDue := false })).link.probeDue =
      true := ⟨settled_of _ (by decide +kernel), by decide +kernel⟩

/-- The timers of peer 5 stand at 9 ms. -/
def watched (mode : StationState) (lane : List Queued) : State :=
  (with_ (at_ mode homeRep) fun l => { l with general := lane }).changePeer 5 fun q =>
    { q with silence := some 9, orphanHold := some 9 }

theorem test_peer_timer_premises :
    ((watched .member []).Settled ∧ (watched .member []).inGeneral (Queued.isAbsence 5) = false ∧
      (watched .member []).inGeneral (Queued.isReclaim 5) = false ∧ ((watched .member []).peer 5).silence = some 9 ∧
      ((watched .member []).peer 5).orphanHold = some 9) ∧
    ((watched .tainted []).Settled ∧ (watched .tainted []).mode ≠ .member) ∧
    (watched .member [.fixed (.absence 5), .fixed (.reclaim 5)]).inGeneral (Queued.isAbsence 5) = true ∧
    (watched .member [.fixed (.absence 5), .fixed (.reclaim 5)]).inGeneral (Queued.isReclaim 5) = true :=
  ⟨⟨settled_of _ (by decide +kernel), by decide +kernel⟩, ⟨settled_of _ (by decide +kernel), by decide +kernel⟩,
    by decide +kernel⟩

theorem test_peer_timers :
    (after (.silenceTimerExpiry 5) (watched .member [])).link.general = [.fixed (.absence 5)] ∧
    ((after (.silenceTimerExpiry 5) (watched .tainted [])).peer 5).silence = some 359 ∧
    (after (.silenceTimerExpiry 5) (watched .tainted [])).link.general = [] ∧
    (after (.orphanHoldExpiry 5) (watched .member [])).link.general = [.fixed (.reclaim 5)] ∧
    ((after (.orphanHoldExpiry 5) (watched .member [])).peer 5).orphanHold = some 5009 := by decide +kernel

/-- R70: ABSENCE and RECLAIM at a full lane. -/
theorem test_peer_timers_full_lane :
    let s := jammed (watched .member [])
    s.Settled ∧ s.inGeneral (Queued.isAbsence 5) = false ∧ s.inGeneral (Queued.isReclaim 5) = false ∧
      ((after (.silenceTimerExpiry 5) s).peer 5).silence = some 359 ∧
      (after (.silenceTimerExpiry 5) s).fault.record.map (·.frame) = some (some .absence) ∧
      ((after (.orphanHoldExpiry 5) s).peer 5).orphanHold = some 5009 ∧
      (after (.orphanHoldExpiry 5) s).fault.record.map (·.frame) = some (some .reclaim) :=
  ⟨settled_of _ (by decide +kernel), by decide +kernel⟩

/-- The sync sequence at its n-th attempt. -/
def asking (mode : StationState) (r : Replica) (n : Nat) : State :=
  (at_ mode r).setStation { StationUnit.reset with state := mode, syncCount := n, syncTimer := some 250 }

/-- A replica that shows station 3 absent. -/
def outcast : Replica := { homeRep with roster := homeRep.roster.set 3 .absent }

theorem test_sync_timer_premises :
    ((asking .joining homeRep 2).Settled ∧ (asking .joining homeRep 2).inGeneral Queued.isSyncRequest = false) ∧
    (asking .joining homeRep 3).Settled ∧ (asking .tainted homeRep 3).Settled ∧ (asking .tainted outcast 3).Settled ∧
    homeRep.isPresent 3 = true ∧ outcast.isPresent 3 = false :=
  ⟨⟨settled_of _ (by decide +kernel), by decide +kernel⟩, settled_of _ (by decide +kernel),
    settled_of _ (by decide +kernel), settled_of _ (by decide +kernel), by decide +kernel⟩

theorem test_sync_timer :
    (after .syncTimeout (asking .joining homeRep 2)).station.syncTimer = some 500 ∧
    (after .syncTimeout (asking .joining homeRep 2)).link.general = [.fixed (.syncRequest 7)] ∧
    (after .syncTimeout (asking .joining homeRep 3)).mode = .entering ∧
    (after .syncTimeout (asking .tainted homeRep 3)).mode = .member ∧
    (after .syncTimeout (asking .tainted outcast 3)).mode = .entering ∧
    (after .syncTimeout (asking .tainted homeRep 3)).counter .syncUnanswered = 1 := by decide +kernel

/-- R94: the SYNC_REQUEST stands in the lane already, or meets a full one. -/
theorem test_sync_timer_lane :
    let s := with_ (asking .tainted homeRep 1) fun l => { l with general := [.fixed (.syncRequest 7)] }
    let t := jammed (asking .tainted homeRep 1)
    s.Settled ∧ t.Settled ∧ s.inGeneral Queued.isSyncRequest = true ∧ t.inGeneral Queued.isSyncRequest = false ∧
      (after .syncTimeout s).link = s.link ∧ (after .syncTimeout s).station.syncCount = 2 ∧
      (after .syncTimeout t).link = t.link ∧ (after .syncTimeout t).station.syncCount = 2 ∧
      (after .syncTimeout t).fault.record.map (·.frame) = some (some .syncRequest) :=
  ⟨settled_of _ (by decide +kernel), settled_of _ (by decide +kernel), by decide +kernel⟩

theorem test_silence_premises : holding.silenceAt = some 350 ∧ hasOwnLeave holding.self holding.link.inbound = false ∧
    (holding.slot 0).state ≠ .carried ∧ (holding.slot 0).values.map (·.cls) = some .comfort ∧ holding.enabled 0 = true := by
  decide +kernel

/-- R101: no other station is present; the station is JOINING. -/
theorem test_no_silence :
    (at_ .member { homeRep with roster := homeRep.roster.set 5 .absent }).silenceAt = none ∧
    (at_ .joining homeRep).silenceAt = none ∧
    ((holding.setStation { holding.station with liveSince := 40 }).silenceAt) = some 390 ∧
    ((holding.setMembers { holding.members with lastGood := some 60 }).silenceAt) = some 410 := by decide +kernel

/-- R61: silence abandons a crank under way. -/
theorem test_silence_abandons : settling.silenceAt = some 350 ∧ settling.crank.state.underWay = true ∧
    (after .isolationBySilence settling).crank = .reset ∧ (after .isolationBySilence settling).link.urgent = [] ∧
    ((after .isolationBySilence settling).port.notices.map (·.content)).contains
      (.phase .abandoned settling.phaseRecord) = true := by decide +kernel

theorem test_silence_isolates : (after .isolationBySilence holding).mode = .isolated ∧
    (after .isolationBySilence holding).now = 350 ∧ (after .isolationBySilence holding).enabled 0 = false ∧
    (after .isolationBySilence holding).link.probeDue = true := by decide +kernel

/-- SETTLING to 60 ms, over a replica. -/
def settlingOver (mode : StationState) (r : Replica) (extensions : Nat) : State :=
  (at_ mode r).setCrank { CrankUnit.reset with state := .settling, settle := some 60, extensions := extensions }

theorem test_crank_settle_premises :
    ((settlingOver .member stuckRep 1).Settled ∧ stuckRep.lowStuck = true) ∧
    (settlingOver .member stuckRep 2).Settled ∧ ((settlingOver .member homeRep 0).Settled ∧ homeRep.lowStuck = false) ∧
    (settlingOver .tainted homeRep 0).Settled :=
  ⟨⟨settled_of _ (by decide +kernel), by decide +kernel⟩, settled_of _ (by decide +kernel),
    ⟨settled_of _ (by decide +kernel), by decide +kernel⟩, settled_of _ (by decide +kernel)⟩

theorem test_crank_settle :
    (after .crankSettleExpiry (settlingOver .member stuckRep 1)).crank.settle = some 120 ∧
    (after .crankSettleExpiry (settlingOver .member stuckRep 1)).crank.extensions = 2 ∧
    (after .crankSettleExpiry (settlingOver .member stuckRep 2)).link.urgent = [.fixed (.phase 3 0)] ∧
    (after .crankSettleExpiry (settlingOver .member homeRep 0)).crank.state = .cranking ∧
    (after .crankSettleExpiry (settlingOver .tainted homeRep 0)).crank.settle = some 120 := by decide +kernel

/-- LOCKOUT to 10 s, with these attempts. -/
def locked (mode : StationState) (attempts : BitVec 2) : State :=
  (at_ mode (repOf (phaseNow .stop attempts) [] none)).setCrank
    { CrankUnit.reset with state := .lockout, lockout := some 10000 }

theorem test_lockout_premises :
    ((locked .member 3).Settled ∧ (locked .member 3).namedCrank = true ∧ (locked .member 3).phaseIs [.stop] = true ∧
      (locked .member 3).attempts ≠ 0) ∧
    ((locked .member 0).Settled ∧ (locked .member 0).attempts = 0) ∧ (locked .tainted 3).Settled :=
  ⟨⟨settled_of _ (by decide +kernel), by decide +kernel⟩, ⟨settled_of _ (by decide +kernel), by decide +kernel⟩,
    settled_of _ (by decide +kernel)⟩

theorem test_lockout :
    (after .lockoutExpiry (locked .member 3)).link.urgent = [.fixed (.phase 1 0)] ∧
    (after .lockoutExpiry (locked .member 0)).link.urgent = [] ∧
    (after .lockoutExpiry (locked .member 0)).crank = .reset ∧
    (after .lockoutExpiry (locked .tainted 3)).crank.lockout = some 20000 := by decide +kernel

/-- R57, R60: CRANK and the closing STOP at a full urgent lane. -/
theorem test_crank_timers_full_lane :
    let s := jammed (settlingOver .member homeRep 0)
    let t := jammed (locked .member 3)
    s.Settled ∧ t.Settled ∧ (after .crankSettleExpiry s).crank = { s.crank with settle := some 120 } ∧
      (after .crankSettleExpiry s).counter .outboundFull = 1 ∧
      (after .lockoutExpiry t).crank = { t.crank with lockout := some 20000 } ∧ (after .lockoutExpiry t).link = t.link ∧
      (after .lockoutExpiry t).counter .outboundFull = 1 :=
  ⟨settled_of _ (by decide +kernel), settled_of _ (by decide +kernel), by decide +kernel⟩

/-- Station 3, its sequencer in this state over this phase, with a frame at the head of its inbound queue. -/
def cranked (c : CrankState) (p : Phase) (attempts : BitVec 2) (sender : Station) (b : Body) : State :=
  let r := repOf (phaseNow p attempts) [] none
  with_ (inPhase p attempts c) fun l => { l with inbound := [frameFrom sender r b] }

theorem cranked_applies (c : CrankState) (p : Phase) (n : BitVec 2) (sender : Station) (b : Body) :
    (cranked c p n sender b).Applies (frameFrom sender (repOf (phaseNow p n) [] none) b)
      (repOf (phaseNow p n) [] none) [] := by
  refine ⟨rfl, rfl, rfl, rfl, ?_⟩
  unfold Frame.verdict frameFrom
  simp

/-- R56, R58: the request's CRANK_PENDING, one of an earlier request, and the own CRANK. -/
theorem test_own_crank_frames :
    (after .phaseFrame ((cranked .settling .stop 0 3 (.phase 2 0)).setCrank
      { CrankUnit.reset with state := .settling, hold := true })).crank.settle = some 60 ∧
    (after .phaseFrame (cranked .settling .stop 0 3 (.phase 2 0))).crank.settle = none ∧
    (after .phaseFrame (cranked .cranking .crankPending 0 3 (.phase 3 0))).crank.goPosted = true ∧
    ((after .phaseFrame (cranked .cranking .crankPending 0 3 (.phase 3 0))).port.notices.map (·.content)).contains
      (.crankGo false) = true := by decide +kernel

theorem test_crank_application_premises :
    (cranked .settling .run 0 3 (.phase 2 0)).Abandons (frameFrom 3 homeRep (.phase 2 0)) (some .illegalStep) .member
      (repOf (phaseNow .run 0) [] none) ∧
    ¬ (cranked .settling .stop 0 5 .lift).Abandons (frameFrom 5 homeRep .lift) none .member homeRep ∧
    (cranked .idle .stop 3 5 .lift).OwesLockout .member (repOf (phaseNow .stop 3) [] none) [] ∧
    ¬ (cranked .settling .run 0 3 (.phase 2 0)).OwesLockout .member (repOf (phaseNow .run 0) [] none) [] := by
  unfold State.Abandons State.Strays State.OwesLockout
  refine ⟨⟨rfl, Or.inl ⟨rfl, by decide, 0, Or.inl (by decide)⟩⟩, ?_, ?_, ?_⟩
  · rintro ⟨-, ⟨-, h, -⟩ | h | h | h | h⟩
    · exact h rfl
    · cases h
    · exact h rfl
    · exact h.2.1 rfl
    · cases h.1
  · refine ⟨rfl, rfl, rfl, rfl, by decide +kernel, ?_⟩
    intro f h
    cases h
  · rintro ⟨-, -, h, -⟩
    cases h

/-- R60, R61: a crank abandoned, LOCKOUT owed behind it or to an IDLE sequencer, and a frame that moves none. -/
theorem test_crank_applications :
    (after .phaseFrame (cranked .settling .run 0 3 (.phase 2 0))).crank = .reset ∧
    (after .liftFrame (cranked .cranking .stop 3 5 .lift)).crank.state = .lockout ∧
    (after .liftFrame (cranked .idle .stop 3 5 .lift)).crank.state = .lockout ∧
    (after .liftFrame (cranked .idle .stop 2 5 .lift)).crank = .reset ∧
    (after .liftFrame (cranked .settling .stop 0 5 .lift)).crank = (cranked .settling .stop 0 5 .lift).crank := by
  decide +kernel

/-- A TAINTED station with this sequencer, and this image at the head of its inbound queue. -/
def crankLoading (c : CrankState) (r : Replica) : State :=
  with_ ((at_ .tainted r).setCrank { CrankUnit.reset with state := c }) fun l => { l with
    inbound := [{ frameFrom 5 r (.snapshot 3 7 r.serialize) with digest := r.computeDigest }] }

/-- R56, R58: the loads that start the settle timer and post CRANK_GO (their images pass: `imaged_loads`). -/
theorem test_crank_load_premises : (crankLoading .settling (imaged .crankPending none)).crank.settle = none ∧
    (imaged .crankPending none).phase.crankStation = some 3 ∧
    (crankLoading .cranking (imaged .crank none)).crank.goPosted = false ∧
    (crankLoading .cranking (imaged .crank none)).port.due = false := by decide +kernel

/-- R125: SHED# is read at the end of the load: the hold of a crank that the load abandons latches no slot, another
station's drive does. -/
theorem test_latches_of_a_load :
    let s := (crankLoading .cranking heldRep).setCrank { CrankUnit.reset with state := .cranking, hold := true }
    let t := s.loadReplica heldRep
    let u := (s.setPins { s.pins with peerShed := true }).loadReplica heldRep
    s.shedHigh = false ∧ s.Strays .member heldRep ∧ t.shedHigh = true ∧ (t.slot 0).latch = false ∧
      t.slotUnit.latchLimit = none ∧ u.shedHigh = false ∧ (u.slot 0).latch = true ∧ u.slotUnit.latchLimit = some 300 := by
  unfold State.Strays
  decide +kernel

/-! Slots and the line. -/

/-- `holding` after another station's falling edge. -/
def pulled : State := after .shedFallingEdge holding

theorem pulled_settled : pulled.Settled := settled_of _ (by decide +kernel)

/-- Station 3 drives the line too. -/
def bothDrive : State := pulled.setCrank { CrankUnit.reset with state := .settling, hold := true }

theorem test_edge_premises : holding.Settled ∧ holding.shedHigh = true ∧ holding.mode.live = true ∧
    (holding.slot 0).values.map (·.cls.low) = some true ∧ (holding.slot 0).state = .held ∧
    (holding.slot 1).latchable = false ∧ pulled.Settled ∧ pulled.shedHigh = false ∧ bothDrive.Settled ∧
    bothDrive.ownDrive = true :=
  ⟨holding_open.settled, by decide +kernel, by decide +kernel, by decide +kernel, by decide +kernel, by decide +kernel,
    pulled_settled, by decide +kernel, settled_of _ (by decide +kernel), by decide +kernel⟩

theorem test_edges : (pulled.slot 0).latch = true ∧ (pulled.slot 2).latch = true ∧ pulled.enabled 0 = false ∧
    pulled.slotUnit.latchLimit = some 300 ∧ (after .shedRisingEdge pulled).shedHigh = true ∧
    ((after .shedRisingEdge pulled).slot 0).latch = true ∧ (after .shedRisingEdge bothDrive).shedHigh = false := by
  decide +kernel

theorem test_latch_limit_premises : pulled.slotUnit.latchLimit = some 300 ∧ pulled.mode = .member ∧
    pulled.inUrgent (Queued.isShedRequest none) = false ∧
    (with_ pulled fun l => { l with urgent := [.fixed (.shedRequest 1 0)] }).inUrgent (Queued.isShedRequest none) = true ∧
    (after .isolationBySilence pulled).Settled ∧ (after .isolationBySilence pulled).mode = .isolated ∧
    (after .isolationBySilence pulled).slotUnit.latchLimit = some 300 :=
  ⟨by decide +kernel, by decide +kernel, by decide +kernel, by decide +kernel, settled_of _ (by decide +kernel),
    by decide +kernel⟩

theorem test_latch_limit : (after .latchLimitExpiry pulled).link.urgent = [.fixed (.shedRequest 1 0)] ∧
    (after .latchLimitExpiry pulled).slotUnit.latchLimit = some 600 ∧
    (after .latchLimitExpiry pulled).counter .lineUnexplained = 1 ∧ ((after .latchLimitExpiry pulled).slot 0).latch = true ∧
    (after .latchLimitExpiry (after .isolationBySilence pulled)).slotUnit.latchLimit = some 650 := by decide +kernel

/-- R126: a SHED_REQUEST at a full urgent lane. -/
theorem test_latch_limit_full_lane :
    let s := jammed pulled
    s.Settled ∧ s.inUrgent (Queued.isShedRequest none) = false ∧ (after .latchLimitExpiry s).link = s.link ∧
      (after .latchLimitExpiry s).counter .lineUnexplained = 1 ∧
      (after .latchLimitExpiry s).fault.record.map (·.frame) = some (some .shedRequest) :=
  ⟨settled_of _ (by decide +kernel), by decide +kernel⟩

/-- The latched load of slot 0 draws: its off deadline runs. -/
def drawing : State := after (.feedbackChange 0 true) pulled

theorem drawing_settled : drawing.Settled := settled_of _ (by decide +kernel)

/-- Back in ENTERING, where the off deadline only runs anew. -/
def drawingEntering : State := (drawing.setStation { drawing.station with state := .entering }).conclude

theorem test_off_deadline_premises : (drawing.slot 0).offDeadline = some 30 ∧ drawing.mode.reporting = true ∧
    drawing.inUrgent (Queued.isShedFault 0) = false ∧
    (with_ drawing fun l => { l with urgent := [.fixed (.shedFault 0)] }).inUrgent (Queued.isShedFault 0) = true ∧
    drawingEntering.Settled ∧ drawingEntering.mode.reporting = false ∧
    (drawingEntering.slot 0).offDeadline = some 30 :=
  ⟨by decide +kernel, by decide +kernel, by decide +kernel, by decide +kernel, settled_of _ (by decide +kernel),
    by decide +kernel⟩

theorem test_off_deadline : (after (.offDeadlineExpiry 0) drawing).link.urgent = [.fixed (.shedFault 0)] ∧
    (after (.offDeadlineExpiry 0) drawing).counter .stuckLoad = 1 ∧
    ((after (.offDeadlineExpiry 0) drawing).slot 0).offDeadline = none ∧
    ((after (.offDeadlineExpiry 0) drawingEntering).slot 0).offDeadline = some 60 := by decide +kernel

/-- R127: a SHED_FAULT at a full urgent lane. -/
theorem test_off_deadline_full_lane :
    let s := jammed drawing
    s.Settled ∧ s.inUrgent (Queued.isShedFault 0) = false ∧ (after (.offDeadlineExpiry 0) s).link = s.link ∧
      (after (.offDeadlineExpiry 0) s).counter .stuckLoad = 1 ∧ (after (.offDeadlineExpiry 0) s).counter .outboundFull = 1 ∧
      ((after (.offDeadlineExpiry 0) s).slot 0).offDeadline = some 60 :=
  ⟨settled_of _ (by decide +kernel), by decide +kernel⟩

/-- Slot 0 of station 3 is STUCK, and its load draws. -/
def stuckSlot : State :=
  (((at_ .member stuckRep).setPins { Pins.reset with feedback := #v[true, false, false, false] }).putSlot 0
    (SlotRecord.reset.mirror (some (claimOf (key 3 0) .comfort .stuck 40 1)))).conclude

theorem test_feedback_premises :
    (pulled.Settled ∧ pulled.pins.feedback[0] = false ∧ pulled.enabled 0 = false ∧ pulled.orderedOff 0 = true) ∧
    ((home.part 0).used = true ∧ (home.part 0).feedback = true ∧ (home.slot 0).state = .free) ∧
    (stuckSlot.Settled ∧ stuckSlot.pins.feedback[0] = true ∧ stuckSlot.mode.reporting = true ∧
      (stuckSlot.slot 0).state = .stuck ∧ stuckSlot.inGeneral (Queued.isStuckClear 0) = false) :=
  ⟨⟨pulled_settled, by decide +kernel⟩, by decide +kernel, settled_of _ (by decide +kernel), by decide +kernel⟩

theorem test_feedback : (after (.feedbackChange 0 true) home).counter .unclaimedDraw = 1 ∧
    ((after (.feedbackChange 0 true) home).slot 0).unclaimed = true ∧
    (after (.feedbackChange 0 false) stuckSlot).link.general = [.fixed (.stuckClear 0)] := by decide +kernel

/-- A STUCK_CLEAR of slot 0 was dropped; the further off deadline stands at 40 ms. -/
def retrying : State :=
  (with_ (stuckSlot.setPins Pins.reset) id).putSlot 0 { stuckSlot.slot 0 with retry := some 40, offWatch := false, offDeadline := none }

theorem test_retry_premises : retrying.Settled ∧ (retrying.slot 0).retry = some 40 ∧ retrying.mode.reporting = true ∧
    retrying.inGeneral (Queued.isStuckClear 0) = false := ⟨settled_of _ (by decide +kernel), by decide +kernel⟩

theorem test_retry : (after (.stuckClearRetry 0) retrying).link.general = [.fixed (.stuckClear 0)] ∧
    ((after (.stuckClearRetry 0) retrying).slot 0).retry = none := by decide +kernel

/-- The general lane is full. -/
def crowded (s : State) : State := with_ s fun l => { l with general := List.replicate 6 .presence }

def retryingEntering : State := (retrying.setStation { retrying.station with state := .entering }).conclude

theorem test_retry_lane_premises :
    ((crowded retrying).Settled ∧ (crowded retrying).link.general.length = 6 ∧
      (crowded retrying).inGeneral (Queued.isStuckClear 0) = false) ∧
    (with_ retrying fun l => { l with general := [.fixed (.stuckClear 0)] }).inGeneral (Queued.isStuckClear 0) = true ∧
    (retryingEntering.Settled ∧ retryingEntering.mode.reporting = false ∧ (retryingEntering.slot 0).retry = some 40) ∧
    home.Settled ∧ (home.slot 0).retry = none ∧ home.holdLimitAt 0 = none :=
  ⟨⟨settled_of _ (by decide +kernel), by decide +kernel⟩, by decide +kernel,
    ⟨settled_of _ (by decide +kernel), by decide +kernel⟩, home_open.settled, by decide +kernel⟩

theorem test_retry_lane : ((after (.stuckClearRetry 0) (crowded retrying)).slot 0).retry = some 70 ∧
    (after (.stuckClearRetry 0) (crowded retrying)).counter .outboundFull = 1 ∧
    (after (.stuckClearRetry 0) retryingEntering).link.general = [] ∧
    ((after (.stuckClearRetry 0) retryingEntering).slot 0).retry = none := by decide +kernel

/-- `holding` moved to ENTERING. -/
def holdingEntering : State := (holding.setStation { holding.station with state := .entering }).conclude

theorem test_hold_limit_premises : holding.holdLimitAt 2 = some 60000 ∧ holding.mode.reporting = true ∧
    (after (.holdLimit 2) holding).now = 60000 ∧ holdingEntering.Settled ∧ holdingEntering.mode.reporting = false ∧
    holdingEntering.holdLimitAt 2 = some 60000 :=
  ⟨by decide +kernel, by decide +kernel, by decide +kernel, settled_of _ (by decide +kernel), by decide +kernel⟩

theorem test_hold_limit : ((after (.holdLimit 2) holding).slot 2).state = .releasing ∧
    (after (.holdLimit 2) holding).link.general = [.fixed (.release 2)] ∧
    ((after (.holdLimit 2) holdingEntering).slot 2).state = .held ∧
    ((after (.holdLimit 2) holdingEntering).slot 2).holdTime = 0 := by decide +kernel

theorem test_hold_limit_full_lane : (crowded holding).Settled ∧ (crowded holding).holdLimitAt 2 = some 60000 ∧
    (after (.holdLimit 2) (crowded holding)).counter .outboundFull = 1 ∧
    ((after (.holdLimit 2) (crowded holding)).slot 2).holdTime = 0 ∧
    ((after (.holdLimit 2) (crowded holding)).slot 2).state = .held :=
  ⟨settled_of _ (by decide +kernel), by decide +kernel⟩

/-- The settle timer of slot 0 stands at 100 ms, and a gate timeout of 5.0 at 200 ms. -/
def gated (s : State) : State :=
  (s.putSlot 0 { s.slot 0 with settle := some 100 }).setSlotUnit
    { (s.putSlot 0 { s.slot 0 with settle := some 100 }).slotUnit with
      gate := some { key := key 5 0, deadline := 200, period := 200 } }

theorem test_settle_and_gate_premises : (gated holding).Settled ∧ (gated holding).mode = .member ∧
    (gated holding).inGeneral (Queued.isSettled (key 5 0)) = false ∧
    (with_ (gated holding) fun l => { l with general := [.fixed (.settled (key 5 0) false)] }).inGeneral
      (Queued.isSettled (key 5 0)) = true ∧
    (gated holdingEntering).Settled ∧ (gated holdingEntering).mode ≠ .member :=
  ⟨settled_of _ (by decide +kernel), by decide +kernel, by decide +kernel, by decide +kernel,
    settled_of _ (by decide +kernel), by decide +kernel⟩

theorem test_settle_and_gate :
    (after (.settleTimerExpiry 0) (gated holding)).link.general = [.fixed (.settled (key 3 0) true)] ∧
    ((after (.settleTimerExpiry 0) (gated holdingEntering)).slot 0).settle = some 200 ∧
    (after .gateTimeoutExpiry (gated holding)).link.general = [.fixed (.settled (key 5 0) false)] ∧
    (after .gateTimeoutExpiry (gated holding)).slotUnit.gate = none ∧
    (after .gateTimeoutExpiry (gated holdingEntering)).slotUnit.gate =
      some { key := key 5 0, deadline := 400, period := 200 } := by decide +kernel

/-- R132, R133: a SETTLED at a full lane. -/
theorem test_settle_and_gate_full_lane :
    let s := jammed (gated holding)
    s.Settled ∧ s.inGeneral (Queued.isSettled (key 5 0)) = false ∧
      ((after (.settleTimerExpiry 0) s).slot 0).settle = some 200 ∧
      (after (.settleTimerExpiry 0) s).counter .outboundFull = 1 ∧
      (after .gateTimeoutExpiry s).slotUnit.gate = some { key := key 5 0, deadline := 400, period := 200 } ∧
      (after .gateTimeoutExpiry s).counter .outboundFull = 1 := ⟨settled_of _ (by decide +kernel), by decide +kernel⟩

/-- Station 3, MEMBER over this replica, with a frame of this sender at the head. -/
def led (r : Replica) (sender : Station) (b : Body) : State :=
  with_ (at_ .member r) fun l => { l with inbound := [frameFrom sender r b] }

/-- R132, R133: admitted in 3.0 and in 5.0; 3.0 resumed; 5.0 left holding the gate by an absent station. -/
theorem test_gate_timer_premises :
    ((homeRep.apply (claimEffect (frameFrom 3 homeRep (.claim 0 3 40 10)))).admitted = some (key 3 0)) ∧
    ((homeRep.apply (claimEffect (frameFrom 5 homeRep (.claim 0 3 40 10)))).admitted = some (key 5 0)) ∧
    (let a := heldRep.apply (joinEffect (frameFrom 3 heldRep joinBack))
     a.admitted = none ∧ (0, .resumed) ∈ a.own.outcomes ∧ a.after.gate = some (key 3 0)) ∧
    (let a := peerRep.apply (absenceEffect (frameFrom 3 peerRep (.absence 5)))
     a.admitted = none ∧ a.own.ignored = none ∧ a.after.gate = some (key 5 0)) ∧
    ((led peerRep 3 (.absence 5)).slotUnit.gate = none) := by decide +kernel

theorem test_gate_timers_start :
    ((after .claimFrame (mine .sending homeRep (.claim 0 3 40 10))).slot 0).settle = some 100 ∧
    (after .claimFrame (led homeRep 5 (.claim 0 3 40 10))).slotUnit.gate =
      some { key := key 5 0, deadline := 200, period := 200 } ∧
    ((after .joinFrame (mine .held heldRep joinBack)).slot 0).settle = some 100 ∧
    (after .absenceFrame (led peerRep 3 (.absence 5))).slotUnit.gate =
      some { key := key 5 0, deadline := 200, period := 200 } := by decide +kernel

/-- They go on under a frame that starts none, and stop where the gate opens and in OFFLINE. -/
theorem test_gate_timers_go_on :
    ((after .liftFrame (gated (handed .lift))).slot 0).settle = some 100 ∧
    (after .liftFrame (gated (led peerRep 5 .lift))).slotUnit.gate =
      some { key := key 5 0, deadline := 200, period := 200 } ∧
    ((after .settledFrame (gated (handed (.settled (key 3 0) false)))).slot 0).settle = none ∧
    (after .settledFrame (gated (led (imaged .run (some (key 5 0))) 3 (.settled (key 5 0) false)))).slotUnit.gate = none ∧
    (after .leaveFrame (gated (led peerRep 3 .leave))).slotUnit.gate = none := by decide +kernel

/-- R132, R133: loads with an own, another's and no gate holder (their images pass: `goodRep_loads`, `imaged_loads`). -/
theorem test_gate_load_premises : (loading heldRep.serialize).mode = .joining ∧ goodRep.gate = some (key 3 0) ∧
    (crankLoading .idle (imaged .run (some (key 5 0)))).mode = .tainted ∧
    (crankLoading .idle (imaged .run (some (key 5 0)))).link.late = [] ∧
    (imaged .run (some (key 5 0))).gate = some (key 5 0) ∧ (imaged .run none).gate = none := by decide +kernel

/-! The watch units. -/

/-- W0 ARMED on SUPPLY below 80, with this counter. -/
def armed (counter : Byte) (actions : ActionSet) : State :=
  home.setW0 { WatchUnit.reset with state := .armed, compare := 80, reload := 2, counter := counter, actions := actions }

def allActions : ActionSet := { notify := true, pullShed := true, freeze := true, rearm := false }

theorem test_watch_sample_premises : (armed 0 allActions).Settled ∧ (armed 0 allActions).mode.live = true ∧
    (armed 0 allActions).w0.source = .supply ∧ (armed 0 allActions).w1.state = .off ∧
    (armed 0 allActions).w0.relation.holds (79 : Byte).toNat (armed 0 allActions).w0.compare = true ∧
    (armed 0 allActions).w0.relation.holds (80 : Byte).toNat (armed 0 allActions).w0.compare = false ∧
    home.w0.state ≠ .armed ∧ ((after (.vsenseSample 79) (armed 0 allActions)).unit false).pulse = some 52 ∧
    (after (.vsenseSample 79) (armed 0 allActions)).Settled :=
  ⟨settled_of _ (by decide +kernel), by decide +kernel, by decide +kernel, by decide +kernel, by decide +kernel,
    by decide +kernel, by decide +kernel, by decide +kernel, settled_of _ (by decide +kernel)⟩

theorem test_watch_sample : (after (.vsenseSample 79) (armed 1 allActions)).w0.counter = 0 ∧
    (after (.vsenseSample 80) (armed 1 allActions)).w0.counter = 2 ∧
    (after (.vsenseSample 79) (armed 0 allActions)).w0.state = .fired ∧
    (after (.vsenseSample 79) (armed 0 allActions)).shedHigh = false ∧
    (after (.vsenseSample 79) (armed 0 allActions)).history.frozen = true ∧
    (after (.vsenseSample 79) home).pins.vsense = 79 ∧
    (after (.watchPulseExpiry false) (after (.vsenseSample 79) (armed 0 allActions))).shedHigh = true := by decide +kernel

theorem test_watch_firing : (after (.vsenseSample 79) (armed 0 allActions)).link.urgent = [.fixed (.shedRequest 0 79)] ∧
    (after (.vsenseSample 79) (armed 0 allActions)).port.notices.length = 1 ∧
    (after (.vsenseSample 79) (armed 0 { allActions with rearm := true })).w0.state = .armed ∧
    (after (.vsenseSample 79) (armed 0 { allActions with rearm := true })).w0.counter = 2 := by decide +kernel

/-- W0 as in `armed 0`, and this W1 in SEQUENCE on SUPPLY. -/
def sequenced (st : WatchState) : State := (armed 0 allActions).setW1
  { WatchUnit.reset with state := st, compare := 80, reload := 3, counter := 0, sequence := true }

theorem test_sequence_premises : (sequenced .disarmed).Settled ∧ (sequenced .armed).Settled ∧
    (sequenced .disarmed).mode.live = true ∧ (sequenced .disarmed).w1.source = .supply ∧
    (sequenced .armed).resetLow = false :=
  ⟨settled_of _ (by decide +kernel), settled_of _ (by decide +kernel), by decide +kernel⟩

theorem test_sequence : (after (.vsenseSample 79) (sequenced .disarmed)).w1.state = .armed ∧
    (after (.vsenseSample 79) (sequenced .disarmed)).w1.counter = 3 ∧
    (after (.vsenseSample 79) (sequenced .armed)).w1 = { (sequenced .armed).w1 with counter := 3 } := by decide +kernel

/-- `handed`, with W0 ARMED on this source and compare value. -/
def watching (source : WatchSource) (compare : Int) (b : Body) : State :=
  (handed b).setW0 { WatchUnit.reset with
    state := .armed, source := source, relation := if source = .headroom then .below else .isMatch, compare := compare
    mask := 0x20, reload := 2, counter := 1 }

theorem test_watch_frame_premises : (watching .frame 11 .lift).Applies (frameFrom 5 heldRep .lift) heldRep [] ∧
    (watching .frame 11 .lift).mode = .member ∧ ¬ ((5 : Station) = (handed .lift).self) ∧
    (watching .frame 11 .lift).w1.state ≠ .armed := ⟨⟨rfl, rfl, rfl, rfl, by decide +kernel⟩, by decide +kernel⟩

theorem test_watch_frame : (after .liftFrame (watching .frame (FrameKind.lift.code : Int) .lift)).w0.counter = 0 ∧
    (after .liftFrame (watching .frame 0 .lift)).w0.counter = 1 ∧
    (after .liftFrame (watching .headroom 41 .lift)).w0.counter = 0 ∧
    (after .liftFrame (watching .headroom 40 .lift)).w0.counter = 2 ∧
    (after .leaveFrame (watching .phase 1 .leave)).w0.counter = 1 ∧
    (after .phaseFrame (with_ (watching .phase 1 .lift) fun l => { l with
      inbound := [frameFrom 3 heldRep (.phase 1 0)] })).w0.counter = 0 := by decide +kernel

/-- `watching` with all actions and its counter at 0; W1 in SEQUENCE on the same source, in this state. -/
def aboutToFire (source : WatchSource) (compare : Int) (b : Body) (st : WatchState) : State :=
  let s := watching source compare b
  (s.setW0 { s.w0 with counter := 0, actions := allActions }).setW1
    { WatchUnit.reset with state := st, source := source, reload := 3, sequence := true }

/-- R140 to R144: a firing on FRAME, HEADROOM and PHASE, and what W1 makes of it. -/
theorem test_watch_frame_firing :
    let s := aboutToFire .frame 11 .lift .disarmed
    let t := after .liftFrame s
    s.Applies (frameFrom 5 heldRep .lift) heldRep [] ∧ t.w0.state = .fired ∧ t.w0.pulse = some 50 ∧
      t.link.urgent = [.fixed (.shedRequest 0 0)] ∧ t.history.frozen = true ∧ t.port.notices.length = 1 ∧
      t.w1.state = .armed ∧ t.w1.counter = 3 ∧
      (after .liftFrame (aboutToFire .headroom 41 .lift .armed)).w0.state = .fired ∧
      (after .liftFrame (aboutToFire .headroom 41 .lift .armed)).w1.counter = 3 ∧
      (after .phaseFrame (with_ (aboutToFire .phase 1 .lift .fired) fun l => { l with
        inbound := [frameFrom 3 heldRep (.phase 1 0)] })).w0.state = .fired :=
  ⟨⟨rfl, rfl, rfl, rfl, by decide +kernel⟩, by decide +kernel⟩

/-- W0 ARMED on FRAME for the frames of station 3 of this kind, with all actions and its counter at 0. -/
def ownWatch (kind : FrameKind) (s : State) : State := s.setW0 { WatchUnit.reset with
  state := .armed, source := .frame, relation := .isMatch, compare := kind.code, mask := 8, actions := allActions }

def ownLeave : State := ownWatch .leave (mine .held heldRep .leave)

def ownJoin : State := ownWatch .join (entering bareJoin)

theorem test_own_frame_premises :
    ownLeave.Applies (frameFrom 3 heldRep .leave) heldRep [] ∧ ownLeave.mode = .member ∧
    ownJoin.Applies (frameFrom 3 absentRep bareJoin) absentRep [] ∧ ownJoin.mode = .entering ∧
    ownJoin.w1.state ≠ .armed :=
  ⟨⟨rfl, rfl, rfl, rfl, by decide +kernel⟩, by decide +kernel, ⟨rfl, rfl, rfl, rfl, by decide +kernel⟩, by decide +kernel⟩

/-- R137, R87: the own LEAVE is evaluated as in MEMBER, and OFFLINE then ends the pulse and empties the lane; the own JOIN is
evaluated as in ENTERING, where a firing asks for no SHED_REQUEST. -/
theorem test_own_frames_are_evaluated :
    let t := after .leaveFrame ownLeave
    let u := after .joinFrame ownJoin
    t.w0.state = .fired ∧ t.mode = .offline ∧ t.history.frozen = true ∧ t.w0.pulse = none ∧ t.link.urgent = [] ∧
      t.port.notices.any (fun n => n.content ==
        .watch false .frame (.frame .leave 3) allActions .fired (some false)) = true ∧
      u.w0.state = .fired ∧ u.mode = .member ∧ u.w0.pulse = some 50 ∧ u.link.urgent = [] := by decide +kernel

/-- R152: the SYNC entry of an own JOIN stands ahead of the WATCH entry of its evaluation. -/
theorem test_own_join_entries :
    ((after .joinFrame ownJoin).history.entries.map (·.event)).filter (fun e => match e with
      | .sync .. | .watch .. => true
      | _ => false) =
    [.sync 3 .entering .member .joinApplied, .watch false .armed .fired (.frame .join 3)] := by decide +kernel

/-- R152: slot 0 is CARRIED and its load draws; the own JOIN carries no entry for it. The UNCLAIMED_DRAW that the entry
into MEMBER captures stands ahead of the WATCH entry, and the freeze of that firing leaves it in the buffer. -/
theorem test_own_join_captures :
    let s := (ownJoin.putSlot 0 { SlotRecord.reset with state := .carried }).setPins
      { ownJoin.pins with feedback := #v[true, false, false, false] }
    let t := after .joinFrame s
    (t.slot 0).state = .free ∧ t.history.frozen = true ∧ t.history.missed = 0 ∧
      (t.history.entries.map (·.event)).filterMap (fun e => match e with
        | .sync .. => some 0
        | .fault .. => some 1
        | .watch .. => some 2
        | _ => none) = [0, 1, 2] := by decide +kernel

/-- R140, R141: W0 fires on FRAME, and an ARMED W1 in SEQUENCE on HEADROOM is reloaded before it counts its own
evaluation (log entry 42). -/
theorem test_sequence_on_two_sources :
    let s := aboutToFire .frame 11 .lift .armed
    let u := s.setW1 { s.w1 with source := .headroom, relation := .below, compare := 41, counter := 0 }
    u.Applies (frameFrom 5 heldRep .lift) heldRep [] ∧ (after .liftFrame u).w0.state = .fired ∧
      (after .liftFrame u).w1 = { u.w1 with counter := 2 } := ⟨⟨rfl, rfl, rfl, rfl, by decide +kernel⟩, by decide +kernel⟩

/-- W0 ARMED on LINE. -/
def lineWatch : State := holding.setW0 { WatchUnit.reset with
  state := .armed, source := .line, relation := .isMatch, counter := 1 }

theorem test_watch_line : lineWatch.Settled ∧ lineWatch.shedHigh = true ∧ lineWatch.mode.live = true ∧
    lineWatch.resetLow = false ∧ lineWatch.w1.state ≠ .armed ∧ (after .shedFallingEdge lineWatch).w0.counter = 0 ∧
    (after .shedFallingEdge (lineWatch.setW0 { lineWatch.w0 with counter := 0 })).w0.state = .fired :=
  ⟨settled_of _ (by decide +kernel), by decide +kernel⟩

/-! Layouts. -/

theorem test_round_trip_premises :
    (∀ role c0 c1 c2 c3 entries, (friend joinBack).body = .join role c0 c1 c2 c3 entries → entries.length ≤ 4) ∧
    (∀ b e image, (friend joinBack).body = .snapshot b e image → ∃ n : Byte, image[220]? = some n ∧ n.toNat ≤ 64 ∧
      image.length = 221 + 10 * n.toNat) ∧
    (List.replicate 221 (0 : Byte))[220]? = some 0 ∧ (List.replicate 221 (0 : Byte)).length = 221 + 10 * 0 := by
  refine ⟨?_, ?_, by decide +kernel⟩
  · rintro role c0 c1 c2 c3 entries h
    cases h
    decide
  · rintro b e image h
    cases h

theorem test_round_trip : goodFrame (friend joinBack).toWire = some (friend joinBack) ∧
    ∀ b ∈ tableBodies, goodFrame (friend b).toWire = some (friend b) := by decide +kernel

end Sys2Proof.Tests
end

section
/-! The claim table as a list in key order (R1): what finding, changing, removing and entering a record do to it. -/

namespace Sys2Proof.Machine

theorem Key.code_injective {a b : Key} (h : a.code = b.code) : a = b := by
  obtain ⟨n, i⟩ := a
  obtain ⟨m, j⟩ := b
  simp only [Key.code] at h
  obtain ⟨hn, hi⟩ : n = m ∧ i = j := ⟨Fin.ext (by omega), Fin.ext (by omega)⟩
  rw [hn, hi]

/-- R1: key order is a strict order between any two records, not only between neighbours. -/
theorem keyOrdered_iff (l : List Claim) :
    keyOrdered l = true ↔ l.Pairwise fun a b => a.key.code < b.key.code := by
  rw [← List.isChain_iff_pairwise]
  induction l with
  | nil => simp [keyOrdered]
  | cons a l ih =>
    cases l with
    | nil => simp [keyOrdered]
    | cons b l => simp [keyOrdered, ih]

theorem key_eq_of_findClaim {claims : List Claim} {k : Key} {c : Claim} (h : findClaim claims k = some c) :
    c.key = k := by
  simpa using List.find?_some h

theorem mem_of_findClaim {claims : List Claim} {k : Key} {c : Claim} (h : findClaim claims k = some c) :
    c ∈ claims := List.mem_of_find?_eq_some h

theorem findClaim_eq_none_iff (claims : List Claim) (k : Key) :
    findClaim claims k = none ↔ ∀ c ∈ claims, c.key ≠ k := by
  simp [findClaim]

theorem mem_insertClaim (c d : Claim) (l : List Claim) : d ∈ insertClaim c l ↔ d = c ∨ d ∈ l := by
  induction l with
  | nil => simp [insertClaim]
  | cons a l ih =>
    unfold insertClaim
    split
    · simp
    · simp only [List.mem_cons, ih]
      exact or_left_comm

/-- R1: a record whose key is new to the table enters it in key order. -/
theorem insertClaim_pairwise {c : Claim} {l : List Claim} (h : l.Pairwise fun a b => a.key.code < b.key.code)
    (hn : ∀ d ∈ l, d.key ≠ c.key) : (insertClaim c l).Pairwise fun a b => a.key.code < b.key.code := by
  induction l with
  | nil => simp [insertClaim]
  | cons a l ih =>
    obtain ⟨ha, hl⟩ := List.pairwise_cons.mp h
    unfold insertClaim
    split
    · rename_i hlt
      refine List.pairwise_cons.mpr ⟨fun d hd => ?_, h⟩
      rcases List.mem_cons.mp hd with rfl | hd
      · exact hlt
      · exact hlt.trans (ha d hd)
    · rename_i hge
      have hne : a.key.code ≠ c.key.code := fun he => hn a (by simp) (Key.code_injective he)
      refine List.pairwise_cons.mpr ⟨fun d hd => ?_, ih hl fun d hd => hn d (by simp [hd])⟩
      rcases (mem_insertClaim c d l).mp hd with rfl | hd
      · omega
      · exact ha d hd

theorem findClaim_insertClaim_same {c : Claim} {l : List Claim} (hn : findClaim l c.key = none) :
    findClaim (insertClaim c l) c.key = some c := by
  induction l with
  | nil => simp [insertClaim, findClaim]
  | cons a l ih =>
    simp only [findClaim, List.find?_cons] at hn ih ⊢
    cases ha : a.key == c.key <;> simp only [ha] at hn
    · unfold insertClaim
      split
      · simp
      · simp [ha, ih hn]
    · simp at hn

theorem findClaim_insertClaim_other {c : Claim} {k : Key} (hk : k ≠ c.key) (l : List Claim) :
    findClaim (insertClaim c l) k = findClaim l k := by
  have hc : (c.key == k) = false := by simpa using hk.symm
  induction l with
  | nil => simp [insertClaim, findClaim, hc]
  | cons a l ih =>
    unfold insertClaim
    split
    · simp [findClaim, List.find?_cons, hc]
    · simp only [findClaim, List.find?_cons] at ih ⊢
      rw [ih]

/-! The operations on a replica. -/

@[simp] theorem Replica.release_claims (r : Replica) (k : Key) : (r.release k).claims = r.claims := by
  unfold Replica.release
  split <;> rfl

theorem Replica.find_remove (r : Replica) (k j : Key) :
    (r.remove k).find j = if j = k then none else r.find j := by
  simp only [Replica.find, Replica.remove, findClaim, List.find?_filter]
  split
  · rename_i h
    subst h
    simp
  · rename_i h
    congr 1
    funext c
    by_cases hc : c.key = j
    · simp [hc, h]
    · simp [hc]

theorem Replica.find_enter_same {r : Replica} {c : Claim} (h : r.find c.key = none) :
    (r.enter c).find c.key = some c := findClaim_insertClaim_same h

theorem Replica.find_enter_other (r : Replica) {c : Claim} {k : Key} (h : k ≠ c.key) :
    (r.enter c).find k = r.find k := findClaim_insertClaim_other h _

/-! Coherent records (R3). -/

/-- R3: the held amount that a state gives a record. -/
def Claim.heldFits (c : Claim) : ClaimState → Prop
  | .held | .stuck => c.held = c.requested
  | .trimmed => ∃ m, c.minimum = some m ∧ m ≤ c.held ∧ c.held < c.requested
  | .waiting | .shed => c.held = 0
  | .orphaned => False

/-- R3, R5: a coherent record holds what its state gives it, an ORPHANED one what its prior state gives it. -/
theorem Claim.coherent_iff (c : Claim) : c.coherent = true ↔
    (c.state ≠ .orphaned ∧ c.prior = none ∧ c.heldFits c.state) ∨
      (c.state = .orphaned ∧ ∃ p, c.prior = some p ∧ c.heldFits p.state) := by
  obtain ⟨key, cls, requested, minimum, held, state, prior, arrival, skip⟩ := c
  cases state
  case orphaned =>
    cases prior with
    | none => simp [Claim.coherent]
    | some p => cases p <;> cases minimum <;> simp [Claim.coherent, Claim.heldFits, PriorState.state]
  all_goals cases prior <;> cases minimum <;> simp [Claim.coherent, Claim.heldFits]

/-- R3: a record with no prior state, in a state that its held amount fits. -/
theorem Claim.coherent_of_fits {c : Claim} (hp : c.prior = none) (hf : c.heldFits c.state) : c.coherent = true := by
  refine c.coherent_iff.mpr (.inl ⟨fun ho => ?_, hp, hf⟩)
  rw [ho] at hf
  exact hf

/-- R3: a coherent record that is not ORPHANED has no prior state and holds what its state gives it. -/
theorem Claim.fits_of_coherent {c : Claim} (h : c.coherent = true) (hs : c.state ≠ .orphaned) :
    c.prior = none ∧ c.heldFits c.state := by
  rcases c.coherent_iff.mp h with ⟨_, hp, hf⟩ | ⟨ho, _⟩
  · exact ⟨hp, hf⟩
  · exact absurd ho hs

/-! Sound tables (R1, R3). -/

theorem Replica.Sound.of_claims {r q : Replica} (h : r.Sound) (e : q.claims = r.claims) : q.Sound := by
  unfold Replica.Sound
  rw [e]
  exact h

/-- R1: a sound table holds no key twice. -/
theorem Replica.Sound.eq_of_key {r : Replica} (h : r.Sound) {c d : Claim} (hc : c ∈ r.claims) (hd : d ∈ r.claims)
    (hk : c.key = d.key) : c = d := by
  have ho := (keyOrdered_iff _).mp h.1
  have hn : (r.claims.map (·.key)).Nodup := List.pairwise_map.mpr (ho.imp fun hab he => by simp [he] at hab)
  exact List.inj_on_of_nodup_map hn hc hd hk

theorem Replica.Sound.map {r q : Replica} (h : r.Sound) {f : Claim → Claim} (hq : q.claims = r.claims.map f)
    (hk : ∀ c, (f c).key = c.key) (hc : ∀ c ∈ r.claims, (f c).coherent = true) : q.Sound := by
  refine ⟨(keyOrdered_iff _).mpr ?_, ?_⟩
  · rw [hq, List.pairwise_map]
    simpa only [hk] using (keyOrdered_iff _).mp h.1
  · rw [hq]
    simpa using hc

/-- The record that k names changes to a coherent one, and keeps its key. -/
theorem Replica.Sound.change {r : Replica} (h : r.Sound) {k : Key} {c : Claim} {f : Claim → Claim}
    (hm : c ∈ r.claims) (hck : c.key = k) (hk : ∀ d, (f d).key = d.key) (hf : (f c).coherent = true) :
    (r.change k f).Sound := by
  refine h.map rfl (fun d => ?_) fun d hd => ?_
  · split
    · exact hk d
    · rfl
  · split
    · rename_i hdk
      rw [h.eq_of_key hd hm (hdk.trans hck.symm)]
      exact hf
    · exact h.2 d hd

theorem Replica.Sound.release {r : Replica} (h : r.Sound) (k : Key) : (r.release k).Sound := h.of_claims (by simp)

theorem Replica.Sound.remove {r : Replica} (h : r.Sound) (k : Key) : (r.remove k).Sound :=
  ⟨(keyOrdered_iff _).mpr (((keyOrdered_iff _).mp h.1).filter _), fun c hc => h.2 c (List.mem_filter.mp hc).1⟩

theorem Replica.Sound.enter {r : Replica} (h : r.Sound) {c : Claim} (hn : r.find c.key = none)
    (hc : c.coherent = true) : (r.enter c).Sound := by
  refine ⟨(keyOrdered_iff _).mpr (insertClaim_pairwise ((keyOrdered_iff _).mp h.1)
    ((findClaim_eq_none_iff _ _).mp hn)), fun d hd => ?_⟩
  rcases (mem_insertClaim c d r.claims).mp hd with rfl | hd
  · exact hc
  · exact h.2 d hd

end Sys2Proof.Machine
end

section
/-! R1 and R3 through the epilogue, the own effects of the frames and the load of an image. -/

namespace Sys2Proof.Machine

/-! The epilogue. -/

theorem ClaimState.given_iff (st : ClaimState) : st.given = true ↔ st = .held ∨ st = .trimmed := by
  cases st <;> simp [ClaimState.given]

/-- R26: a HELD or TRIMMED record has no prior state and holds at most what it requested. -/
theorem Claim.given_fits {c : Claim} (h : c.coherent = true) (hg : c.state.given = true) :
    c.prior = none ∧ c.held ≤ c.requested := by
  rcases (ClaimState.given_iff _).mp hg with hs | hs <;>
    obtain ⟨hp, hf⟩ := c.fits_of_coherent h (by simp [hs]) <;> rw [hs] at hf
  · exact ⟨hp, Nat.le_of_eq hf⟩
  · obtain ⟨_, _, _, hlt⟩ := hf
    exact ⟨hp, hlt.le⟩

theorem trimOne_sound (limit : Nat) (p : Pass) (k : Key) (h : p.rep.Sound) : (trimOne limit p k).rep.Sound := by
  unfold trimOne
  split
  case h_2 => exact h
  rename_i c hf
  split
  case h_2 => exact h
  rename_i m hm
  dsimp only
  split
  case isFalse => exact h
  rename_i hc
  obtain ⟨hex, hg, hlt⟩ := hc
  have hin := mem_of_findClaim hf
  obtain ⟨hp, hle⟩ := c.given_fits (h.2 c hin) hg
  refine h.change hin (key_eq_of_findClaim hf) (fun _ => rfl) (Claim.coherent_of_fits hp ⟨m, hm, ?_, ?_⟩)
  · show m ≤ c.held - Nat.min _ (c.held - m)
    have : Nat.min (p.rep.charged - limit) (c.held - m) ≤ c.held - m := Nat.min_le_right _ _
    omega
  · show c.held - Nat.min _ (c.held - m) < c.requested
    have : 0 < Nat.min (p.rep.charged - limit) (c.held - m) := Nat.lt_min.mpr ⟨hex, by omega⟩
    omega

theorem shedOne_sound (limit : Nat) (p : Pass) (k : Key) (h : p.rep.Sound) : (shedOne limit p k).rep.Sound := by
  unfold shedOne
  split
  case h_2 => exact h
  rename_i c hf
  split
  case isFalse => exact h
  rename_i hc
  have hin := mem_of_findClaim hf
  have hp := (c.given_fits (h.2 c hin) hc.2).1
  exact Replica.Sound.release
    (h.change (f := fun c => { c with held := 0, state := .shed, skip := 0 }) hin (key_eq_of_findClaim hf)
      (fun _ => rfl) (Claim.coherent_of_fits hp rfl)) k

/-- What a step over each entry of a list keeps, the walk over the list keeps. -/
theorem foldl_keeps_of_mem {σ α : Type} {P : σ → Prop} {f : σ → α → σ} (l : List α)
    (hf : ∀ a ∈ l, ∀ x, P x → P (f x a)) {x : σ} (h : P x) : P (l.foldl f x) := by
  induction l generalizing x with
  | nil => exact h
  | cons a l ih => exact ih (fun b hb => hf b (List.mem_cons_of_mem a hb)) (hf a (by simp) x h)

theorem foldl_keeps {σ α : Type} {P : σ → Prop} {f : σ → α → σ} (hf : ∀ x a, P x → P (f x a)) (l : List α) {x : σ}
    (h : P x) : P (l.foldl f x) :=
  foldl_keeps_of_mem l (fun a _ x => hf x a) h

theorem shedClass_sound (limit : Nat) (p : Pass) (cls : LoadClass) (h : p.rep.Sound) :
    (shedClass limit p cls).rep.Sound :=
  foldl_keeps (P := fun p : Pass => p.rep.Sound) (shedOne_sound limit) _
    (foldl_keeps (P := fun p : Pass => p.rep.Sound) (trimOne_sound limit) _ h)

theorem sheddingPass_sound (p : Pass) (h : p.rep.Sound) : (sheddingPass p).rep.Sound :=
  shedClass_sound _ _ _ (foldl_keeps (P := fun p : Pass => p.rep.Sound) (fun p c => shedClass_sound _ p c) _ h)

theorem mem_insertBy {α : Type} (before : α → α → Bool) (x y : α) (l : List α) :
    y ∈ insertBy before x l ↔ y = x ∨ y ∈ l := by
  induction l with
  | nil => simp [insertBy]
  | cons a l ih =>
    unfold insertBy
    split
    · simp
    · simp only [List.mem_cons, ih]
      exact or_left_comm

theorem mem_sortBy {α : Type} (before : α → α → Bool) (y : α) (l : List α) : y ∈ sortBy before l ↔ y ∈ l := by
  induction l with
  | nil => simp [sortBy]
  | cons a l ih => simp [sortBy, mem_insertBy, ih]

theorem mem_admissionQueue (c : Claim) (claims : List Claim) :
    c ∈ admissionQueue claims ↔ c ∈ claims ∧ c.state.queued = true := by
  simp [admissionQueue, mem_sortBy]

/-- R31: what the walk admits stands in the queue and fits. -/
theorem walkQueue_admits {phase : PhaseRecord} {charged : Nat} {touched passed : List Key} {queue : List Claim}
    {a : Admission} (h : walkQueue phase charged touched passed queue = some a) :
    a.claim ∈ queue ∧ fit (phase.available a.claim.cls) charged a.claim = some (a.state, a.held) := by
  induction queue generalizing passed with
  | nil => simp [walkQueue] at h
  | cons c queue ih =>
    unfold walkQueue at h
    split at h
    · rename_i st held hfit
      obtain rfl := Option.some.inj h
      split at hfit
      · cases hfit
      · exact ⟨by simp, hfit⟩
    · split at h
      · cases h
      · exact ⟨List.mem_cons_of_mem _ (ih h).1, (ih h).2⟩

/-- R32, R33: an entry that fits takes a state and a held amount that go together. -/
theorem fit_fits {available charged held : Nat} {c : Claim} {st : ClaimState} (hc : c.coherent = true)
    (hq : c.state.queued = true) (h : fit available charged c = some (st, held)) :
    c.prior = none ∧ ({ c with held := held, state := st, skip := 0 } : Claim).heldFits st := by
  obtain ⟨hp, hf⟩ := c.fits_of_coherent hc (by rintro hs; simp [hs, ClaimState.queued] at hq)
  refine ⟨hp, ?_⟩
  unfold fit at h
  split at h
  · rename_i hs
    rw [hs] at hf
    obtain ⟨m, hm, hle, hlt⟩ := hf
    split at h <;> cases h
    have hle' : Nat.min (available - charged) (c.requested - c.held) ≤ c.requested - c.held := Nat.min_le_right _ _
    split
    · assumption
    · rename_i hne
      refine ⟨m, hm, Nat.le_add_right_of_le hle, ?_⟩
      show c.held + Nat.min _ _ < c.requested
      omega
  · split at h
    · cases h
      rfl
    · rename_i hnot
      split at h
      · rename_i m hm
        split at h <;> cases h
        rename_i hroom
        refine ⟨m, hm, ?_, ?_⟩
        · show m ≤ available - charged
          omega
        · show available - charged < c.requested
          omega
      · cases h

/-- The skip count is no part of what R3 asks. -/
theorem Claim.coherent_skip (c : Claim) (n : Nat) : ({ c with skip := n } : Claim).coherent = c.coherent := rfl

theorem admissionPass_sound (touched : List Key) (p : Pass) (h : p.rep.Sound) :
    (admissionPass touched p).1.rep.Sound := by
  unfold admissionPass
  split
  case isFalse => exact h
  split
  case h_2 => exact h
  rename_i a ha
  obtain ⟨hin, hfit⟩ := walkQueue_admits ha
  obtain ⟨hin, hq⟩ := (mem_admissionQueue _ _).mp hin
  refine h.map rfl (fun c => ?_) fun c hc => ?_
  · (repeat' split) <;> rfl
  · split
    · rename_i hk
      rw [h.eq_of_key hc hin hk]
      obtain ⟨hp, hf⟩ := fit_fits (h.2 _ hin) hq hfit
      exact Claim.coherent_of_fits hp hf
    · split
      · rw [Claim.coherent_skip]
        exact h.2 c hc
      · exact h.2 c hc

theorem epilogue_sound (r : Replica) (h : r.Sound) : (epilogue r).1.rep.Sound := by
  have hs := sheddingPass_sound { rep := r, log := [] } h
  unfold epilogue
  generalize sheddingPass { rep := r, log := [] } = p at hs ⊢
  exact admissionPass_sound _ p hs

/-! The own effects. -/

theorem newClaim_coherent (k : Key) (cls : LoadClass) (requested minimum : Byte) (arrival : Nat) :
    (newClaim k cls requested minimum arrival).coherent = true := rfl

/-- The checks of a rule let pass what meets every one of them. -/
theorem firstFailure_eq_none_iff (checks : List (Bool × IgnoreCause)) :
    firstFailure checks = none ↔ ∀ p ∈ checks, p.1 = true := by
  induction checks with
  | nil => simp [firstFailure]
  | cons p checks ih => cases hp : p.1 <;> simp [firstFailure, hp, ih]

theorem claimEffect_sound (f : Frame) (r : Replica) (h : r.Sound) : (claimEffect f r).rep.Sound := by
  unfold claimEffect
  split
  case h_2 => exact h
  rename_i slot _ _ _ _
  dsimp only
  split
  case h_1 => exact h
  rename_i hchecks
  have hnew := (firstFailure_eq_none_iff _).mp hchecks ((r.find ⟨f.sender, slot⟩).isNone, .duplicateKey) (by simp)
  exact h.enter (Option.isNone_iff_eq_none.mp hnew) (newClaim_coherent _ _ _ _ _)

theorem releaseEffect_sound (f : Frame) (r : Replica) (h : r.Sound) : (releaseEffect f r).rep.Sound := by
  unfold releaseEffect
  (repeat' split) <;> first | exact h | exact h.remove _

theorem settledEffect_sound (f : Frame) (r : Replica) (h : r.Sound) : (settledEffect f r).rep.Sound := by
  unfold settledEffect
  (repeat' split) <;> exact h.of_claims rfl

theorem phaseEffect_sound (f : Frame) (r : Replica) (h : r.Sound) : (phaseEffect f r).rep.Sound := by
  unfold phaseEffect
  (repeat' split) <;> exact h.of_claims rfl

theorem budgetEffect_sound (f : Frame) (r : Replica) (h : r.Sound) : (budgetEffect f r).rep.Sound := by
  unfold budgetEffect
  (repeat' split) <;> exact h.of_claims rfl

theorem shedRequestEffect_sound (f : Frame) (r : Replica) (h : r.Sound) : (shedRequestEffect f r).rep.Sound := by
  unfold shedRequestEffect
  (repeat' split) <;> exact h.of_claims rfl

theorem liftEffect_sound (f : Frame) (r : Replica) (h : r.Sound) : (liftEffect f r).rep.Sound := by
  unfold liftEffect
  split <;> exact h.of_claims rfl

/-- The record that a SHED_FAULT or a STUCK_CLEAR names is the table's. -/
theorem mem_of_senderRecord {f : Frame} {r : Replica} {b : Byte} {c : Claim} (h : senderRecord f r b = .ok c) :
    c ∈ r.claims := by
  unfold senderRecord at h
  split at h
  · split at h
    · cases h
    · split at h <;> cases h
      rename_i hf
      exact mem_of_findClaim hf
  · cases h

theorem shedFaultEffect_sound (f : Frame) (r : Replica) (h : r.Sound) : (shedFaultEffect f r).rep.Sound := by
  unfold shedFaultEffect
  split
  case h_2 => exact h
  split
  case h_1 => exact h
  rename_i c hc
  have hin := mem_of_senderRecord hc
  split
  case isFalse => exact h
  rename_i hs
  have hno : c.state ≠ .orphaned := by
    intro ho
    simp [ho, ClaimState.given] at hs
  exact h.change hin rfl (fun _ => rfl) (Claim.coherent_of_fits (c.fits_of_coherent (h.2 c hin) hno).1 rfl)

theorem stuckClearEffect_sound (f : Frame) (r : Replica) (h : r.Sound) : (stuckClearEffect f r).rep.Sound := by
  unfold stuckClearEffect
  split
  case h_2 => exact h
  split
  case h_1 => exact h
  rename_i c hc
  have hin := mem_of_senderRecord hc
  split
  case isFalse => exact h
  rename_i hs
  have hp := (c.fits_of_coherent (h.2 c hin) (by simp [hs])).1
  exact Replica.Sound.release
    (h.change (f := fun c => { c with state := .shed, held := 0 }) hin rfl (fun _ => rfl)
      (Claim.coherent_of_fits hp rfl)) c.key

/-- R108: orphaning keeps the held amount, which the prior state explains. -/
theorem Claim.orphaned_coherent {c : Claim} {prior : PriorState} (h : c.coherent = true) (hs : c.state = prior.state) :
    ({ c with state := .orphaned, prior := some prior } : Claim).coherent = true := by
  have hf := (c.fits_of_coherent h (by rw [hs]; cases prior <;> simp [PriorState.state])).2
  rw [hs] at hf
  exact (Claim.coherent_iff _).mpr (.inr ⟨rfl, prior, rfl, hf⟩)

/-- R115: a record resumed takes back the state that its held amount fits. -/
theorem Claim.resumed_coherent {c : Claim} {prior : PriorState} (h : c.coherent = true) (hs : c.state = .orphaned)
    (hp : c.prior = some prior) : ({ c with state := prior.state, prior := none } : Claim).coherent = true := by
  rcases c.coherent_iff.mp h with ⟨hno, _⟩ | ⟨_, p, hp', hf⟩
  · exact absurd hs hno
  · rw [hp] at hp'
    obtain rfl := Option.some.inj hp'
    exact Claim.coherent_of_fits rfl hf

/-- R108: what an ABSENCE makes of one record leaves the records of every other key. -/
theorem orphanOne_mem {p : Pass} {c d : Claim} (hd : d ∈ p.rep.claims) (hk : d.key ≠ c.key) :
    d ∈ (orphanOne p c).rep.claims := by
  unfold orphanOne
  dsimp only
  split
  case h_1 | h_2 | h_3 => exact List.mem_map.mpr ⟨d, hd, by rw [if_neg hk]⟩
  case h_4 | h_5 =>
    split
    · exact hd
    · exact List.mem_filter.mpr ⟨by simpa using hd, by simpa using hk⟩
  case h_6 => exact hd

theorem orphanOne_sound {p : Pass} {c : Claim} (h : p.rep.Sound) (hc : c ∈ p.rep.claims) :
    (orphanOne p c).rep.Sound := by
  unfold orphanOne
  dsimp only
  split
  case h_1 hs => exact h.change hc rfl (fun _ => rfl) (Claim.orphaned_coherent (h.2 c hc) hs)
  case h_2 hs => exact h.change hc rfl (fun _ => rfl) (Claim.orphaned_coherent (h.2 c hc) hs)
  case h_3 hs => exact h.change hc rfl (fun _ => rfl) (Claim.orphaned_coherent (h.2 c hc) hs)
  case h_4 | h_5 =>
    split
    · exact h
    · exact h.remove _
  case h_6 => exact h

/-- R108: the records of an absent station in turn, each of which stands until its own turn. -/
theorem foldl_orphanOne_sound {l : List Claim} (hl : l.Pairwise fun a b => b.key ≠ a.key) {p : Pass} (h : p.rep.Sound)
    (hm : ∀ c ∈ l, c ∈ p.rep.claims) : (l.foldl orphanOne p).rep.Sound := by
  induction l generalizing p with
  | nil => exact h
  | cons c l ih =>
    obtain ⟨hc, hl⟩ := List.pairwise_cons.mp hl
    exact ih hl (orphanOne_sound h (hm c (by simp))) fun d hd => orphanOne_mem (hm d (by simp [hd])) (hc d hd)

theorem absenceEffect_sound (f : Frame) (r : Replica) (h : r.Sound) : (absenceEffect f r).rep.Sound := by
  unfold absenceEffect
  split
  case h_2 => exact h
  split
  case h_1 => exact h
  split
  case isFalse => exact h
  refine Replica.Sound.of_claims (foldl_orphanOne_sound ?_ (h.of_claims rfl) fun c hc => (List.mem_filter.mp hc).1) rfl
  refine List.Pairwise.filter _ (((keyOrdered_iff _).mp h.1).imp fun hab he => ?_)
  simp [he] at hab

theorem removeAll_sound (p : Pass) (cs : List Claim) (h : p.rep.Sound) : (removeAll p cs).rep.Sound :=
  foldl_keeps (P := fun p : Pass => p.rep.Sound) (fun _ _ hp => hp.remove _) cs h

theorem reclaimEffect_sound (f : Frame) (r : Replica) (h : r.Sound) : (reclaimEffect f r).rep.Sound := by
  unfold reclaimEffect
  (repeat' split) <;> first | exact h | exact removeAll_sound _ _ h

theorem leaveEffect_sound (f : Frame) (r : Replica) (h : r.Sound) : (leaveEffect f r).rep.Sound := by
  unfold leaveEffect
  split
  · exact Replica.Sound.of_claims (removeAll_sound _ _ (h.of_claims rfl)) rfl
  · exact h

theorem enterEntry_sound (sender : Station) (cls : LoadClass) (e : EntryField) (o : JoinOutcome) (x : Reconciled)
    (h : x.pass.rep.Sound) (hn : x.pass.rep.find { station := sender, slot := e.slot } = none) :
    (enterEntry sender cls e o x).pass.rep.Sound := by
  unfold enterEntry
  dsimp only
  split
  · exact h.enter hn (newClaim_coherent _ _ _ _ _)
  · exact h

theorem resumeClaim_sound {c : Claim} {p : Pass} (h : p.rep.Sound) (hc : c ∈ p.rep.claims) :
    (resumeClaim c p).rep.Sound := by
  unfold resumeClaim
  split
  · rename_i prior hs hp
    exact h.change hc rfl (fun _ => rfl) (Claim.resumed_coherent (h.2 c hc) hs hp)
  · exact h

theorem slot_of_entryFor {s : SlotNo} {entries : List EntryField} {e : EntryField} (h : entryFor s entries = some e) :
    e.slot = s := by
  simpa using List.find?_some h

theorem reconcileSlot_sound (sender : Station) (caps : Vector Capability 4) (entries : List EntryField) (x : Reconciled)
    (s : SlotNo) (h : x.pass.rep.Sound) : (reconcileSlot sender caps entries x s).pass.rep.Sound := by
  unfold reconcileSlot
  dsimp only
  split
  case h_1 =>
    split
    · exact h
    · exact h.remove _
  rename_i e he
  obtain rfl := slot_of_entryFor he
  split
  case h_1 =>
    split
    · exact h
    · exact h.remove _
  split
  · rename_i hn
    exact enterEntry_sound _ _ _ _ _ h hn
  · rename_i c hc
    split
    · exact resumeClaim_sound h (mem_of_findClaim hc)
    · refine enterEntry_sound _ _ _ _ _ (h.remove _) ?_
      rw [Replica.find_remove, if_pos (key_eq_of_findClaim hc).symm]

theorem joinEffect_sound (f : Frame) (r : Replica) (h : r.Sound) : (joinEffect f r).rep.Sound := by
  unfold joinEffect
  split
  case h_2 => exact h
  split
  case h_2 => exact h
  split
  case isFalse => exact h
  exact foldl_keeps (P := fun x : Reconciled => x.pass.rep.Sound) (reconcileSlot_sound _ _ _) _ (h.of_claims rfl)

/-- R1, R3: every own effect keeps the claim table sound. -/
theorem tableEffect_sound {kind : FrameKind} {effect : Frame → Replica → OwnEffect}
    (he : tableEffect kind = some effect) (f : Frame) (r : Replica) (h : r.Sound) : (effect f r).rep.Sound := by
  cases kind <;> cases he
  case join => exact joinEffect_sound f r h
  case leave => exact leaveEffect_sound f r h
  case claim => exact claimEffect_sound f r h
  case release => exact releaseEffect_sound f r h
  case settled => exact settledEffect_sound f r h
  case phase => exact phaseEffect_sound f r h
  case budget => exact budgetEffect_sound f r h
  case shedRequest => exact shedRequestEffect_sound f r h
  case lift => exact liftEffect_sound f r h
  case shedFault => exact shedFaultEffect_sound f r h
  case stuckClear => exact stuckClearEffect_sound f r h
  case absence => exact absenceEffect_sound f r h
  case reclaim => exact reclaimEffect_sound f r h

theorem Replica.Sound.setDigest {r : Replica} (h : r.Sound) (d : Half) : ({ r with digest := d } : Replica).Sound := h

theorem Replica.Sound.setEpoch {r : Replica} (h : r.Sound) (e : Half) : ({ r with epoch := e } : Replica).Sound := h

/-- R81: the epoch and the digest are no part of the table, so an application keeps it sound. -/
theorem Replica.apply_sound {r : Replica} {effect : Replica → OwnEffect}
    (he : ∀ q : Replica, q.Sound → (effect q).rep.Sound) (h : r.Sound) : (r.apply effect).after.Sound := by
  have hs := epilogue_sound _ (he _ (h.setEpoch (r.epoch + 1)))
  exact hs.setDigest _

/-! The load of an image. -/

/-- R1: the table that records make is in key order and holds none but them. -/
theorem tableOf_sound (claims : List Claim) :
    keyOrdered (tableOf claims) = true ∧ ∀ c ∈ tableOf claims, c ∈ claims := by
  have h : (tableOf claims).Pairwise (fun a b => a.key.code < b.key.code) ∧ ∀ c ∈ tableOf claims, c ∈ claims := by
    refine foldl_keeps_of_mem (P := fun table : List Claim =>
      table.Pairwise (fun a b => a.key.code < b.key.code) ∧ ∀ c ∈ table, c ∈ claims) claims ?_ ⟨.nil, by simp⟩
    rintro c hc table ⟨ho, hm⟩
    split
    · exact ⟨ho, hm⟩
    · rename_i hn
      refine ⟨insertClaim_pairwise ho (by simpa using hn), fun d hd => ?_⟩
      rcases (mem_insertClaim c d table).mp hd with rfl | hd
      · exact hc
      · exact hm d hd
  exact ⟨(keyOrdered_iff _).mpr h.1, h.2⟩

theorem Replica.ofImage_sound {e te digest : Half} {image : List Byte} {r : Replica}
    (h : Replica.ofImage e image te digest = some r) : r.Sound := by
  unfold Replica.ofImage at h
  split at h
  · cases h
  · rename_i spelt _
    dsimp only at h
    split at h
    · rename_i hchecks
      obtain ⟨_, _, hcoherent, _⟩ := hchecks
      obtain rfl := Option.some.inj h
      obtain ⟨ho, hm⟩ := tableOf_sound spelt.claims
      exact ⟨ho, fun c hc => List.all_eq_true.mp hcoherent c (hm c hc)⟩
    · cases h

theorem Replica.start_sound : Replica.start.Sound :=
  Replica.Sound.of_claims (r := { Replica.blank with claims := [] }) ⟨rfl, by simp⟩ rfl

end Sys2Proof.Machine
end

section
/-! R1 and R3 in every step: the operations that leave the replica alone, then those that make a new one, then the
commands and events. -/

namespace Sys2Proof.Machine

/-! Operations that leave the replica as it is. -/

@[simp] theorem State.endTransmission_replica (s : State) : s.endTransmission.replica = s.replica := rfl
@[simp] theorem State.probeEnded_replica (s : State) : s.probeEnded.replica = s.replica := rfl
@[simp] theorem State.pushInbound_replica (s : State) (f : Frame) : (s.pushInbound f).replica = s.replica := rfl
@[simp] theorem State.hear_replica (s : State) (n : Station) : (s.hear n).replica = s.replica := by simp [State.hear]

@[simp] theorem State.takeStartBit_replica (s : State) : s.takeStartBit.replica = s.replica := by
  unfold State.takeStartBit
  split <;> simp

@[simp] theorem State.failReadback_replica (s : State) (t : Transmission) : (s.failReadback t).replica = s.replica := by
  unfold State.failReadback
  dsimp only
  (repeat' split) <;> simp

@[simp] theorem State.heardItself_replica (s : State) : s.heardItself.replica = s.replica := by
  unfold State.heardItself State.setIsolation
  (repeat' split) <;> simp

@[simp] theorem State.heardOther_replica (s : State) : s.heardOther.replica = s.replica := by
  unfold State.heardOther State.setIsolation
  (repeat' split) <;> simp

@[simp] theorem State.leaveLane_replica (s : State) (t : Transmission) : (s.leaveLane t).replica = s.replica := by
  unfold State.leaveLane
  dsimp only
  split <;> simp

@[simp] theorem State.beginHold_replica (s : State) (b : Body) : (s.beginHold b).replica = s.replica := by
  unfold State.beginHold
  split <;> simp

@[simp] theorem State.admitOwn_replica (s : State) (f : Frame) : (s.admitOwn f).replica = s.replica := by
  unfold State.admitOwn
  split <;> simp

@[simp] theorem State.completeClean_replica (s : State) (t : Transmission) :
    (s.completeClean t).replica = s.replica := by
  unfold State.completeClean
  dsimp only
  split <;> simp

@[simp] theorem State.makeChange_replica (s : State) (c : LateChange) : (s.makeChange c).replica = s.replica := by
  cases c <;> simp only [State.makeChange] <;> split <;> simp

@[simp] theorem State.changeOutside_replica (s : State) (c : LateChange) : (s.changeOutside c).replica = s.replica := by
  unfold State.changeOutside State.defer
  (repeat' split) <;> simp

@[simp] theorem State.makeLate_replica (s : State) : s.makeLate.replica = s.replica := by
  have h := foldl_keeps (P := fun t : State => t.replica = s.replica) (f := State.makeChange)
    (fun t c ht => by simp [ht]) s.link.late (x := s.setLink { s.link with late := [] }) rfl
  simpa [State.makeLate] using h

@[simp] theorem State.overrun_replica (s : State) (f : Frame) : (s.overrun f).replica = s.replica := by
  unfold State.overrun
  split <;> simp

@[simp] theorem State.takeFrame_replica (s : State) (f : Frame) : (s.takeFrame f).replica = s.replica := by
  unfold State.takeFrame
  (repeat' split) <;> simp

@[simp] theorem State.receive_replica (s : State) (w : WireFrame) : (s.receive w).replica = s.replica := by
  unfold State.receive State.duplicate
  (repeat' split) <;> simp

/-- An expiry whose act leaves the replica leaves it. -/
theorem State.expire_replica {act : State → State} (ha : ∀ t, (act t).replica = t.replica) (s : State)
    (d : Option Nat) : (s.expire d act).replica = s.replica := by
  unfold State.expire
  split <;> simp [ha]

@[simp] theorem State.beat_replica (s : State) : s.beat.replica = s.replica := by
  unfold State.beat
  dsimp only
  (repeat' split) <;> simp

@[simp] theorem State.keepReplica_replica (s : State) : s.keepReplica.replica = s.replica := by
  unfold State.keepReplica
  dsimp only
  (repeat' split) <;> simp

@[simp] theorem State.askAgain_replica (s : State) : s.askAgain.replica = s.replica := by
  unfold State.askAgain
  dsimp only
  split <;> simp

@[simp] theorem State.peerSilent_replica (s : State) (p : Station) : (s.peerSilent p).replica = s.replica := by
  unfold State.peerSilent
  dsimp only
  split <;> simp

@[simp] theorem State.orphansDue_replica (s : State) (p : Station) : (s.orphansDue p).replica = s.replica := by
  unfold State.orphansDue
  dsimp only
  split <;> simp

@[simp] theorem State.settleExpires_replica (s : State) : s.settleExpires.replica = s.replica := by
  unfold State.settleExpires State.beginCrank
  dsimp only
  (repeat' split) <;> simp

@[simp] theorem State.lockoutExpires_replica (s : State) : s.lockoutExpires.replica = s.replica := by
  unfold State.lockoutExpires State.restartLockout
  (repeat' split) <;> simp

@[simp] theorem State.latchExpires_replica (s : State) : s.latchExpires.replica = s.replica := by
  unfold State.latchExpires
  dsimp only
  (repeat' split) <;> simp

@[simp] theorem State.offExpires_replica (s : State) (i : SlotNo) : (s.offExpires i).replica = s.replica := by
  unfold State.offExpires State.restartOff State.setOffDeadline
  (repeat' split) <;> simp

@[simp] theorem State.slotSettled_replica (s : State) (i : SlotNo) : (s.slotSettled i).replica = s.replica := by
  unfold State.slotSettled State.restartSettle State.setSettle
  (repeat' split) <;> simp

@[simp] theorem State.gateExpires_replica (s : State) (g : GateTimeout) : (s.gateExpires g).replica = s.replica := by
  unfold State.gateExpires State.restartGate State.setGate
  (repeat' split) <;> simp

@[simp] theorem State.beginRelease_replica (s : State) (i : SlotNo) : (s.beginRelease i).replica = s.replica := by
  simp [State.beginRelease]

@[simp] theorem State.holdReached_replica (s : State) (i : SlotNo) : (s.holdReached i).replica = s.replica := by
  unfold State.holdReached State.holdBack
  (repeat' split) <;> simp

@[simp] theorem State.peerDrive_replica (s : State) (low : Bool) : (s.peerDrive low).replica = s.replica := by
  unfold State.peerDrive
  dsimp only
  split <;> simp

@[simp] theorem State.feedback_replica (s : State) (i : SlotNo) (d : Bool) : (s.feedback i d).replica = s.replica := by
  unfold State.feedback
  dsimp only
  split <;> simp

@[simp] theorem State.endPulse_replica (s : State) (second : Bool) : (s.endPulse second).replica = s.replica := by
  simp [State.endPulse]

@[simp] theorem State.takePresence_replica (s : State) (f : Frame) : (s.takePresence f).replica = s.replica := by
  unfold State.takePresence
  (repeat' split) <;> simp

@[simp] theorem State.takeSyncRequest_replica (s : State) (f : Frame) : (s.takeSyncRequest f).replica = s.replica := by
  unfold State.takeSyncRequest
  dsimp only
  (repeat' split) <;> simp

@[simp] theorem State.takeSnapshot_replica (s : State) (f : Frame) : (s.takeSnapshot f).replica = s.replica := by
  unfold State.takeSnapshot
  (repeat' split) <;> simp

@[simp] theorem State.rosterOutcome_replica (f : Frame) (a : Applied) (s : State) (n : Station) :
    (State.rosterOutcome f a s n).replica = s.replica := by
  unfold State.rosterOutcome
  dsimp only
  (repeat' split) <;> simp

/-- R80: the blocks that take an outcome see the replica it left. -/
theorem State.takeOutcome_replica (s : State) (f : Frame) (a : Applied) :
    (s.takeOutcome f a).replica = some a.after := by
  unfold State.takeOutcome
  dsimp only
  generalize hm : State.stateOutcome _ f a s.joinBody = moved
  have hm' : moved.replica = some a.after := by
    subst hm
    simp only [State.stateOutcome_frame, State.slotOutcomes_frame, State.recordTransitions_frame]
    split <;> simp
  have h := foldl_keeps (P := fun t : State => t.replica = some a.after) (f := State.rosterOutcome f a)
    (fun t n ht => by simp [ht]) allStations hm'
  simpa using h

/-! Operations that make a replica. -/

theorem State.TableSound.of_replica {s t : State} (h : s.TableSound) (e : t.replica = s.replica) : t.TableSound := by
  unfold State.TableSound
  rw [e]
  exact h

theorem State.TableSound.of_none {t : State} (e : t.replica = none) : t.TableSound := by
  intro r hr
  rw [e] at hr
  cases hr

theorem State.TableSound.of_some {t : State} {r : Replica} (h : r.Sound) (e : t.replica = some r) : t.TableSound := by
  intro q hq
  rw [e] at hq
  cases hq
  exact h

theorem State.TableSound.setPort {s : State} (h : s.TableSound) (v : Port) : (s.setPort v).TableSound :=
  h.of_replica rfl

theorem State.TableSound.setLink {s : State} (h : s.TableSound) (v : LinkUnit) : (s.setLink v).TableSound :=
  h.of_replica rfl

theorem State.TableSound.setPending {s : State} (h : s.TableSound) (v : List Instr) : (s.setPending v).TableSound :=
  h.of_replica rfl

theorem State.TableSound.conclude {s : State} (h : s.TableSound) : s.conclude.TableSound := h.of_replica (by simp)

/-- R98: what a load leaves is the replica loaded. -/
theorem State.loadReplica_replica (s : State) (r : Replica) : (s.loadReplica r).replica = some r := by
  simp [State.loadReplica]

theorem State.TableSound.loadSnapshot {s : State} (h : s.TableSound) (e : Half) (image : List Byte) (f : Frame) :
    (s.loadSnapshot e image f).TableSound := by
  unfold State.loadSnapshot
  split
  · rename_i r hr
    exact .of_some (Replica.ofImage_sound hr) (s.loadReplica_replica r)
  · exact h.of_replica (by simp)

theorem State.adoptStart_replica (s : State) : s.adoptStart.replica = some .start := by simp [State.adoptStart]

theorem State.TableSound.syncExpires {s : State} (h : s.TableSound) : s.syncExpires.TableSound := by
  unfold State.syncExpires
  split
  · exact h.of_replica (by simp)
  · split
    · exact .of_some Replica.start_sound s.adoptStart_replica
    · exact h.of_replica (by simp)
    · exact h

theorem State.TableSound.yieldTo {s : State} (h : s.TableSound) (n : Nat) (f : Frame) : (s.yieldTo n f).TableSound := by
  have ht : ((s.capture .digestYield (.station f.sender) (some f.body.kind)).enter .tainted .digestYield).TableSound :=
    h.of_replica (by simp)
  unfold State.yieldTo
  refine State.TableSound.of_replica ?_ (State.settleDown_frame _ n).1.2.2.2.1
  (repeat' split) <;> first | exact ht | exact ht.loadSnapshot _ _ _

theorem State.TableSound.applyFrame {s : State} (h : s.TableSound) (f : Frame) {steps : State → Nat → State}
    (hs : ∀ t n, t.TableSound → (steps t n).TableSound) : (s.applyFrame f steps).TableSound := by
  unfold State.applyFrame
  dsimp only
  split
  · exact hs _ _ h
  · exact hs _ _ (h.of_replica (by simp))
  · exact h.yieldTo _ _

theorem State.TableSound.applyHead {s : State} (h : s.TableSound) (kind : FrameKind) {act : Frame → State → State}
    (ha : ∀ f t, t.TableSound → (act f t).TableSound) : (s.applyHead kind act).TableSound := by
  unfold State.applyHead
  split
  · split
    · exact (ha _ _ (h.setLink _)).conclude
    · exact h
  · exact h

theorem State.TableSound.applyTable {s : State} (h : s.TableSound) (f : Frame) {effect : Frame → Replica → OwnEffect}
    (he : ∀ r : Replica, r.Sound → (effect f r).rep.Sound) (n : Nat) : (s.applyTable f effect n).TableSound := by
  unfold State.applyTable
  split
  · rename_i r hr
    refine .of_some (Replica.apply_sound he (h r hr)) ?_
    dsimp only
    split <;> simp [State.takeOutcome_replica]
  · exact h

theorem State.TableSound.tableFrame {s : State} (h : s.TableSound) {kind : FrameKind}
    {effect : Frame → Replica → OwnEffect} (he : tableEffect kind = some effect) :
    (s.tableFrame kind effect).TableSound :=
  h.applyHead kind fun f _ ht => ht.applyFrame f fun _ n hu => hu.applyTable f (tableEffect_sound he f) n

theorem State.TableSound.plainFrame {s : State} (h : s.TableSound) (kind : FrameKind) {take : State → Frame → State}
    (ht : ∀ t f, (take t f).replica = t.replica) : (s.plainFrame kind take).TableSound :=
  h.applyHead kind fun f _ hu => hu.applyFrame f fun u _ hv => hv.of_replica (by simp [ht])

theorem State.TableSound.snapshotFrame {s : State} (h : s.TableSound) : s.snapshotFrame.TableSound := by
  refine h.applyHead .snapshot fun f t ht => ?_
  split
  case h_1 | h_2 =>
    rename_i epoch image _ _
    exact (ht.loadSnapshot epoch image f).of_replica (by simp)
  · exact ht.applyFrame f fun u n hu => hu.of_replica (by simp)

theorem State.TableSound.applyKind {s : State} (h : s.TableSound) (kind : FrameKind) :
    (s.applyKind kind).TableSound := by
  cases kind
  case presence => exact h.plainFrame _ State.takePresence_replica
  case syncRequest => exact h.plainFrame _ State.takeSyncRequest_replica
  case snapshot => exact h.snapshotFrame
  all_goals exact h.tableFrame rfl

/-! Commands. -/

/-- The checks of a command leave the state, or let pass what it does. -/
theorem State.checked_state {P : State → Prop} {s : State} {done : Taken} (h : P s) (hd : P done.state)
    (checks : List (Bool × ResponseCode)) : P (s.checked checks done).state := by
  induction checks with
  | nil => exact hd
  | cons c checks ih =>
    unfold State.checked
    split
    · exact ih
    · exact h

@[simp] theorem State.spendFree_replica (s : State) : s.spendFree.replica = s.replica := by
  unfold State.spendFree
  split <;> rfl

theorem State.softReset_replica (s : State) : s.softReset.replica = none := by simp [State.softReset]

theorem State.TableSound.joinCommand {s : State} (h : s.TableSound) : s.joinCommand.state.TableSound := by
  unfold State.joinCommand
  (repeat' split)
  case h_2.isTrue => exact .of_none (by simp [State.accept, State.freshTables])
  all_goals exact h.of_replica (by simp [State.accept, State.refuse])

theorem State.TableSound.restartCommand {s : State} (h : s.TableSound) : s.restartCommand.state.TableSound := by
  unfold State.restartCommand
  split
  · exact h
  · exact .of_none (by simp [State.answer, State.softReset_replica])

/-- Every command but JOIN and RESTART leaves the replica. -/
theorem State.perform_replica (s : State) (c : Command) (hj : c ≠ .join) (hr : c ≠ .restart) :
    (s.perform c).state.replica = s.replica := by
  cases c <;> simp only [State.perform]
  case join => exact absurd rfl hj
  case restart => exact absurd rfl hr
  case configure =>
    unfold State.configure State.setPart
    (repeat' split) <;> rfl
  case readConfig | readNotice | readFault | clearFault | echo => rfl
  case leave | requestCrank | announceBudget | lift | readHistory | freezeHistory | thawHistory =>
    exact State.checked_state (P := fun t => t.replica = s.replica) rfl (by rfl) _
  case crankDone | engineRunning | engineStopped =>
    exact State.checked_state (P := fun t => t.replica = s.replica) rfl (by simp [State.accept, State.reportPhase]) _
  case crankFailed =>
    refine State.checked_state (P := fun t => t.replica = s.replica) rfl ?_ _
    simp only [State.accept, State.failCrank, State.reportPhase]
    split <;> simp
  case cancelCrank =>
    refine State.checked_state (P := fun t => t.replica = s.replica) rfl ?_ _
    split
    · simp [State.answer]
    · exact State.checked_state (P := fun t => t.replica = s.replica) rfl (by simp [State.accept, State.reportPhase]) _
  case claim =>
    unfold State.claimCommand
    (repeat' split) <;> first | rfl | exact State.checked_state (P := fun t => t.replica = s.replica) rfl (by rfl) _
  case release =>
    unfold State.releaseCommand
    (repeat' split) <;>
      first
      | rfl
      | simp [State.answer, State.withdrawClaim]
      | exact State.checked_state (P := fun t => t.replica = s.replica) rfl (by rfl) _
  case readStatus =>
    unfold State.readStatus
    split <;> rfl
  case readClaim =>
    unfold State.readClaim
    (repeat' split) <;> rfl
  case readPeer =>
    unfold State.readPeer
    split <;> rfl
  case setWatch =>
    unfold State.setWatch
    dsimp only
    (repeat' split) <;> simp [State.answer, State.refuse]
  case armWatch =>
    unfold State.armWatch
    (repeat' split) <;> simp [State.answer, State.refuse]

theorem State.TableSound.perform {s : State} (h : s.TableSound) (c : Command) : (s.perform c).state.TableSound := by
  by_cases hj : c = .join
  · subst hj
    exact h.joinCommand
  by_cases hr : c = .restart
  · subst hr
    exact h.restartCommand
  exact h.of_replica (s.perform_replica c hj hr)

theorem State.TableSound.takeCommand {s : State} (h : s.TableSound) : s.takeCommand.TableSound := by
  unfold State.takeCommand
  split
  · unfold State.runRecord
    split
    · exact (h.perform _).setPort _
    · exact h.setPort _
  · exact h

theorem State.TableSound.takeAtRise {s : State} (h : s.TableSound) (applying : Bool) :
    (s.takeAtRise applying).TableSound := by
  unfold State.takeAtRise
  split
  · exact h.setPort _
  · exact h.takeCommand

theorem State.TableSound.offerRecord {s : State} (h : s.TableSound) (applying : Bool) (record : CommandRecord) :
    (s.offerRecord applying record).TableSound := by
  unfold State.offerRecord
  split
  · exact h.setPort _
  · exact (h.setPort _).takeAtRise applying

theorem State.TableSound.give {s : State} (h : s.TableSound) (c : Command) : (s.give c).TableSound := by
  unfold State.give
  split
  · exact h
  · exact (h.offerRecord false _).conclude

theorem State.TableSound.rise {s : State} (h : s.TableSound) (shifted : List Byte) (applying : Bool) :
    (s.rise shifted applying).TableSound := by
  have hs (o out) : (s.shiftOut o out).TableSound := h.setPort _
  unfold State.rise
  split
  · exact h
  · exact h.of_replica rfl
  split
  · exact hs _ _
  · split
    · exact hs _ _
    · exact (hs _ _).offerRecord applying _
  · unfold State.readRise
    dsimp only
    split
    · split
      · exact ((hs _ _).setPort _).takeAtRise applying
      · exact hs _ _
    · exact hs _ _

theorem State.TableSound.transfer {s : State} (h : s.TableSound) (span : Span) (shifted : List Byte) :
    (s.transfer span shifted).TableSound := by
  unfold State.transfer
  split
  · exact h
  · split
    · exact (h.setPort _).rise shifted false
    · exact h.setPort _
    · exact h.rise shifted _

theorem State.pinReset_replica (s : State) (edge : ResetEdge) (pins : StrapPins) :
    (s.pinReset edge pins).replica = none := by
  cases edge <;> rfl

theorem State.TableSound.applyRow {s : State} (h : s.TableSound) (kind : FrameKind) : (s.applyRow kind).TableSound := by
  have ha : (s.application kind).TableSound := by
    unfold State.application
    split
    · exact (h.applyKind kind).of_replica (by simp)
    · exact h.applyKind kind
  unfold State.applyRow
  split
  · exact (ha.setPort _).takeCommand.conclude
  · exact ha

/-! The step. -/

/-- R1, R3: every row keeps the table sound; only a reset, a transfer, a taken command, a frame and the sync timer can
write it. -/
theorem exec_table_sound {c : Instr} {s t : State} (h : s.TableSound) (he : exec c s = .next t) : t.TableSound := by
  have hnext {u : State} (hu : u.TableSound) (e : Host.Outcome.next u = (.next t : Host.Outcome State Fault Refusal)) :
      t.TableSound := by
    cases e
    exact hu
  have hkeep {u : State} (hu : u.replica = s.replica)
      (e : Host.Outcome.next u = (.next t : Host.Outcome State Fault Refusal)) : t.TableSound :=
    hnext (h.of_replica hu) e
  have hexpire {d : Option Nat} {act : State → State} (ha : ∀ u, (act u).replica = u.replica)
      (e : Host.Outcome.next (s.expire d act) = (.next t : Host.Outcome State Fault Refusal)) : t.TableSound :=
    hkeep (State.expire_replica ha s d) e
  cases c
  case pinReset edge straps => exact hnext (.of_none (s.pinReset_replica edge straps)) he
  case spiStatusTransfer | spiWriteTransfer | spiReadTransfer =>
    exact hnext (h.transfer _ _).conclude he
  case presenceFrame | syncRequestFrame | snapshotFrame | joinFrame | leaveFrame | claimFrame | releaseFrame |
      settledFrame | phaseFrame | budgetFrame | shedRequestFrame | liftFrame | shedFaultFrame | stuckClearFrame |
      absenceFrame | reclaimFrame =>
    exact hnext (h.applyRow _) he
  case startBit | lostContention | frameReceived | shedFallingEdge | shedRisingEdge | feedbackChange =>
    exact hkeep (by simp) he
  case readbackFailure =>
    unfold exec execReadbackFailure at he
    dsimp only at he
    split at he <;> exact hkeep (by simp) he
  case frameCompletedClean =>
    unfold exec execFrameCompletedClean at he
    dsimp only at he
    split at he <;> exact hkeep (by simp) he
  case syncTimeout =>
    refine hnext ?_ he
    unfold State.expire
    split
    · rename_i d _
      have ha : (s.advanceTo d).TableSound := h.of_replica (by simp)
      exact ha.syncExpires.conclude
    · exact h
  case gateTimeoutExpiry =>
    unfold exec execGateTimeoutExpiry at he
    dsimp only at he
    split at he
    · exact hexpire (fun _ => by simp) he
    · exact hkeep rfl he
  case probeDue => exact hexpire (act := State.probeFalls) (fun _ => rfl) he
  case stuckClearRetry => exact hexpire (fun _ => by simp [State.retryClear]) he
  case vsenseSample => exact hexpire (fun _ => by simp [State.sample]) he
  case heartbeatExpiry | isolationBySilence | silenceTimerExpiry | orphanHoldExpiry | crankSettleExpiry |
      lockoutExpiry | latchLimitExpiry | offDeadlineExpiry | settleTimerExpiry | holdLimit | watchPulseExpiry =>
    exact hexpire (fun _ => by simp) he
  all_goals exact hnext (h.give _) he

/-- Settles O10: the effects, the passes and the load keep a sound table, and nothing else writes one. -/
theorem stepKeepsTableSound : Obligations.StepKeepsTableSound := by
  intro s t h he
  unfold step at he
  split at he
  · cases he
    exact h.of_replica (by simp [State.tick])
  · exact exec_table_sound (h.setPending _) he

end Sys2Proof.Machine
end

section
/-! The own effects of CLAIM, RELEASE and SETTLED (R12, R13, R16, R17, R38), and what an ignored frame leaves. -/

namespace Sys2Proof.Machine

/-! Ignored frames. -/

/-- An own effect takes the frame, or ignores it whole. -/
def OwnEffect.Decides (r : Replica) (e : OwnEffect) : Prop := e.ignored = none ∨ ∃ cause, e = .ignore r cause

theorem OwnEffect.Decides.ignore (r : Replica) (cause : IgnoreCause) : (OwnEffect.ignore r cause).Decides r :=
  .inr ⟨cause, rfl⟩

/-- Each effect is, in every branch of its checks, an effect made or the frame ignored. -/
theorem tableEffect_decides {kind : FrameKind} {effect : Frame → Replica → OwnEffect}
    (he : tableEffect kind = some effect) (f : Frame) (r : Replica) : (effect f r).Decides r := by
  cases kind <;> cases he
  all_goals
    simp only [joinEffect, leaveEffect, claimEffect, releaseEffect, settledEffect, phaseEffect, budgetEffect,
      shedRequestEffect, liftEffect, shedFaultEffect, stuckClearEffect, absenceEffect, reclaimEffect]
    (repeat' split) <;> first | exact .ignore r _ | exact .inl rfl

theorem OwnEffect.Decides.eq_ignore {r : Replica} {e : OwnEffect} {cause : IgnoreCause} (h : e.Decides r)
    (hi : e.ignored = some cause) : e = .ignore r cause := by
  rcases h with hn | ⟨c, rfl⟩
  · rw [hn] at hi
    cases hi
  · cases hi
    rfl

/-- Settles O36. -/
theorem ignoredChangesNothing : Obligations.IgnoredChangesNothing := by
  intro f r effect cause he hi
  rw [(tableEffect_decides he f r).eq_ignore hi]
  exact ⟨rfl, rfl⟩

/-! CLAIM (R12, R13). -/

/-- R12: the checks of a CLAIM in their order. -/
def claimChecks (f : Frame) (r : Replica) (slot : SlotNo) (code : BitVec 3) (requested minimum : Byte) :
    List (Bool × IgnoreCause) :=
  [(r.isPresent f.sender, .absentSender),
    ((LoadClass.ofCode code.toNat).isSome && amountsOk requested minimum, .badField),
    (((r.entry f.sender).cap slot).used, .noCapability),
    (LoadClass.ofCode code.toNat == some ((r.entry f.sender).cap slot).cls, .classMismatch),
    (decide (requested.toNat ≤ ((r.entry f.sender).cap slot).maxAmps), .overCapability),
    ((r.find ⟨f.sender, slot⟩).isNone, .duplicateKey),
    (decide (r.arrival < Config.arrivalLimit), .arrivalsExhausted)]

section
variable {f : Frame} {r : Replica} {slot : SlotNo} {code : BitVec 3} {requested minimum : Byte}

theorem claimEffect_ignored {cause : IgnoreCause} (hb : f.body = .claim slot code requested minimum)
    (hc : firstFailure (claimChecks f r slot code requested minimum) = some cause) :
    claimEffect f r = .ignore r cause := by
  unfold claimChecks at hc
  simp only [claimEffect, hb, hc]

theorem claimEffect_made (hb : f.body = .claim slot code requested minimum)
    (hc : firstFailure (claimChecks f r slot code requested minimum) = none) :
    claimEffect f r = .made
      (r.enter (newClaim ⟨f.sender, slot⟩ ((r.entry f.sender).cap slot).cls requested minimum r.arrival))
      [created ⟨f.sender, slot⟩] := by
  unfold claimChecks at hc
  simp only [claimEffect, hb, hc]

end

/-- Settles O37: each check of `claimChecks` fails where those before it hold, and the record enters where none does. -/
theorem claimCreates : Obligations.ClaimCreates := by
  intro f r slot code requested minimum hb
  dsimp only
  have ignored {cause : IgnoreCause} (hc : firstFailure (claimChecks f r slot code requested minimum) = some cause) :
      (claimEffect f r).ignored = some cause := by
    rw [claimEffect_ignored hb hc]
    rfl
  refine ⟨fun hp => ignored (by simp [claimChecks, firstFailure, hp]), fun hp => ⟨fun hf => ignored ?_, ?_⟩⟩
  · have hf' : ((LoadClass.ofCode code.toNat).isSome && amountsOk requested minimum) = false := by
      simpa [amountsOk, and_assoc] using hf
    simp [claimChecks, firstFailure, hp, hf']
  rintro ⟨hcls, h1, h2, hmin⟩
  have hok : amountsOk requested minimum = true := decide_eq_true ⟨h1, h2, hmin⟩
  refine ⟨fun hu => ignored (by simp [claimChecks, firstFailure, hp, hcls, hok, hu]), fun hu => ?_⟩
  refine ⟨fun hm => ignored (by simp [claimChecks, firstFailure, hp, hcls, hok, hu, hm]), fun hm => ?_⟩
  refine ⟨fun ha => ignored (by simp [claimChecks, firstFailure, hp, hok, hu, hm, ha]), fun ha => ?_⟩
  refine ⟨fun hd => ignored (by simp [claimChecks, firstFailure, hp, hok, hu, hm, ha, Option.isSome_iff_ne_none.mp hd]),
    fun hd => ?_⟩
  refine ⟨fun hx => ignored ?_, fun hx => ?_⟩
  · simp [claimChecks, firstFailure, hp, hok, hu, hm, ha, hd, Config.arrivalLimit, not_lt.mpr hx]
  rw [claimEffect_made hb (by simp [claimChecks, firstFailure, hp, hok, hu, hm, ha, hd, Config.arrivalLimit, hx])]
  exact ⟨rfl, rfl, Replica.find_enter_same hd, fun j hj => Replica.find_enter_other r hj⟩

/-! RELEASE and SETTLED (R16, R17, R38). -/

theorem releaseEffect_of_record {f : Frame} {r : Replica} {b : Byte} {slot : SlotNo} {c : Claim}
    (hb : f.body = .release b) (hp : r.isPresent f.sender = true) (hs : slotOf b = some slot)
    (hf : r.find ⟨f.sender, slot⟩ = some c) :
    (c.state = .stuck → releaseEffect f r = .ignore r .stuckHeld) ∧
    (c.state = .orphaned → releaseEffect f r = .ignore r .notApplicable) ∧
    (c.state ≠ .stuck → c.state ≠ .orphaned →
      releaseEffect f r = .made (r.remove ⟨f.sender, slot⟩) [removed c]) := by
  simp only [releaseEffect, hb, hp, hs, hf, if_true]
  rw [key_eq_of_findClaim hf]
  cases c.state <;> simp

/-- R16, R37: a record removed opens the gate if it held it, and nothing else but the table changes. -/
theorem Replica.remove_gate (r : Replica) (k : Key) :
    (r.remove k).gate = (if r.gate = some k then none else r.gate) := by
  unfold Replica.remove Replica.release
  split <;> rfl

theorem Replica.remove_frame (r : Replica) (k : Key) :
    r.remove k = { r with claims := (r.remove k).claims, gate := (r.remove k).gate } := by
  unfold Replica.remove Replica.release
  split <;> rfl

theorem settledEffect_eq {f : Frame} {r : Replica} {k : Key} {byOwner : Bool} (hb : f.body = .settled k byOwner) :
    settledEffect f r =
      if r.isPresent f.sender = true then
        if byOwner = true ∧ k.station ≠ f.sender then .ignore r .badField
        else if r.gate = some k then .made { r with gate := none } [] else .ignore r .notHolder
      else .ignore r .absentSender := by
  simp only [settledEffect, hb, firstFailure]
  cases r.isPresent f.sender <;> cases byOwner <;> by_cases hk : k.station = f.sender <;>
    by_cases hg : r.gate = some k <;> simp [hk, hg]

/-- Settles O38. -/
theorem releaseAndSettledEffects : Obligations.ReleaseAndSettledEffects := by
  refine ⟨fun f r b hb => ?_, fun f r k byOwner hb => ?_⟩
  · refine ⟨fun hp => by simp [releaseEffect, hb, hp, OwnEffect.ignore],
      fun hp hs => by simp [releaseEffect, hb, hp, hs, OwnEffect.ignore],
      fun slot hp hs => ⟨fun hn => ?_, fun c hc => ?_⟩⟩
    · simp [releaseEffect, hb, hp, hs, hn, OwnEffect.ignore]
    obtain ⟨hstuck, _, hgoes⟩ := releaseEffect_of_record hb hp hs hc
    refine ⟨fun h => by rw [hstuck h]; rfl, fun h => ?_⟩
    rw [hgoes (by rintro e; simp [e] at h) (by rintro e; simp [e] at h)]
    exact ⟨rfl, by simp [OwnEffect.made, Replica.find_remove], Replica.remove_gate _ _, Replica.remove_frame _ _,
      fun j hj => by simp [OwnEffect.made, Replica.find_remove, hj]⟩
  · rw [settledEffect_eq hb]
    refine ⟨fun hp => by simp [hp, OwnEffect.ignore], fun hp ho hk => by simp [hp, ho, hk, OwnEffect.ignore],
      fun hp ho => ?_⟩
    rw [if_pos hp, if_neg fun h => h.2 (ho h.1)]
    refine ⟨fun hg => by simp [hg, OwnEffect.ignore], fun hg => ?_⟩
    rw [if_pos hg]
    exact ⟨rfl, rfl, rfl⟩

end Sys2Proof.Machine
end

section
/-! The answers of the commands that only read, and of ECHO (R20, R104, R150, R155, R163, R166). -/

namespace Sys2Proof.Machine

/-- R160: a command that leaves the state is answered, and changes nothing else. -/
theorem State.Open.exec_answer {s : State} (h : s.Open) (c : Command) (hc : c.sized) {code : ResponseCode}
    {body : List Byte} (hp : (s.holding c).perform c = ⟨s.holding c, ⟨code, body⟩⟩) :
    exec c.row s = .next (s.responds code body) := by
  rw [h.exec_eq c hc hp (h.settled.holding c), State.holding_responds]

/-! Lengths of the layouts of R173. -/

theorem padTo_length {n : Nat} {bs : List Byte} (h : bs.length ≤ n) : (padTo n bs).length = n := by
  simp only [padTo, List.length_append, List.length_replicate]
  omega

theorem padTo_extends (n : Nat) (bs : List Byte) : bs <+: padTo n bs := List.prefix_append _ _

@[simp] theorem halfBytes_length (h : Half) : (halfBytes h).length = 2 := rfl
@[simp] theorem natBytes_length (n : Nat) : (natBytes n).length = 2 := rfl
@[simp] theorem intBytes_length (n : Int) : (intBytes n).length = 2 := rfl
@[simp] theorem wordBytes_length (n : Nat) : (wordBytes n).length = 4 := rfl
@[simp] theorem epochBytes_length (e : Option Half) : (epochBytes e).length = 2 := rfl
@[simp] theorem GeneralPart.bytes_length (g : GeneralPart) : g.bytes.length = 6 := rfl
@[simp] theorem SlotPart.bytes_length (p : SlotPart) : p.bytes.length = 6 := rfl
@[simp] theorem Claim.bytes_length (c : Claim) : c.bytes.length = 10 := rfl
@[simp] theorem CapabilityField.bytes_length (c : CapabilityField) : c.bytes.length = 3 := rfl
@[simp] theorem WatchUnit.page_length (u : WatchUnit) : u.page.length = 12 := rfl
@[simp] theorem State.pageCrank_length (s : State) : s.pageCrank.length = 8 := rfl

@[simp] theorem amountBytes_length (o : Option Nat) : (amountBytes o).length = 3 := by cases o <;> rfl

@[simp] theorem claimValueBytes_length (o : Option ClaimValues) : (claimValueBytes o).length = 3 := by cases o <;> rfl

@[simp] theorem EvalValue.bytes_length (v : EvalValue) : v.bytes.length = 2 := by cases v <;> rfl

@[simp] theorem State.remaining_length (s : State) (d : Option Nat) : (s.remaining d).length = 3 := by cases d <;> rfl

@[simp] theorem State.epochAndDigest_length (s : State) : s.epochAndDigest.length = 5 := by
  unfold State.epochAndDigest
  split <;> rfl

@[simp] theorem State.replicaPage_length (s : State) : s.replicaPage.length = 21 := by simp [State.replicaPage]

@[simp] theorem State.pageState_length (s : State) : s.pageState.length = 32 := by simp [State.pageState]

@[simp] theorem State.pageLink_length (s : State) : s.pageLink.length = 12 := by simp [State.pageLink]

@[simp] theorem State.pageSlot_length (s : State) (i : SlotNo) : (s.pageSlot i).length = 15 := by simp [State.pageSlot]

/-- R163: every page fits the 32 bytes of its answer. -/
theorem State.page_length {s : State} {n : Nat} {bytes : List Byte} (h : s.page n = some bytes) :
    bytes.length ≤ 32 := by
  unfold State.page at h
  split at h <;> cases h <;> simp

@[simp] theorem RosterEntry.bytes_length (e : RosterEntry) : e.bytes.length = 13 := by
  simp [RosterEntry.bytes, List.length_flatMap]

@[simp] theorem State.peerBytes_length (s : State) (n : Station) : (s.peerBytes n).length = 7 := by
  have hp (p : Option (StationState × Byte)) : (match p with
      | some (st, v) => [byteOf st.code, v]
      | none => [(0xFF : Byte), 0xFF]).length = 2 := by cases p <;> rfl
  simp only [State.peerBytes, List.length_append, amountBytes_length, List.length_cons, List.length_nil]
  exact congrArg (3 + 2 + ·) (hp _)

@[simp] theorem State.rosterBytes_length (s : State) (n : Station) : (s.rosterBytes n).length = 13 := by
  unfold State.rosterBytes
  split <;> simp

theorem claimAnswer_length (r : Replica) (k : Key) : (claimAnswer r k).length ≤ 14 := by
  unfold claimAnswer
  split <;> simp

@[simp] theorem FaultUnit.recordBytes_length (f : FaultUnit) : f.recordBytes.length = 8 := by
  unfold FaultUnit.recordBytes
  dsimp only
  split <;> rfl

@[simp] theorem HistEvent.bytes_length (e : HistEvent) : e.bytes.2.length = 5 := by
  cases e
  case fault subject kind frame => cases frame <;> rfl
  all_goals simp [HistEvent.bytes]

@[simp] theorem HistEntry.bytes_length (e : HistEntry) : e.bytes.length = 11 := by simp [HistEntry.bytes]

theorem historyAnswer_length (h : History) (i : Nat) : (historyAnswer h i).length = 13 := by
  unfold historyAnswer
  split <;> simp

/-! The commands. -/

theorem State.readHistory_frozen {s : State} {index : Byte} (hm : s.mode ≠ .unconfigured) (hi : index.toNat ≤ 31)
    (hf : s.history.frozen = true) : s.readHistory index = s.answer (historyAnswer s.history index.toNat) := by
  simp [State.readHistory, State.checked, hm, hi, hf]

theorem State.readClaim_present {s : State} {key : Byte} {r : Replica} {k : Key} (hu : s.mode ≠ .unconfigured)
    (hj : s.mode ≠ .joining) (hr : s.replica = some r) (hk : Key.ofCode key.toNat = some k) :
    s.readClaim key = s.answer (padTo 14 (claimAnswer r k)) := by
  simp [State.readClaim, hu, hj, hr, hk]

/-- Settles O21: each read answers with its layout, filled to the length of R173, and leaves the state. -/
theorem readsAnswer : Obligations.ReadsAnswer := by
  intro s h
  refine ⟨?config, ?status, ?claim, ?peer, ?fault, ?history, ?echo⟩
  case config =>
    refine ⟨_, h.exec_answer .readConfig (by simp [Command.sized, Command.bytes]) rfl, padTo_length ?_,
      padTo_extends _ _⟩
    simp [List.length_flatMap]
  case status =>
    intro page bytes hp
    refine ⟨padTo 32 bytes, h.exec_answer (.readStatus page) (by simp [Command.sized, Command.bytes]) ?_,
      padTo_length (State.page_length hp), padTo_extends _ _⟩
    simp [State.perform, State.readStatus, hp, State.answer]
  case claim =>
    intro key r k hu hj hr hk
    refine ⟨padTo 14 (claimAnswer r k), h.exec_answer (.readClaim key) (by simp [Command.sized, Command.bytes]) ?_,
      padTo_length (claimAnswer_length r k), padTo_extends _ _⟩
    exact State.readClaim_present hu hj hr hk
  case peer =>
    intro b n hn
    refine ⟨padTo 20 (s.peerBytes n ++ s.rosterBytes n),
      h.exec_answer (.readPeer b) (by simp [Command.sized, Command.bytes]) ?_, padTo_length (by simp),
      padTo_extends _ _⟩
    simp [State.perform, State.readPeer, hn, State.answer]
  case fault =>
    exact ⟨_, h.exec_answer .readFault (by simp [Command.sized, Command.bytes]) rfl, by simp, rfl⟩
  case history =>
    intro index hm hi hf
    exact ⟨historyAnswer s.history index.toNat,
      h.exec_answer (.readHistory index) (by simp [Command.sized, Command.bytes]) (State.readHistory_frozen hm hi hf),
      historyAnswer_length _ _, rfl⟩
  case echo =>
    intro bytes hb
    refine h.exec_answer (.echo bytes) ?_ rfl
    simp only [Command.sized, Command.bytes, List.length_cons]
    omega

end Sys2Proof.Machine
end

section
/-! RELEASE (R161, R18, R122): a slot that becomes RELEASING, and a CLAIM withdrawn. -/

namespace Sys2Proof.Machine

theorem State.slot_congr {s t : State} (h : t.slotUnit = s.slotUnit) (i : SlotNo) : t.slot i = s.slot i := by
  simp only [State.slot, h]

@[simp] theorem State.postCause_slot (s : State) (j : SlotNo) (c : SlotCause) (i : SlotNo) :
    (s.postCause j c).slot i = s.slot i :=
  State.slot_congr (by simp) i

/-! The end of an event that has changed one slot. -/

/-- R131: a settled slot's flag marks the episode it stands in. -/
theorem State.Settled.unclaimed {s : State} (hs : s.Settled) (hl : s.mode.live = true) (i : SlotNo) :
    (s.slot i).unclaimed = s.unclaimedDraw i := by
  have h := hs.1 i
  rw [State.refreshed_live s i _ hl] at h
  exact (congrArg SlotRecord.unclaimed h).symm

/-- R131: no episode begins where one slot of a settled state has changed without beginning to draw unclaimed. -/
theorem State.Settled.episodes_of_slot {s u : State} (hs : s.Settled) (hin : SameSlotInputs s u) (i : SlotNo)
    (hj : ∀ j, j ≠ i → u.slot j = s.slot j)
    (hi : u.mode.live = true → u.unclaimedDraw i = true → (u.slot i).unclaimed = true) :
    u.episodes = [] := by
  simp only [State.episodes, List.filter_eq_nil_iff, Bool.and_eq_true, Bool.not_eq_true']
  rintro j - ⟨⟨hl, hd⟩, hn⟩
  by_cases hji : j = i
  · subst hji
    rw [hi hl hd] at hn
    cases hn
  · have hls : s.mode.live = true := by rwa [State.mode, ← hin.mode]
    rw [hj j hji, hs.unclaimed hls, ← hin.unclaimedDraw j (by rw [hj j hji]), hd] at hn
    cases hn

theorem State.conclude_of_no_episodes {u : State} (h : u.episodes = []) :
    u.conclude = (u.setSlots (mapSlots u.refreshed u.slotUnit.slots)).setHistory u.history.trim := by
  simp only [State.conclude, State.refreshSlots, h, List.foldl_nil, State.setSlots_frame]

/-- A slot that an event has not touched stays as it was, where nothing it follows has changed. -/
theorem State.Settled.conclude_slot {s u : State} (hs : s.Settled) (hin : SameSlotInputs s u) {j : SlotNo}
    (hj : u.slot j = s.slot j) : u.conclude.slot j = s.slot j := by
  rw [State.conclude_slot, hj]
  exact hin.refreshed_self j (s.slot j) (by rw [hj]) (by rw [hj]) (by rw [hj]) (hs.1 j)

theorem StationState.live_of_reporting {m : StationState} (h : m.reporting = true) : m.live = true := by
  cases m <;> simp_all [StationState.reporting, StationState.live]

/-- R123: a slot that is neither CARRIED nor HELD or TRIMMED is off. -/
theorem State.enableRule_off {s : State} {i : SlotNo} (h : (s.slot i).state = .free ∨ (s.slot i).state = .releasing) :
    s.enableRule i = false := by
  rcases h with h | h <;> simp [State.enableRule, h]

theorem State.conclude_enable_off {u : State} {i : SlotNo}
    (h : (u.slot i).state = .free ∨ (u.slot i).state = .releasing) : (u.conclude.slot i).enable = false := by
  rw [State.conclude_slot]
  unfold State.refreshed
  split
  · exact State.enableRule_off h
  · rfl

/-! The two answers. -/

/-- R161, R122: the RELEASE of a slot whose CLAIM is not in the lane unsent. -/
theorem State.releaseCommand_begins {s : State} {slot : Byte} {i : SlotNo} (hm : s.mode.reporting = true)
    (hi : slotOf slot = some i) (hr : (s.slot i).state.releasable = true) (hu : s.claimUnsent i = false)
    (hl : s.slotUnit.leavePending = false) (hg : s.link.general.length < 6) :
    s.releaseCommand slot = (s.beginRelease i).accept := by
  simp [State.releaseCommand, hm, hi, hr, hu, State.checked, State.mayQueue, hl, State.generalRoom,
    Config.generalCapacity, hg]

/-- R18: the slot of an unsent CLAIM is SENDING. -/
theorem State.sending_of_claimUnsent {s : State} {i : SlotNo} (h : s.claimUnsent i = true) :
    (s.slot i).state = .sending := by
  simp only [State.claimUnsent, Bool.and_eq_true, beq_iff_eq] at h
  exact h.1

/-- R18: the RELEASE that withdraws a CLAIM. -/
theorem State.releaseCommand_withdraws {s : State} {slot : Byte} {i : SlotNo} (hm : s.mode.reporting = true)
    (hi : slotOf slot = some i) (hu : s.claimUnsent i = true) :
    s.releaseCommand slot = (s.withdrawClaim i).answer [] := by
  simp [State.releaseCommand, hm, hi, hu, State.sending_of_claimUnsent hu, LocalState.releasable]

theorem Command.release_sized (slot : Byte) : (Command.release slot).sized := by simp [Command.sized, Command.bytes]

theorem releaseAnswered_queues (s : State) (i : SlotNo) (slot : Byte) (h : s.Open) (hm : s.mode.reporting = true)
    (hi : slotOf slot = some i) (hr : (s.slot i).state.releasable = true) (hu : s.claimUnsent i = false)
    (hl : s.slotUnit.leavePending = false) (hg : s.link.general.length < 6) :
    ∃ t, exec (.release slot) s = .next t ∧
      t = ((s.setLink { s.link with general := s.link.general ++ [.fixed (.release (byteOf i.val))] }).setSlots
        t.slotUnit.slots).responds .accepted [] ∧
      (t.slot i).state = .releasing ∧ (t.slot i).enable = false ∧ (t.slot i).values = (s.slot i).values ∧
      ∀ j, j ≠ i → t.slot j = s.slot j := by
  have hperf : (s.holding (.release slot)).perform (.release slot) =
      ⟨(s.holding (.release slot)).beginRelease i, ⟨.accepted, []⟩⟩ :=
    State.releaseCommand_begins (s := s.holding _) hm hi hr hu hl hg
  refine ⟨_, h.exec_concludes (.release slot) (Command.release_sized slot) hperf, ?_⟩
  generalize hw : ((s.holding (.release slot)).beginRelease i).responds .accepted [] = u
  have hin : SameSlotInputs s u := by subst hw; exact ⟨rfl, rfl, rfl, rfl, rfl, rfl, rfl, rfl, rfl⟩
  have hslot (j : SlotNo) : u.slot j = if j = i then { s.slot i with state := .releasing } else s.slot j := by
    subst hw
    exact State.putSlot_slot _ i j _
  have hst : (u.slot i).state = .releasing := by rw [hslot, if_pos rfl]
  have hj (j : SlotNo) (hne : j ≠ i) : u.slot j = s.slot j := by rw [hslot, if_neg hne]
  have hep : u.episodes = [] := h.settled.episodes_of_slot hin i hj fun _ hd => by simp [State.unclaimedDraw, hst] at hd
  have hcon := State.conclude_of_no_episodes hep
  rw [History.trim_of_le (by subst hw; exact h.settled.2)] at hcon
  refine ⟨?_, ?_, State.conclude_enable_off (.inr hst), ?_, fun j hne => h.settled.conclude_slot hin (hj j hne)⟩
  · rw [hcon]
    subst hw
    rfl
  · rw [State.conclude_slot, State.refreshed_state, hst]
  · rw [State.conclude_slot, State.refreshed_values, hslot, if_pos rfl]

/-- R164: a notice joins a queue that has room. -/
theorem State.post_notices {s : State} (h : s.port.notices.length < 16) (c : NoticeContent) :
    (s.post c).port.notices = s.port.notices ++ [{ stamp := s.stamp, epoch := s.epoch, content := c }] := by
  simp [State.post, Config.noticeCapacity, h]

theorem releaseAnswered_withdraws (s : State) (i : SlotNo) (slot : Byte) (h : s.Open) (hm : s.mode.reporting = true)
    (hi : slotOf slot = some i) (hu : s.claimUnsent i = true) :
    ∃ t, exec (.release slot) s = .next t ∧
      t.link = { s.link with
        general := withdrawFrom (s.link.sending .general) (Queued.isClaim i) s.link.general } ∧
      (t.slot i).state = .free ∧ (t.slot i).values = none ∧ (t.slot i).enable = false ∧
      (∀ j, j ≠ i → t.slot j = s.slot j) ∧ t.port.response = some [byteOf ResponseCode.ok.code] ∧
      (s.port.notices.length < 16 → t.port.notices = s.port.notices ++
        [{ stamp := s.stamp, epoch := s.epoch, content := .slot i none none .withdrawn }]) ∧
      t.replica = s.replica ∧ t.station = s.station ∧ t.crank = s.crank ∧ t.members = s.members ∧
      t.config = s.config := by
  have hperf : (s.holding (.release slot)).perform (.release slot) =
      ⟨(s.holding (.release slot)).withdrawClaim i, ⟨.ok, []⟩⟩ :=
    State.releaseCommand_withdraws (s := s.holding _) hm hi hu
  refine ⟨_, h.exec_concludes (.release slot) (Command.release_sized slot) hperf, ?_⟩
  generalize hw : ((s.holding (.release slot)).withdrawClaim i).responds .ok [] = u
  have hin : SameSlotInputs s u := by
    subst hw
    constructor <;> simp [State.withdrawClaim, State.shedHigh, State.ownDrive]
  have hslot (j : SlotNo) : u.slot j = if j = i then (s.slot i).freed else s.slot j := by
    subst hw
    simp only [State.responds_slot, State.withdrawClaim, State.postCause_slot]
    exact State.putSlot_slot _ i j _
  have hst : u.slot i = (s.slot i).freed := by rw [hslot, if_pos rfl]
  have hj (j : SlotNo) (hne : j ≠ i) : u.slot j = s.slot j := by rw [hslot, if_neg hne]
  have hlive := StationState.live_of_reporting hm
  have hep : u.episodes = [] := h.settled.episodes_of_slot hin i hj fun _ hd => by
    have hflag : (u.slot i).unclaimed = s.unclaimedDraw i := by rw [hst]; exact h.settled.unclaimed hlive i
    rw [hflag]
    simp only [State.unclaimedDraw, hin.reading, Bool.and_eq_true, State.sending_of_claimUnsent hu] at hd ⊢
    exact ⟨hd.1, trivial⟩
  refine ⟨?_, ?_, ?_, State.conclude_enable_off (.inl (by rw [hst]; rfl)),
    fun j hne => h.settled.conclude_slot hin (hj j hne), ?_, ?_, ?_⟩
  · subst hw
    simp [State.withdrawClaim, State.withdrawGeneral]
  · rw [State.conclude_slot, State.refreshed_state, hst]
    rfl
  · rw [State.conclude_slot, State.refreshed_values, hst]
    rfl
  · subst hw
    simp [State.responds]
  · intro hn
    rw [State.conclude_of_no_episodes hep]
    subst hw
    simp [State.responds, State.withdrawClaim, State.postCause, State.post_notices, hn, State.stamp, State.epoch]
  · subst hw
    simp [State.withdrawClaim]

/-- Settles O13: a RELEASE queues its frame, or withdraws an unsent CLAIM. -/
theorem releaseAnswered : Obligations.ReleaseAnswered := ⟨releaseAnswered_queues, releaseAnswered_withdraws⟩

end Sys2Proof.Machine
end

section
/-! The conditions of the 27 commands (R160): the first that fails gives the answer, and a refused command has no
effect. -/

namespace Sys2Proof.Machine

/-- R160: under these conditions, in this order, a command comes to t: the refusal of the first that fails, or OK or
ACCEPTED where none does. -/
def State.Answers (s : State) (conditions : List (Prop × ResponseCode)) (t : Taken) : Prop :=
  (∀ code, FirstFails conditions code → t = s.refuse code) ∧
    ((∀ p ∈ conditions, p.1) → t.reply.code = .ok ∨ t.reply.code = .accepted)

section
variable {s : State} {P : Prop} {code : ResponseCode} {rest : List (Prop × ResponseCode)} {t : Taken}

theorem State.Answers.ok (s : State) (h : t.reply.code = .ok) : s.Answers [] t := ⟨fun _ => False.elim, fun _ => .inl h⟩

theorem State.Answers.accepted (s : State) (h : t.reply.code = .accepted) : s.Answers [] t :=
  ⟨fun _ => False.elim, fun _ => .inr h⟩

/-- One more condition in front of the others. -/
theorem State.Answers.guard (hf : ¬ P → t = s.refuse code) (ht : P → s.Answers rest t) :
    s.Answers ((P, code) :: rest) t := by
  by_cases hp : P
  · obtain ⟨hr, ha⟩ := ht hp
    refine ⟨fun c hc => ?_, fun h => ha fun p hm => h p (List.mem_cons_of_mem _ hm)⟩
    rcases hc with ⟨hn, _⟩ | ⟨_, hc⟩
    · exact absurd hp hn
    · exact hr c hc
  · refine ⟨fun c hc => ?_, fun h => absurd (h _ (List.mem_cons_self ..)) hp⟩
    rcases hc with ⟨_, rfl⟩ | ⟨hq, _⟩
    · exact hf hp
    · exact absurd hq hp

/-- A check of the model in front of its other checks, for the condition it decides. -/
theorem State.Answers.check {b : Bool} {checks : List (Bool × ResponseCode)} (hb : b = true ↔ P)
    (ht : P → s.Answers rest (s.checked checks t)) :
    s.Answers ((P, code) :: rest) (s.checked ((b, code) :: checks) t) := by
  by_cases hp : P
  · rw [State.checked, if_pos (hb.mpr hp)]
    exact .guard (fun hn => absurd hp hn) ht
  · rw [State.checked, if_neg (hp ∘ hb.mp)]
    exact .guard (fun _ => rfl) fun h => absurd h hp

theorem State.Answers.done_accepted (s : State) (h : t.reply.code = .accepted) : s.Answers [] (s.checked [] t) :=
  .accepted s h

theorem State.Answers.done_ok (s : State) (h : t.reply.code = .ok) : s.Answers [] (s.checked [] t) := .ok s h

end

/-- Either some condition is the first to fail, or all hold. -/
theorem firstFails_or_all (conditions : List (Prop × ResponseCode)) :
    (∃ code, FirstFails conditions code) ∨ ∀ p ∈ conditions, p.1 := by
  induction conditions with
  | nil => exact .inr (by simp)
  | cons p conditions ih =>
    by_cases hp : p.1
    · rcases ih with ⟨code, hc⟩ | ha
      · exact .inl ⟨code, .inr ⟨hp, hc⟩⟩
      · exact .inr (by simpa [hp] using ha)
    · exact .inl ⟨p.2, .inl ⟨hp, rfl⟩⟩

/-! The bytes that name a slot, a station or a unit. -/

theorem slotOf_eq_none_iff (b : Byte) : slotOf b = none ↔ ¬ b.toNat ≤ 3 := by
  unfold slotOf
  split <;> simp <;> omega

theorem onSlot_of_some {b : Byte} {i : SlotNo} (h : slotOf b = some i) (holds : SlotNo → Prop) :
    onSlot b holds ↔ holds i := by
  simp [onSlot, h]

theorem le_of_slotOf {b : Byte} {i : SlotNo} (h : slotOf b = some i) : b.toNat ≤ 3 := by
  by_contra hn
  rw [(slotOf_eq_none_iff b).mpr hn] at h
  cases h

theorem byte_eq_zero_iff (b : Byte) : b = 0 ↔ b.toNat = 0 := by simp [← BitVec.toNat_inj]

theorem unitOf_eq_none_iff (b : Byte) : unitOf b = none ↔ ¬ b.toNat ≤ 1 := by
  have h0 : b = 0 ↔ b.toNat = 0 := byte_eq_zero_iff b
  have h1 : b = 1 ↔ b.toNat = 1 := by simp [← BitVec.toNat_inj]
  simp only [unitOf, h0, h1]
  split
  · simp only [reduceCtorEq, false_iff]
    omega
  · split <;> simp only [reduceCtorEq, false_iff, true_iff] <;> omega

theorem eq_of_unitOf {b : Byte} {second : Bool} (h : unitOf b = some second) : second = decide (b.toNat = 1) := by
  unfold unitOf at h
  split at h
  · cases h
    simp_all
  · split at h <;> cases h
    simp_all

/-! The ranges of CONFIGURE and SET_WATCH. -/

theorem halfOf_eq_zero_iff (a b : Byte) : halfOf a b = 0 ↔ (halfOf a b).toNat = 0 := by simp [← BitVec.toNat_inj]

theorem GeneralPart.ofBytes_isSome_iff (a0 a1 a2 a3 a4 a5 : Byte) :
    (GeneralPart.ofBytes a0 a1 a2 a3 a4 a5).isSome = true ↔ GeneralInRange a1 a2 a3 a4 a5 := by
  simp only [GeneralPart.ofBytes, GeneralInRange, halfOf_eq_zero_iff, byte_eq_zero_iff, orDefault]
  generalize (halfOf a2 a3).toNat = latch
  split <;> simp <;> (repeat' split at *) <;> omega

theorem SlotPart.ofBytes_isSome_iff (a0 a1 a2 a3 a4 a5 : Byte) :
    (SlotPart.ofBytes a0 a1 a2 a3 a4 a5).isSome = true ↔
      (a0.getLsbD 7 = true → SlotInRange a0 a1 a2 a3 a4 a5) := by
  unfold SlotPart.ofBytes SlotInRange
  split
  · rename_i hu
    simp only [hu, true_imp_iff, halfOf_eq_zero_iff, byte_eq_zero_iff a3, orDefault]
    generalize (halfOf a4 a5).toNat = hold
    split
    · rename_i cls hc
      simp only [hc, Option.some.injEq, exists_eq_left']
      by_cases hd : cls = .deferrable <;> by_cases h3 : a3.toNat = 0 <;> simp [hd, h3] <;> omega
    · rename_i hc
      simp only [hc]
      simp
  · rename_i hu
    simp only [hu]
    simp

/-! Each command. -/

theorem State.mayAsk_iff (s : State) : (s.mode == .member && s.mayQueue) = true ↔ s.mayAsk := by
  simp [State.mayAsk, State.mayQueue]

theorem State.generalRoom_iff (s : State) : s.generalRoom = true ↔ s.link.general.length < 6 :=
  decide_eq_true_iff

theorem State.urgentRoom_iff (s : State) : s.urgentRoom = true ↔ s.link.urgent.length < 3 :=
  decide_eq_true_iff

/-- R59: the checks of every report, in front of its own. -/
theorem State.Answers.report {s : State} {rest : List (Prop × ResponseCode)} {checks : List (Bool × ResponseCode)}
    {t : Taken} (h : s.Answers rest (s.checked checks t)) :
    s.Answers (s.reporter ++ rest) (s.checked (s.reportChecks ++ checks) t) :=
  .check (by simp [State.mayQueue]) fun _ => .check Iff.rfl fun _ => h

theorem State.configure_answers (s : State) (part a0 a1 a2 a3 a4 a5 : Byte) :
    s.Answers (s.conditions (.configure part a0 a1 a2 a3 a4 a5)) (s.configure part a0 a1 a2 a3 a4 a5) := by
  unfold State.configure
  refine .guard (fun hn => by rw [if_neg hn]) fun hm => ?_
  rw [if_pos hm]
  by_cases hp : part = 0
  · subst hp
    refine .guard (fun hn => absurd (by decide) hn) fun _ => .guard (fun hn => ?_) fun hr => ?_
    · have hnone : GeneralPart.ofBytes a0 a1 a2 a3 a4 a5 = none := by
        rw [← Option.not_isSome_iff_eq_none, GeneralPart.ofBytes_isSome_iff]
        simpa using hn
      simp [hnone]
    · obtain ⟨g, hg⟩ := Option.isSome_iff_exists.mp ((GeneralPart.ofBytes_isSome_iff a0 a1 a2 a3 a4 a5).mpr (hr.1 rfl))
      exact .ok s (by simp [hg, State.answer])
  · have hle : (part - 1).toNat ≤ 3 ↔ part.toNat ≤ 4 := by
      have : part.toNat ≠ 0 := fun h => hp ((byte_eq_zero_iff part).mpr h)
      have hone : (1 : Byte).toNat = 1 := rfl
      rw [BitVec.toNat_sub, hone]
      omega
    rw [if_neg hp]
    refine .guard (fun hn => ?_) fun hs => .guard (fun hn => ?_) fun hr => ?_
    · rw [(slotOf_eq_none_iff (part - 1)).mpr fun h => hn (hle.mp h)]
    all_goals
      obtain ⟨i, hi⟩ := Option.ne_none_iff_exists'.mp fun h => (slotOf_eq_none_iff (part - 1)).mp h (hle.mpr hs)
      rw [hi]
    · have hnone : SlotPart.ofBytes a0 a1 a2 a3 a4 a5 = none := by
        rw [← Option.not_isSome_iff_eq_none, SlotPart.ofBytes_isSome_iff]
        exact fun h => hn ⟨fun h0 => absurd h0 hp, fun _ => h⟩
      simp [hnone]
    · obtain ⟨p, hp⟩ := Option.isSome_iff_exists.mp ((SlotPart.ofBytes_isSome_iff a0 a1 a2 a3 a4 a5).mpr (hr.2 hp))
      exact .ok s (by simp [hp, State.answer])

theorem State.joinCommand_answers (s : State) : s.Answers (s.conditions .join) s.joinCommand := by
  unfold State.joinCommand
  refine .guard (fun hn => ?_) fun hy => .accepted s ?_
  · split <;> simp_all
  · split <;> simp_all [State.accept]

theorem State.restartCommand_answers (s : State) : s.Answers (s.conditions .restart) s.restartCommand := by
  unfold State.restartCommand
  refine .guard (fun hn => ?_) fun hy => .ok s ?_
  · rw [if_pos (by tauto)]
  · rw [if_neg (by tauto)]
    rfl

theorem State.claimCommand_answers (s : State) (slot requested minimum : Byte) :
    s.Answers (s.conditions (.claim slot requested minimum)) (s.claimCommand slot requested minimum) := by
  unfold State.claimCommand
  have hask : s.mode = .member ∧ s.mayQueue = true ↔ s.mayAsk := by simp [State.mayAsk, State.mayQueue]
  refine .guard (fun hn => by rw [if_neg (mt hask.mp hn)]) fun hm => ?_
  rw [if_pos (hask.mpr hm)]
  cases hi : slotOf slot with
  | none => exact .guard (fun _ => rfl) fun hs => absurd hs.1 ((slotOf_eq_none_iff slot).mp hi)
  | some i =>
    simp only [onSlot_of_some hi, le_of_slotOf hi, true_and]
    exact .check Iff.rfl fun _ => .check (by simp) fun _ => .check (by simp) fun _ =>
      .check (by simp [minimumOk]) fun _ => .check s.generalRoom_iff fun _ => .done_accepted s rfl

theorem State.releaseCommand_answers (s : State) (slot : Byte) :
    s.Answers (s.conditions (.release slot)) (s.releaseCommand slot) := by
  have hmode : s.mode.reporting = true ↔ s.mode = .member ∨ s.mode = .tainted ∨ s.mode = .isolated := by
    cases s.mode <;> simp [StationState.reporting]
  unfold State.releaseCommand
  refine .guard (fun hn => by rw [if_neg (mt hmode.mp hn)]) fun hm => ?_
  rw [if_pos (hmode.mpr hm)]
  cases hi : slotOf slot with
  | none => exact .guard (fun _ => rfl) fun hs => absurd hs ((slotOf_eq_none_iff slot).mp hi)
  | some i =>
    have hstate : (s.slot i).state.releasable = true ↔
        (s.slot i).state ≠ .free ∧ (s.slot i).state ≠ .releasing ∧ (s.slot i).state ≠ .carried := by
      cases (s.slot i).state <;> simp [LocalState.releasable]
    simp only [onSlot_of_some hi]
    refine .guard (fun hn => absurd (le_of_slotOf hi) hn) fun _ =>
      .guard (fun hn => by rw [if_neg (mt hstate.mp hn)]) fun hs => ?_
    rw [if_pos (hstate.mpr hs)]
    by_cases hu : s.claimUnsent i = true
    · simp only [hu, true_or, if_true]
      exact .guard (fun h => absurd trivial h) fun _ => .guard (fun h => absurd trivial h) fun _ => .ok s rfl
    · simp only [hu, false_or, if_false, Bool.false_eq_true]
      exact .check (by simp [State.mayQueue]) fun _ => .check s.generalRoom_iff fun _ => .done_accepted s rfl

theorem State.cancelCrank_answers (s : State) : s.Answers (s.conditions .cancelCrank) s.cancelCrank := by
  have hroom : (s.withdrawUrgent Queued.isCrankFrame).urgentRoom = true ↔
      (withdrawFrom (s.link.sending .urgent) Queued.isCrankFrame s.link.urgent).length < 3 := State.urgentRoom_iff _
  have hway : s.crank.state.underWay = true ↔ s.crank.state = .settling ∨ s.crank.state = .cranking := by
    cases s.crank.state <;> simp [CrankState.underWay]
  refine .report (.check hway fun _ => ?_)
  rw [State.checked]
  by_cases hu : s.phaseUnsent .crankPending = true
  · rw [if_pos hu]
    exact .guard (fun hn => absurd (.inl hu) hn) fun _ => .ok s rfl
  · rw [if_neg hu]
    exact .check (by rw [hroom]; simp [hu]) fun _ => .done_accepted s rfl

theorem State.setWatch_answers (s : State) (unit control selector : Byte) (compare mask : Half) (reload : Byte) :
    s.Answers (s.conditions (.setWatch unit control selector compare mask reload))
      (s.setWatch unit control selector compare mask reload) := by
  unfold State.setWatch
  refine .guard (fun hn => by rw [if_neg hn]) fun hm => ?_
  rw [if_pos hm]
  unfold WatchInRange
  split
  · rename_i second source relation hu hs hr
    have hle : unit.toNat ≤ 1 := by
      by_contra hn
      rw [(unitOf_eq_none_iff unit).mpr hn] at hu
      cases hu
    obtain rfl := eq_of_unitOf hu
    dsimp only
    have hc : ((decide (unit.toNat = 1) || !control.getLsbD 6) && source.allows relation compare.toInt &&
          (source != .frame || mask != 0)) = true ↔
        WatchInRange unit control selector compare mask := by
      simp only [WatchInRange, hle, true_and, hs, hr, Option.some.injEq, exists_and_left, exists_eq_left']
      cases control.getLsbD 6 <;> by_cases hf : source = .frame <;> simp [hf, and_assoc]
    refine .guard (fun hn => by rw [if_neg (mt hc.mp hn)]) fun hy => ?_
    rw [if_pos (hc.mpr hy)]
    exact .ok s rfl
  · rename_i hnone
    refine .guard (fun _ => rfl) fun hy => ?_
    obtain ⟨hle, _, source, relation, hs, hr, _⟩ := hy
    obtain ⟨second, hu⟩ := Option.ne_none_iff_exists'.mp fun h => (unitOf_eq_none_iff unit).mp h hle
    exact absurd hr (hnone second source relation hu hs)

theorem State.armWatch_answers (s : State) (unit : Byte) :
    s.Answers (s.conditions (.armWatch unit)) (s.armWatch unit) := by
  unfold State.armWatch
  refine .guard (fun hn => by rw [if_neg hn]) fun hm => ?_
  rw [if_pos hm]
  cases hu : unitOf unit with
  | none => exact .guard (fun _ => rfl) fun hs => absurd hs ((unitOf_eq_none_iff unit).mp hu)
  | some second =>
    obtain rfl := eq_of_unitOf hu
    dsimp only
    refine .guard (fun hn => ?_) fun _ => .guard (fun hn => by rw [if_pos (not_not.mp hn)]) fun ha => ?_
    · rw [(unitOf_eq_none_iff unit).mpr hn] at hu
      cases hu
    · rw [if_neg ha]
      exact .ok s rfl

theorem State.readStatus_answers (s : State) (page : Byte) :
    s.Answers (s.conditions (.readStatus page)) (s.readStatus page) := by
  have hp : s.page page.toNat = none ↔ ¬ page.toNat ≤ 8 := by
    unfold State.page
    split <;> simp_all
    omega
  unfold State.readStatus
  refine .guard (fun hn => by rw [hp.mpr hn]) fun hy => ?_
  obtain ⟨bytes, hb⟩ := Option.ne_none_iff_exists'.mp fun h => hp.mp h hy
  rw [hb]
  exact .ok s rfl

theorem State.readClaim_answers (s : State) (key : Byte) :
    s.Answers (s.conditions (.readClaim key)) (s.readClaim key) := by
  unfold State.readClaim
  refine .guard (fun hn => by rw [if_pos (by tauto)]) fun hm => ?_
  rw [if_neg (by tauto)]
  unfold Key.ofCode
  split
  · rename_i k hk
    exact .guard (fun hn => by split at hk <;> first | omega | cases hk) fun _ => .ok s rfl
  · rename_i hk
    exact .guard (fun _ => rfl) fun hy => by
      rw [dif_pos (by omega)] at hk
      cases hk

theorem State.readPeer_answers (s : State) (station : Byte) :
    s.Answers (s.conditions (.readPeer station)) (s.readPeer station) := by
  unfold State.readPeer stationOf
  split
  · rename_i k hk
    exact .guard (fun hn => by split at hk <;> first | omega | cases hk) fun _ => .ok s rfl
  · rename_i hk
    exact .guard (fun _ => rfl) fun hy => by
      rw [dif_pos (by omega)] at hk
      cases hk

/-- R160: each command is answered as its rule's conditions say. -/
theorem State.perform_answers (s : State) (c : Command) : s.Answers (s.conditions c) (s.perform c) := by
  cases c
  case configure => exact s.configure_answers ..
  case join => exact s.joinCommand_answers
  case leave =>
    exact .check s.mayAsk_iff fun _ => .check (by simp) fun _ => .check s.generalRoom_iff fun _ => .done_accepted s rfl
  case restart => exact s.restartCommand_answers
  case claim => exact s.claimCommand_answers ..
  case release => exact s.releaseCommand_answers _
  case requestCrank =>
    exact .check s.mayAsk_iff fun _ => .check Iff.rfl fun _ => .check (by simp) fun _ => .check (by simp) fun _ =>
      .check s.urgentRoom_iff fun _ => .done_accepted s rfl
  case cancelCrank => exact s.cancelCrank_answers
  case crankDone | crankFailed | engineRunning | engineStopped =>
    exact .report (.check Iff.rfl fun _ => .check s.urgentRoom_iff fun _ => .done_accepted s rfl)
  case announceBudget =>
    exact .check s.mayAsk_iff fun _ => .check Iff.rfl fun _ => .check decide_eq_true_iff fun _ =>
      .check s.generalRoom_iff fun _ => .done_accepted s rfl
  case lift => exact .check s.mayAsk_iff fun _ => .check s.generalRoom_iff fun _ => .done_accepted s rfl
  case readStatus => exact s.readStatus_answers _
  case readClaim => exact s.readClaim_answers _
  case readPeer => exact s.readPeer_answers _
  case readHistory =>
    exact .check (by simp) fun _ => .check (by simp) fun _ => .check Iff.rfl fun _ => .done_ok s rfl
  case freezeHistory | thawHistory => exact .check (by simp) fun _ => .done_ok s rfl
  case setWatch => exact s.setWatch_answers ..
  case armWatch => exact s.armWatch_answers _
  case readConfig | readNotice | readFault | clearFault | echo => exact .ok s rfl

/-- The record that waits is no part of any condition. -/
theorem State.holding_conditions (s : State) (d c : Command) : (s.holding d).conditions c = s.conditions c := by
  cases c <;> rfl

/-- R160: a command one of whose conditions fails is answered so, and changes nothing else. -/
theorem State.Open.exec_refused {s : State} (h : s.Open) {c : Command} (hc : c.sized) {code : ResponseCode}
    (hf : FirstFails (s.conditions c) code) : exec c.row s = .next (s.responds code []) :=
  h.exec_answer c hc (((s.holding c).perform_answers c).1 code (by rwa [State.holding_conditions]))

theorem State.Open.exec_done {s : State} (h : s.Open) {c : Command} (hc : c.sized) (ha : ∀ p ∈ s.conditions c, p.1) :
    ∃ t body code, exec c.row s = .next t ∧ t.port.command = none ∧ t.port.response = some (byteOf code :: body) ∧
      (code = ResponseCode.ok.code ∨ code = ResponseCode.accepted.code) := by
  have hans := ((s.holding c).perform_answers c).2 (by rwa [State.holding_conditions])
  refine ⟨_, ((s.holding c).perform c).reply.body, ((s.holding c).perform c).reply.code.code,
    exec_row_free c s h.free hc, by simp [Taken.placed], by simp [Taken.placed, Reply.bytes], ?_⟩
  rcases hans with hok | hacc
  · exact .inl (by rw [hok])
  · exact .inr (by rw [hacc])

/-! Records that are no command's (R160, checks 1 and 2). -/

theorem halfBytes_halfOf (a b : Byte) : halfBytes (halfOf a b) = [a, b] := by
  have hn : (a ++ b).toNat = a.toNat * 256 + b.toNat := by
    rw [BitVec.toNat_append, ← Nat.shiftLeft_add_eq_or_of_lt b.isLt, Nat.shiftLeft_eq]
  simp only [halfBytes, halfOf, List.cons.injEq, and_true]
  constructor <;> apply BitVec.eq_of_toNat_eq <;>
    rw [BitVec.extractLsb'_toNat, hn, Nat.shiftRight_eq_div_pow] <;> omega

theorem byte_eq_ofNat {b : Byte} {n : Nat} (h : b.toNat = n) : b = BitVec.ofNat 8 n := by
  rw [← h]
  simp

/-- R173: the arguments that a code's command is read from are its record's. -/
theorem Command.bytes_of_ofBytes {code : Byte} {args : List Byte} {c : Command}
    (h : Command.ofBytes code.toNat args = some c) : c.bytes = code :: args ∧ c.sized := by
  generalize hn : code.toNat = n at h
  unfold Command.ofBytes at h
  split at h
  case h_28 => cases h
  all_goals
    rw [byte_eq_ofNat hn]
    split at h <;> cases h
    simp_all [Command.bytes, Command.sized, halfBytes_halfOf] <;> omega

/-- R160: the answer of a whole WRITE of this record into a free mailbox, where the record is refused. -/
theorem State.Open.write_refused {s : State} (h : s.Open) {code : Byte} {args : List Byte} {answer : ResponseCode}
    (hr : (CommandRecord.ofWrite (code :: args)).command = .error answer) :
    exec (.spiWriteTransfer ⟨.whole, code :: args⟩) s = .next
      ((s.setPort { s.port with select := none, sdo := [s.statusByte], overwrite := false }).responds answer []) := by
  have hu : s.transfer .whole (1 :: code :: args) =
      (s.setPort { s.port with select := none, sdo := [s.statusByte], overwrite := false }).responds answer [] := by
    simp [State.transfer, h.free.awake, State.rise, State.selectPort, TransferType.ofByte, State.shiftOut,
      State.offerRecord, h.free.noCommand, State.takeAtRise, State.engineBusy, State.takeCommand, h.free.noResponse,
      State.runRecord, hr, State.refuse, Taken.placed, State.responds, Reply.bytes]
    rfl
  show Host.Outcome.next _ = _
  rw [hu, State.Settled.conclude ((h.settled.setPort _).responds _ _)]

theorem CommandRecord.unknown {code : Byte} {args : List Byte} (hc : code = 0 ∨ 27 < code.toNat) :
    (CommandRecord.ofWrite (code :: args)).command = .error .unknown := by
  have hn : ¬ (1 ≤ code.toNat ∧ code.toNat ≤ 27) := by
    rcases hc with rfl | hc
    · decide
    · omega
  simp [CommandRecord.command, CommandRecord.ofWrite, hn]

theorem CommandRecord.badArg {code : Byte} {args : List Byte} (h1 : 1 ≤ code.toNat) (h2 : code.toNat ≤ 27)
    (hn : ∀ c : Command, c.sized → c.bytes ≠ code :: args) :
    (CommandRecord.ofWrite (code :: args)).command = .error .badArg := by
  have hbytes : (CommandRecord.ofWrite (code :: args)).bytes = code :: args.take 23 := rfl
  simp only [CommandRecord.command, hbytes, h1, h2, and_self, if_true]
  by_cases hl : (CommandRecord.ofWrite (code :: args)).overLong = true
  · rw [if_pos hl]
  · have hlen : args.length ≤ 23 := by
      simp only [CommandRecord.ofWrite, List.length_cons, decide_eq_true_eq] at hl
      omega
    rw [if_neg hl, List.take_of_length_le hlen]
    split
    · rename_i c hc
      obtain ⟨hb, hs⟩ := Command.bytes_of_ofBytes hc
      exact absurd hb (hn c hs)
    · rfl

/-- Settles O11. -/
theorem refusalChangesNothing : Obligations.RefusalChangesNothing := by
  refine ⟨fun c s code h hc hcode hok hacc => ?_, fun c s h hc => ⟨fun code => h.exec_refused hc, h.exec_done hc⟩,
    fun s code args h => ⟨fun hc => h.write_refused (CommandRecord.unknown hc),
      fun h1 h2 hn => h.write_refused (CommandRecord.badArg h1 h2 hn)⟩⟩
  obtain ⟨hrefused, hdone⟩ := s.perform_answers c
  rcases firstFails_or_all (s.conditions c) with ⟨other, hf⟩ | ha
  · have : other = code := by rw [← hcode, hrefused other hf]; rfl
    exact this ▸ h.exec_refused hc hf
  · rw [hcode] at hdone
    rcases hdone ha with he | he
    · exact absurd he hok
    · exact absurd he hacc

end Sys2Proof.Machine
end

section
/-! Where the statement about table-changing frames fails: a table that holds a key twice. R1 allows none, and by
`stepKeepsTableSound` no step makes one of a sound table, but the statement does not ask for a sound table. An ABSENCE
then removes both records at the first of them, and orphans the second, which is gone: the transitions say ORPHANED of a
record that no longer stands, and the slot follows them. -/

namespace Sys2Proof.Machine

/-- One of the two records of the same key. -/
def doubledRecord (state : ClaimState) (held : Nat) : Claim :=
  { key := { station := 0, slot := 0 }, cls := .comfort, requested := 10, minimum := none, held := held, state := state,
    prior := none, arrival := 0, skip := 0 }

/-- A present station without a role and without used slots. -/
def plainEntry : RosterEntry := { RosterEntry.absent with present := true }

/-- Stations 0 and 1 present, and slot 0.0 WAITING and HELD at once. -/
def doubledReplica : Replica :=
  { Replica.blank with
    claims := [doubledRecord .waiting 0, doubledRecord .held 10]
    roster := (Vector.replicate 16 RosterEntry.absent |>.set 0 plainEntry).set 1 plainEntry }

/-- Station 1 says that station 0 is absent, in agreement with the replica. -/
def absenceOfZero : Frame :=
  { sender := 1, sync := .member, epoch := doubledReplica.epoch, digest := doubledReplica.digest, body := .absence 0 }

/-- Station 0, MEMBER, with that replica, its slot 0 showing the first of the two records. -/
def doubledState : State :=
  { State.reset with
    config := { ConfigRecord.reset with
      slots := ConfigRecord.reset.slots.set 0
        { SlotPart.default with given := true, used := true, cls := .comfort, maxAmps := 40 } }
    station := { StationUnit.reset with state := .member, wasMember := true }
    replica := some doubledReplica
    link := { LinkUnit.reset with inbound := [absenceOfZero] }
    slotUnit := { SlotUnit.reset with
      slots := SlotUnit.reset.slots.set 0 { SlotRecord.reset with
        state := .waiting
        values := some { cls := .comfort, requested := 10, minimum := none } } } }

theorem doubledState_applies : doubledState.Applies absenceOfZero doubledReplica [] :=
  ⟨rfl, rfl, rfl, rfl, by decide⟩

theorem doubledState_inboundFits : doubledState.InboundFits := by
  intro f hf
  obtain rfl := List.mem_singleton.mp hf
  rfl

/-- The slot before the application shows the record that is found under its key. -/
theorem doubledState_shows : (doubledState.slot 0).Shows (doubledReplica.find (doubledState.ownKey 0)) := ⟨rfl, rfl⟩

/-- The ABSENCE leaves no record of the key. -/
theorem doubledState_after :
    (doubledReplica.applied (absenceEffect absenceOfZero)).find (doubledState.ownKey 0) = none := by decide +kernel

/-- The slot has followed the second transition, to ORPHANED. -/
theorem doubledState_orphaned : ((doubledState.applyRow .absence).slot 0).state = .orphaned := by decide +kernel

/-- Refutes O32: the slot of a key that the table holds twice shows ORPHANED where the application leaves no record. -/
theorem not_tableFrameApplies : ¬ Obligations.TableFrameApplies := by
  intro h
  obtain ⟨_, _, t, ht, _, _, _, _, _, _, hshows, _⟩ :=
    h doubledState absenceOfZero doubledReplica [] absenceEffect doubledState_applies doubledState_inboundFits rfl
  have hrow : t = doubledState.applyRow .absence := (Host.Outcome.next.inj ht).symm
  have hfree := hshows 0 rfl rfl doubledState_shows
  rw [doubledState_after, hrow] at hfree
  have hstate := hfree.1
  rw [doubledState_orphaned] at hstate
  cases hstate

end Sys2Proof.Machine
end

section
/-! Available current (R22), the test of an entry (R32, R33), and the walk of the admission queue (R31, R34 to R36). -/

namespace Sys2Proof.Machine

/-! Available current. -/

theorem PhaseRecord.available_eq (p : PhaseRecord) (k : LoadClass) :
    p.available k = if k = .comfort ∨ k = .passenger ∨ k = .deferrable then p.low else p.high := by
  cases k <;> rfl

theorem PhaseRecord.inRange_iff (p : PhaseRecord) :
    p.inRange = true ↔ p.ceiling ≤ Config.ceilingLimit ∧ p.reserve ≤ p.ceiling := decide_eq_true_iff

theorem PhaseRecord.low_of_brownout {p : PhaseRecord} (h : p.brownout = true) : p.low = 0 := if_pos h

section
variable {p : PhaseRecord}

theorem PhaseRecord.low_of_running (hb : p.brownout = false) (h : p.phase = .run ∨ p.phase = .recover) :
    p.low = p.ceiling := by
  rcases h with h | h <;> simp [PhaseRecord.low, hb, h]

theorem PhaseRecord.low_of_stop (hb : p.brownout = false) (h : p.phase = .stop) :
    p.low = p.ceiling - p.reserve := by
  simp [PhaseRecord.low, hb, h]

theorem PhaseRecord.low_of_cranking (hb : p.brownout = false) (h : p.phase = .crankPending ∨ p.phase = .crank) :
    p.low = 0 := by
  rcases h with h | h <;> simp [PhaseRecord.low, hb, h]

end

theorem PhaseRecord.low_le_high (p : PhaseRecord) : p.low ≤ p.high := by
  unfold PhaseRecord.high
  cases hb : p.brownout with
  | true => simp [PhaseRecord.low_of_brownout hb]
  | false =>
    cases h : p.phase with
    | run => exact (PhaseRecord.low_of_running hb (.inl h)).le
    | recover => exact (PhaseRecord.low_of_running hb (.inr h)).le
    | stop => exact PhaseRecord.low_of_stop hb h ▸ Nat.sub_le _ _
    | crankPending => exact PhaseRecord.low_of_cranking hb (.inl h) ▸ Nat.zero_le _
    | crank => exact PhaseRecord.low_of_cranking hb (.inr h) ▸ Nat.zero_le _

theorem admissionRuns_iff (r : Replica) : admissionRuns r = true ↔ r.gate = none ∧ r.phase.phase ≠ .crank := by
  simp [admissionRuns]

/-- Settles O44. -/
theorem availableCurrent : Obligations.AvailableCurrent := by
  rintro p r rfl hr hg
  obtain ⟨_, hle⟩ := r.phase.inRange_iff.mp hr
  refine ⟨r.phase.available_eq, rfl, hle, r.phase.low_le_high, PhaseRecord.low_of_brownout, fun hb => ?_,
    by simp [admissionRuns_iff, hg], rfl, rfl, rfl, rfl, rfl, rfl⟩
  refine ⟨fun h => PhaseRecord.low_of_running hb (.inl h), fun h => ?_,
    fun h => PhaseRecord.low_of_cranking hb (.inl h), fun h => PhaseRecord.low_of_cranking hb (.inr h),
    fun h => PhaseRecord.low_of_running hb (.inr h)⟩
  rw [PhaseRecord.low_of_stop hb h]
  exact Nat.sub_add_cancel hle

/-! The test of an entry. -/

section
variable {available charged : Nat} {c : Claim}

theorem not_trimmed_of_waiting_or_shed (h : c.state = .waiting ∨ c.state = .shed) : c.state ≠ .trimmed := by
  rcases h with h | h <;> simp [h]

/-- R32: the requested amount fits. -/
theorem fit_full (hs : c.state ≠ .trimmed) (h : charged + c.requested ≤ available) :
    fit available charged c = some (.held, c.requested) := by
  simp [fit, hs, h]

/-- R32: the requested amount of a fixed claim does not fit. -/
theorem fit_fixed (hs : c.state ≠ .trimmed) (h : available < charged + c.requested) (hm : c.minimum = none) :
    fit available charged c = none := by
  simp [fit, hs, hm, not_le.mpr h]

/-- R32: the requested amount of a flexible claim does not fit, and its minimum decides. -/
theorem fit_flexible (hs : c.state ≠ .trimmed) (h : available < charged + c.requested) {m : Nat}
    (hm : c.minimum = some m) :
    fit available charged c = if charged + m ≤ available then some (.trimmed, available - charged) else none := by
  simp [fit, hs, hm, not_le.mpr h]

/-- R32: with no current left, no entry fits that asks for some. -/
theorem fit_none_of_le (hs : c.state ≠ .trimmed) (h : available ≤ charged) (hr : 1 ≤ c.requested)
    (hm : ∀ m, c.minimum = some m → 1 ≤ m) : fit available charged c = none := by
  have hlt : available < charged + c.requested := by omega
  cases hmin : c.minimum with
  | none => exact fit_fixed hs hlt hmin
  | some m =>
    have := hm m hmin
    rw [fit_flexible hs hlt hmin, if_neg (by omega)]

/-- R33: a TRIMMED entry with no current left. -/
theorem fit_trimmed_none (hs : c.state = .trimmed) (h : available ≤ charged) : fit available charged c = none := by
  simp [fit, hs, not_lt.mpr h]

/-- R33: a TRIMMED entry grows to its requested amount, where it is HELD. -/
theorem fit_trimmed_full (hs : c.state = .trimmed) (hc : c.held < c.requested) (h : charged < available)
    (hall : c.requested ≤ c.held + (available - charged)) :
    fit available charged c = some (.held, c.requested) := by
  have hheld : c.held + Nat.min (available - charged) (c.requested - c.held) = c.requested := by
    rw [show Nat.min _ _ = _ from Nat.min_eq_right (by omega)]
    omega
  simp [fit, hs, h, hheld]

/-- R33: a TRIMMED entry grows by the current there is. -/
theorem fit_trimmed_part (hs : c.state = .trimmed) (h : charged < available)
    (hpart : c.held + (available - charged) < c.requested) :
    fit available charged c = some (.trimmed, c.held + (available - charged)) := by
  have hheld : Nat.min (available - charged) (c.requested - c.held) = available - charged :=
    Nat.min_eq_left (by omega)
  simp [fit, hs, h, hheld, hpart.ne]

theorem Claim.amounts_of_inRange (h : c.inRange = true) :
    1 ≤ c.requested ∧ ∀ m, c.minimum = some m → 1 ≤ m ∧ m < c.requested := by
  simp only [Claim.inRange, Bool.and_eq_true, decide_eq_true_iff] at h
  obtain ⟨⟨⟨⟨hr, _⟩, hmin⟩, _⟩, _⟩ := h
  refine ⟨hr, fun m hm => ?_⟩
  simpa [hm] using hmin

end

/-- A WAITING claim of 40 units with no minimum. -/
def fixedEntry (cls : LoadClass) : Claim :=
  { key := ⟨0, 0⟩, cls := cls, requested := 40, minimum := none, held := 0, state := .waiting, prior := none,
    arrival := 0, skip := 0 }

/-- Settles O46. The start budget leaves the low classes nothing at C = 80 (A_low) and RESTART 40 units; at C = 120
(S) it leaves neither any. -/
theorem admissionTest : Obligations.AdmissionTest := by
  refine ⟨fun c available charged hs hr => ?_, ?_, ?_⟩
  · have hs' := not_trimmed_of_waiting_or_shed hs
    obtain ⟨hreq, hmin⟩ := Claim.amounts_of_inRange hr
    refine ⟨fit_full hs', fun hlt => ⟨fit_fixed hs' hlt, fun m hm => ?_⟩,
      fun hlt => fit_none_of_le hs' hlt.le hreq fun m hm => (hmin m hm).1⟩
    rw [fit_flexible hs' hlt hm]
    exact ⟨fun h => ⟨if_pos h, by omega, by omega⟩, fun h => if_neg (by omega)⟩
  · exact ⟨Replica.start.phase, 80, fixedEntry .comfort, fixedEntry .restart, by decide⟩
  · refine ⟨Replica.start.phase, 120, fixedEntry .restart, by decide, by decide, rfl, rfl, by decide,
      fun c hlow hs hr => ?_⟩
    obtain ⟨hreq, hmin⟩ := Claim.amounts_of_inRange hr
    have hav : Replica.start.phase.available c.cls ≤ 120 := by
      cases hc : c.cls <;> decide
    exact fit_none_of_le (not_trimmed_of_waiting_or_shed hs) hav hreq fun m hm => (hmin m hm).1

/-! The walk of the queue. -/

/-- R31: an entry that the shedding pass touched, or that does not fit. -/
def Claim.Unfit (phase : PhaseRecord) (charged : Nat) (touched : List Key) (c : Claim) : Prop :=
  touched.contains c.key = true ∨ fit (phase.available c.cls) charged c = none

section
variable {phase : PhaseRecord} {charged : Nat} {touched : List Key}

/-- R31: an entry that fits ends the walk. -/
theorem walkQueue_fit {c : Claim} (passed : List Key) (rest : List Claim) {st : ClaimState} {held : Nat}
    (ht : touched.contains c.key = false) (hf : fit (phase.available c.cls) charged c = some (st, held)) :
    walkQueue phase charged touched passed (c :: rest) =
      some { claim := c, state := st, held := held, passed := passed } := by
  simp only [walkQueue, ht, hf, Bool.false_eq_true, if_false]

/-- R36: an entry that does not fit ends the walk where it is a barrier, and is passed over where it is none. -/
theorem walkQueue_unfit {c : Claim} (passed : List Key) (rest : List Claim) (h : c.Unfit phase charged touched) :
    walkQueue phase charged touched passed (c :: rest) =
      if c.skip = 8 then none else walkQueue phase charged touched (passed ++ [c.key]) rest := by
  have hn : (if touched.contains c.key then none else fit (phase.available c.cls) charged c) = none := by
    rcases h with h | h
    · rw [if_pos h]
    · rw [h, ite_self]
  rw [walkQueue, hn]
  rfl

theorem Claim.unfit_or_fits (phase : PhaseRecord) (charged : Nat) (touched : List Key) (c : Claim) :
    c.Unfit phase charged touched ∨
      ∃ st held, touched.contains c.key = false ∧ fit (phase.available c.cls) charged c = some (st, held) := by
  cases ht : touched.contains c.key with
  | true => exact .inl (.inl ht)
  | false =>
    cases hf : fit (phase.available c.cls) charged c with
    | none => exact .inl (.inr hf)
    | some taken => exact .inr ⟨taken.1, taken.2, rfl, rfl⟩

/-- R31, R36: what the walk admits is the first entry that fits, with no barrier before it. -/
theorem walkQueue_eq_some {passed : List Key} {queue : List Claim} {a : Admission}
    (h : walkQueue phase charged touched passed queue = some a) :
    ∃ front behind, queue = front ++ a.claim :: behind ∧ a.passed = passed ++ front.map Claim.key ∧
      touched.contains a.claim.key = false ∧
      fit (phase.available a.claim.cls) charged a.claim = some (a.state, a.held) ∧
      ∀ d ∈ front, d.Unfit phase charged touched ∧ d.skip ≠ 8 := by
  induction queue generalizing passed with
  | nil => cases h
  | cons c rest ih =>
    rcases c.unfit_or_fits phase charged touched with hc | ⟨st, held, ht, hf⟩
    · rw [walkQueue_unfit passed rest hc] at h
      split at h
      · cases h
      rename_i hskip
      obtain ⟨front, behind, rfl, hpassed, ht, hf, hfront⟩ := ih h
      refine ⟨c :: front, behind, rfl, by simp [hpassed], ht, hf, fun d hd => ?_⟩
      rcases List.mem_cons.mp hd with rfl | hd
      · exact ⟨hc, hskip⟩
      · exact hfront d hd
    · rw [walkQueue_fit passed rest ht hf] at h
      obtain rfl := Option.some.inj h
      exact ⟨[], rest, rfl, by simp, ht, hf, by simp⟩

/-- R31, R36: a walk that admits none comes to the end of the queue, or to a barrier that does not fit. -/
theorem walkQueue_eq_none {passed : List Key} {queue : List Claim}
    (h : walkQueue phase charged touched passed queue = none) :
    (∀ d ∈ queue, d.Unfit phase charged touched) ∨
      ∃ front b behind, queue = front ++ b :: behind ∧ b.skip = 8 ∧ b.Unfit phase charged touched ∧
        ∀ d ∈ front, d.Unfit phase charged touched := by
  induction queue generalizing passed with
  | nil => exact .inl (by simp)
  | cons c rest ih =>
    rcases c.unfit_or_fits phase charged touched with hc | ⟨st, held, ht, hf⟩
    · rw [walkQueue_unfit passed rest hc] at h
      split at h
      · rename_i hskip
        exact .inr ⟨[], c, rest, rfl, hskip, hc, by simp⟩
      · rcases ih h with hall | ⟨front, b, behind, rfl, hskip, hb, hfront⟩
        · exact .inl (List.forall_mem_cons.mpr ⟨hc, hall⟩)
        · exact .inr ⟨c :: front, b, behind, rfl, hskip, hb, List.forall_mem_cons.mpr ⟨hc, hfront⟩⟩
    · rw [walkQueue_fit passed rest ht hf] at h
      cases h

end

theorem admissionPass_shut {touched : List Key} {p : Pass} (h : admissionRuns p.rep = false) :
    admissionPass touched p = (p, none) := by
  simp [admissionPass, h]

/-- R31: what the admission pass can come to. -/
theorem admissionPass_cases (touched : List Key) (p : Pass) :
    (admissionPass touched p = (p, none) ∧ (admissionRuns p.rep = true →
      walkQueue p.rep.phase p.rep.charged touched [] (admissionQueue p.rep.claims) = none)) ∨
    ∃ a, admissionRuns p.rep = true ∧
      walkQueue p.rep.phase p.rep.charged touched [] (admissionQueue p.rep.claims) = some a ∧
      admissionPass touched p =
        ({ rep := admitClaim p.rep a
           log := p.log ++
            [{ key := a.claim.key, before := some a.claim.state, after := some a.state, held := a.held }] },
         some a.claim.key) := by
  cases hr : admissionRuns p.rep with
  | false => exact .inl ⟨admissionPass_shut hr, by simp⟩
  | true =>
    cases hw : walkQueue p.rep.phase p.rep.charged touched [] (admissionQueue p.rep.claims) with
    | none => exact .inl ⟨by simp [admissionPass, hw], fun _ => rfl⟩
    | some a => exact .inr ⟨a, rfl, rfl, by simp [admissionPass, hr, hw]⟩

/-- Settles O48. -/
theorem admissionNeedsOpenGate : Obligations.AdmissionNeedsOpenGate := by
  refine ⟨fun touched p => ⟨fun hshut => admissionPass_shut ?_, fun q k hq => ?_, fun q hq => ?_⟩,
    fun c available charged hs hlt => ⟨fit_trimmed_none hs, fit_trimmed_full hs hlt, fit_trimmed_part hs⟩⟩
  · rw [Bool.eq_false_iff, Ne, admissionRuns_iff]
    rintro ⟨hg, hc⟩
    simp [hg, hc] at hshut
  · rcases admissionPass_cases touched p with ⟨hnone, _⟩ | ⟨a, hruns, hw, hsome⟩
    · rw [hnone] at hq
      cases hq
    rw [hsome] at hq
    obtain ⟨rfl, rfl⟩ : _ = q ∧ a.claim.key = k := by simpa using hq
    obtain ⟨hgate, hphase⟩ := (admissionRuns_iff _).mp hruns
    obtain ⟨front, behind, hqueue, hpassed, ht, hf, hfront⟩ := walkQueue_eq_some hw
    obtain ⟨hin, hqueued⟩ := (mem_admissionQueue a.claim p.rep.claims).mp (by rw [hqueue]; simp)
    refine ⟨hgate, hphase, front, a.claim, behind, a.state, a.held, hqueue, rfl, hin, hqueued, ht, hf, hfront, ?_, rfl⟩
    rw [admitClaim, hpassed]
    rfl
  · rcases admissionPass_cases touched p with ⟨hnone, hw⟩ | ⟨a, _, _, hsome⟩
    · rw [hnone] at hq
      exact ⟨(congrArg Prod.fst hq).symm, fun hg hc => walkQueue_eq_none (hw ((admissionRuns_iff _).mpr ⟨hg, hc⟩))⟩
    · rw [hsome] at hq
      cases hq

end Sys2Proof.Machine
end

section
/-! The shedding pass (R26 to R29, law 5): every step of it lowers a replica, and the walk that sheds a class ends with
C within the limit or with nothing of the class HELD or TRIMMED. -/

namespace Sys2Proof.Machine

/-- Law 5: what the shedding pass may make of a replica r. No record enters and none that was not HELD or TRIMMED
becomes so, C does not rise, and a CRITICAL record and one that is not HELD or TRIMMED stand as they were. -/
structure Replica.Lowers (r q : Replica) : Prop where
  phase : q.phase = r.phase
  roster : q.roster = r.roster
  charged : q.charged ≤ r.charged
  origin : ∀ d ∈ q.claims, ∃ c ∈ r.claims, c.key = d.key ∧ c.cls = d.cls ∧
    (d.state.given = true → c.state.given = true)
  kept : ∀ c ∈ r.claims, c.cls = .critical ∨ c.state.given = false → c ∈ q.claims

/-- R26: the key names no CRITICAL record. -/
def Replica.Sheddable (r : Replica) (k : Key) : Prop := ∀ c ∈ r.claims, c.key = k → c.cls ≠ .critical

theorem Replica.Lowers.refl (r : Replica) : r.Lowers r :=
  ⟨rfl, rfl, le_rfl, fun d hd => ⟨d, hd, rfl, rfl, id⟩, fun _ hc _ => hc⟩

theorem Replica.Lowers.trans {r q t : Replica} (h : r.Lowers q) (g : q.Lowers t) : r.Lowers t where
  phase := g.phase.trans h.phase
  roster := g.roster.trans h.roster
  charged := g.charged.trans h.charged
  origin d hd := by
    obtain ⟨c, hc, hkey, hcls, hgiven⟩ := g.origin d hd
    obtain ⟨b, hb, hkey', hcls', hgiven'⟩ := h.origin c hc
    exact ⟨b, hb, hkey'.trans hkey, hcls'.trans hcls, hgiven' ∘ hgiven⟩
  kept c hc hs := g.kept c (h.kept c hc hs) hs

theorem Replica.Lowers.sheddable {r q : Replica} (h : r.Lowers q) {k : Key} (hk : r.Sheddable k) : q.Sheddable k := by
  intro d hd hdk
  obtain ⟨c, hc, hkey, hcls, _⟩ := h.origin d hd
  exact hcls ▸ hk c hc (hkey.trans hdk)

theorem Replica.Lowers.withinOrShed {r q : Replica} (h : r.Lowers q) {limit : Nat} {classes : List LoadClass}
    (hw : WithinOrShed limit classes r) : WithinOrShed limit classes q := by
  rcases hw with hle | hnone
  · exact .inl (h.charged.trans hle)
  · refine .inr fun d hd hcls => ?_
    obtain ⟨c, hc, _, hcls', hgiven⟩ := h.origin d hd
    have hno := hnone c hc (hcls' ▸ hcls)
    by_contra hd'
    simp [hgiven (by simpa using hd')] at hno

/-- The limits of a class and of others hold together. -/
theorem WithinOrShed.cons {limit : Nat} {cls : LoadClass} {classes : List LoadClass} {r : Replica}
    (h : WithinOrShed limit [cls] r) (hs : WithinOrShed limit classes r) : WithinOrShed limit (cls :: classes) r := by
  rcases h with hle | hone
  · exact .inl hle
  rcases hs with hle | hrest
  · exact .inl hle
  refine .inr fun c hc hm => ?_
  rcases List.mem_cons.mp hm with hcls | hm
  · exact hone c hc (by simp [hcls])
  · exact hrest c hc hm

/-! One step. -/

theorem Claim.charge_of_given {c : Claim} (h : c.state.given = true) : c.charge = c.held := by
  rcases (ClaimState.given_iff _).mp h with hs | hs <;> simp [Claim.charge, hs, ClaimState.charged]

/-- A HELD or TRIMMED record below CRITICAL that changes to a smaller charge lowers the replica. -/
theorem Replica.Sound.change_lowers {r : Replica} (h : r.Sound) {k : Key} {c : Claim} {f : Claim → Claim}
    (hc : c ∈ r.claims) (hck : c.key = k) (hg : c.state.given = true) (hn : c.cls ≠ .critical)
    (hkey : (f c).key = c.key) (hcls : (f c).cls = c.cls) (hcharge : (f c).charge ≤ c.charge) :
    r.Lowers (r.change k f) := by
  have only {d : Claim} (hd : d ∈ r.claims) (hdk : d.key = k) : d = c := h.eq_of_key hd hc (hdk.trans hck.symm)
  refine ⟨rfl, rfl, ?_, fun d hd => ?_, fun d hd hs => List.mem_map.mpr ⟨d, hd, if_neg fun hdk => ?_⟩⟩
  · simp only [Replica.charged, chargedSum, Replica.change, changeClaim, List.map_map]
    refine List.sum_le_sum fun d hd => ?_
    simp only [Function.comp_apply]
    split
    · rename_i hdk
      rw [only hd hdk]
      exact hcharge
    · exact le_rfl
  · obtain ⟨b, hb, rfl⟩ := List.mem_map.mp hd
    refine ⟨b, hb, ?_⟩
    split
    · rename_i hbk
      rw [only hb hbk]
      exact ⟨hkey.symm, hcls.symm, fun _ => hg⟩
    · exact ⟨rfl, rfl, id⟩
  · rw [only hd hdk] at hs
    rcases hs with hs | hs
    · exact hn hs
    · simp [hg] at hs

theorem Replica.release_lowers (r : Replica) (k : Key) : r.Lowers (r.release k) := by
  unfold Replica.release
  split
  · exact ⟨rfl, rfl, le_rfl, (Replica.Lowers.refl r).origin, fun _ hc _ => hc⟩
  · exact .refl r

theorem trimOne_lowers (limit : Nat) {p : Pass} {k : Key} (h : p.rep.Sound) (hk : p.rep.Sheddable k) :
    p.rep.Lowers (trimOne limit p k).rep := by
  unfold trimOne
  split
  case h_2 => exact .refl _
  rename_i c hf
  split
  case h_2 => exact .refl _
  dsimp only
  split
  case isFalse => exact .refl _
  rename_i hc
  obtain ⟨_, hg, _⟩ := hc
  refine h.change_lowers (mem_of_findClaim hf) (key_eq_of_findClaim hf) hg
    (hk c (mem_of_findClaim hf) (key_eq_of_findClaim hf)) rfl rfl ?_
  rw [Claim.charge_of_given hg]
  exact Nat.sub_le _ _

theorem shedOne_lowers (limit : Nat) {p : Pass} {k : Key} (h : p.rep.Sound) (hk : p.rep.Sheddable k) :
    p.rep.Lowers (shedOne limit p k).rep := by
  unfold shedOne
  split
  case h_2 => exact .refl _
  rename_i c hf
  split
  case isFalse => exact .refl _
  rename_i hc
  refine .trans (h.change_lowers (mem_of_findClaim hf) (key_eq_of_findClaim hf) hc.2
    (hk c (mem_of_findClaim hf) (key_eq_of_findClaim hf)) rfl rfl ?_) (Replica.release_lowers _ k)
  exact Nat.zero_le _

/-- R28: a step that sheds leaves C within the limit or no record of the key HELD or TRIMMED. -/
theorem shedOne_reaches (limit : Nat) {p : Pass} (k : Key) (h : p.rep.Sound) :
    (shedOne limit p k).rep.charged ≤ limit ∨
      ∀ c ∈ (shedOne limit p k).rep.claims, c.key = k → c.state.given = false := by
  unfold shedOne
  split
  case h_2 =>
    rename_i hf
    exact .inr fun c hc hck => absurd hck ((findClaim_eq_none_iff _ _).mp hf c hc)
  rename_i c hf
  split
  · refine .inr fun d hd hdk => ?_
    rw [Replica.release_claims] at hd
    obtain ⟨b, _, rfl⟩ := List.mem_map.mp hd
    split
    · rfl
    · rename_i hbk
      rw [if_neg hbk] at hdk
      exact absurd hdk hbk
  · rename_i hno
    by_cases hle : p.rep.charged ≤ limit
    · exact .inl hle
    refine .inr fun d hd hdk => ?_
    rw [h.eq_of_key hd (mem_of_findClaim hf) (hdk.trans (key_eq_of_findClaim hf).symm)]
    simpa using fun hg => hno ⟨not_le.mp hle, hg⟩

/-! The walk over a class. -/

/-- Steps that lower a sound replica at keys of no CRITICAL record lower it along a walk. -/
theorem foldl_lowers {step : Pass → Key → Pass} (hsound : ∀ p k, p.rep.Sound → (step p k).rep.Sound)
    (hstep : ∀ {p : Pass} {k : Key}, p.rep.Sound → p.rep.Sheddable k → p.rep.Lowers (step p k).rep) {p : Pass}
    {l : List Key} (h : p.rep.Sound) (hl : ∀ k ∈ l, p.rep.Sheddable k) : p.rep.Lowers (l.foldl step p).rep :=
  (foldl_keeps_of_mem (P := fun q : Pass => q.rep.Sound ∧ p.rep.Lowers q.rep) l
    (fun k hk q hq => ⟨hsound q k hq.1, hq.2.trans (hstep hq.1 (hq.2.sheddable (hl k hk)))⟩) ⟨h, .refl _⟩).2

theorem mem_givenOf (cls : LoadClass) (r : Replica) (k : Key) :
    k ∈ givenOf cls r ↔ ∃ c ∈ r.claims, c.cls = cls ∧ c.state.given = true ∧ c.key = k := by
  simp [givenOf, newestFirst, mem_sortBy, and_assoc]

theorem sheddable_of_mem_givenOf {cls : LoadClass} {r : Replica} {k : Key} (h : r.Sound) (hn : cls ≠ .critical)
    (hk : k ∈ givenOf cls r) : r.Sheddable k := by
  obtain ⟨c, hc, hcls, _, hck⟩ := (mem_givenOf _ _ _).mp hk
  intro d hd hdk
  rw [h.eq_of_key hd hc (hdk.trans hck.symm), hcls]
  exact hn

/-- R28, R29: shedding the HELD and TRIMMED claims of a class in turn reaches the limit or sheds them all. -/
theorem foldl_shedOne_reaches {limit : Nat} {cls : LoadClass} {l : List Key} {p : Pass} (h : p.rep.Sound)
    (hl : ∀ k ∈ l, p.rep.Sheddable k)
    (hin : p.rep.charged ≤ limit ∨ ∀ c ∈ p.rep.claims, c.cls = cls → c.state.given = true → c.key ∈ l) :
    WithinOrShed limit [cls] (l.foldl (shedOne limit) p).rep := by
  induction l generalizing p with
  | nil => exact hin.imp id fun hnone c hc hcls => by simpa using hnone c hc (by simpa using hcls)
  | cons k l ih =>
    have hlow := shedOne_lowers limit h (hl k (by simp))
    refine ih (shedOne_sound limit p k h) (fun j hj => hlow.sheddable (hl j (by simp [hj]))) ?_
    rcases hin with hle | hin
    · exact .inl (hlow.charged.trans hle)
    refine (shedOne_reaches limit k h).imp id fun hshed d hd hcls hg => ?_
    obtain ⟨c, hc, hkey, hcls', hgiven⟩ := hlow.origin d hd
    have hm := hin c hc (hcls'.trans hcls) (hgiven hg)
    rw [hkey] at hm
    refine (List.mem_cons.mp hm).resolve_left fun hdk => ?_
    simp [hshed d hd hdk] at hg

/-- R26, R29: the walk over one class below CRITICAL. -/
theorem shedClass_reaches (limit : Nat) {p : Pass} {cls : LoadClass} (h : p.rep.Sound) (hn : cls ≠ .critical) :
    p.rep.Lowers (shedClass limit p cls).rep ∧ WithinOrShed limit [cls] (shedClass limit p cls).rep := by
  unfold shedClass
  have hsound : ((givenOf cls p.rep).foldl (trimOne limit) p).rep.Sound :=
    foldl_keeps (P := fun p : Pass => p.rep.Sound) (trimOne_sound limit) _ h
  have htrim : p.rep.Lowers ((givenOf cls p.rep).foldl (trimOne limit) p).rep :=
    foldl_lowers (trimOne_sound limit) (trimOne_lowers limit) h fun _ hk => sheddable_of_mem_givenOf h hn hk
  generalize (givenOf cls p.rep).foldl (trimOne limit) p = t at hsound htrim ⊢
  have hkeys : ∀ k ∈ givenOf cls t.rep, t.rep.Sheddable k := fun _ hk => sheddable_of_mem_givenOf hsound hn hk
  exact ⟨htrim.trans (foldl_lowers (shedOne_sound limit) (shedOne_lowers limit) hsound hkeys),
    foldl_shedOne_reaches hsound hkeys
      (.inr fun c hc hcls hg => (mem_givenOf _ _ _).mpr ⟨c, hc, hcls, hg, rfl⟩)⟩

/-- R26, R29: the walk over classes below CRITICAL against one limit. -/
theorem foldl_shedClass_reaches (limit : Nat) {classes : List LoadClass} {p : Pass} (h : p.rep.Sound)
    (hn : ∀ cls ∈ classes, cls ≠ .critical) :
    p.rep.Lowers (classes.foldl (shedClass limit) p).rep ∧
      WithinOrShed limit classes (classes.foldl (shedClass limit) p).rep := by
  induction classes generalizing p with
  | nil => exact ⟨.refl _, .inr fun _ _ hm => absurd hm (by simp)⟩
  | cons cls classes ih =>
    obtain ⟨hlow, hone⟩ := shedClass_reaches limit h (hn cls (by simp))
    obtain ⟨hrest, hall⟩ := ih (shedClass_sound limit p cls h) fun c hc => hn c (by simp [hc])
    exact ⟨hlow.trans hrest, (hrest.withinOrShed hone).cons hall⟩

/-- Law 5: the low classes reach A_low, RESTART reaches S, and the second walk keeps what the first reached. -/
theorem sheddingPass_reaches {p : Pass} (h : p.rep.Sound) :
    p.rep.Lowers (sheddingPass p).rep ∧
      WithinOrShed p.rep.phase.low [.deferrable, .passenger, .comfort] (sheddingPass p).rep ∧
      WithinOrShed p.rep.phase.ceiling [.restart] (sheddingPass p).rep := by
  unfold sheddingPass
  obtain ⟨hlow, hlim⟩ := foldl_shedClass_reaches p.rep.phase.low (classes := [.deferrable, .passenger, .comfort]) h
    (by decide)
  have hs : ([LoadClass.deferrable, .passenger, .comfort].foldl (shedClass p.rep.phase.low) p).rep.Sound :=
    foldl_keeps (P := fun p : Pass => p.rep.Sound) (fun p c => shedClass_sound _ p c) _ h
  generalize [LoadClass.deferrable, .passenger, .comfort].foldl (shedClass p.rep.phase.low) p = low at hlow hlim hs ⊢
  obtain ⟨hrestart, hlim'⟩ := shedClass_reaches p.rep.phase.ceiling hs (cls := .restart) (by decide)
  exact ⟨hlow.trans hrestart, hrestart.withinOrShed hlim, hlim'⟩

/-- Settles O47. -/
theorem sheddingReachesLimits : Obligations.SheddingReachesLimits := by
  intro r h
  obtain ⟨hlow, hlim, hlim'⟩ := sheddingPass_reaches (p := { rep := r, log := [] }) h
  exact ⟨hlim, hlim', hlow.kept, hlow.phase, hlow.roster, hlow.charged⟩

end Sys2Proof.Machine
end

section
/-! The own effects of ABSENCE, RECLAIM and LEAVE (R107, R108, R111, R117): each walks over records of one station, and
says of each what becomes of it. -/

namespace Sys2Proof.Machine

/-! Finding a record. -/

theorem Replica.find_change (r : Replica) (k j : Key) {f : Claim → Claim} (hf : ∀ c, (f c).key = c.key) :
    (r.change k f).find j = if j = k then (r.find j).map f else r.find j := by
  simp only [Replica.find, Replica.change, changeClaim, findClaim]
  induction r.claims with
  | nil => simp
  | cons c l ih =>
    have hkey : (if c.key = k then f c else c).key = c.key := by
      split
      · exact hf c
      · rfl
    rw [List.map_cons, List.find?_cons, List.find?_cons, hkey]
    cases hc : c.key == j with
    | false => exact ih
    | true =>
      obtain rfl : c.key = j := by simpa using hc
      show some (if c.key = k then f c else c) = if c.key = k then some (f c) else some c
      split <;> rfl

theorem Replica.Sound.find_of_mem {r : Replica} (h : r.Sound) {c : Claim} (hc : c ∈ r.claims) :
    r.find c.key = some c := by
  cases hf : r.find c.key with
  | none => exact absurd rfl ((findClaim_eq_none_iff _ _).mp hf c hc)
  | some d => rw [h.eq_of_key (mem_of_findClaim hf) hc (key_eq_of_findClaim hf)]

theorem Replica.remove_gate_iff (r : Replica) (k j : Key) :
    (r.remove k).gate = some j ↔ r.gate = some j ∧ j ≠ k := by
  rw [Replica.remove_gate]
  split
  · rename_i hg
    simp [hg, eq_comm]
  · rename_i hg
    exact ⟨fun h => ⟨h, fun hjk => hg (hjk ▸ h)⟩, And.left⟩

theorem mem_claimsOf {r : Replica} {n : Station} {c : Claim} :
    c ∈ r.claimsOf n ↔ c ∈ r.claims ∧ c.key.station = n := by
  simp [Replica.claimsOf]

theorem mem_claimsOf_of_find {r : Replica} {n : Station} {c : Claim} (h : r.find c.key = some c) :
    c ∈ r.claimsOf n ↔ c.key.station = n :=
  mem_claimsOf.trans (and_iff_right (mem_of_findClaim h))

theorem Replica.Sound.find_of_mem_claimsOf {r : Replica} (h : r.Sound) {n : Station} :
    ∀ c ∈ r.claimsOf n, r.find c.key = some c :=
  fun _ hc => h.find_of_mem (mem_claimsOf.mp hc).1

/-- R1: the records of one station have each a key of its own. -/
theorem Replica.Sound.claimsOf_pairwise {r : Replica} (h : r.Sound) (n : Station) :
    (r.claimsOf n).Pairwise fun a b => b.key ≠ a.key := by
  refine List.Pairwise.filter _ (((keyOrdered_iff _).mp h.1).imp fun hab he => ?_)
  simp [he] at hab

/-! The phase record and the roster (R50, R103). -/

/-- The replica r with another phase record. -/
def Replica.setPhase (r : Replica) (p : PhaseRecord) : Replica := { r with phase := p }

theorem Replica.Sound.setPhase {r : Replica} (h : r.Sound) (p : PhaseRecord) : (r.setPhase p).Sound := h.of_claims rfl

@[simp] theorem Replica.setEntry_find (r : Replica) (n : Station) (e : RosterEntry) (k : Key) :
    (r.setEntry n e).find k = r.find k := rfl

@[simp] theorem Replica.setEntry_entry_same (r : Replica) (n : Station) (e : RosterEntry) :
    (r.setEntry n e).entry n = e := by
  simp [Replica.entry, Replica.setEntry]

theorem Replica.setEntry_entry_other (r : Replica) {n m : Station} (e : RosterEntry) (h : m ≠ n) :
    (r.setEntry n e).entry m = r.entry m := by
  have hv : n.val ≠ m.val := fun hv => h (Fin.ext hv.symm)
  simp [Replica.entry, Replica.setEntry, hv]

/-! Walks over records. -/

/-- From r to q each of these records has come to what `out` says, the gate has opened if its holder's record went
(R37), and nothing else has changed. -/
structure Replica.Replaces (out : Claim → Option Claim) (cs : List Claim) (r q : Replica) : Prop where
  own : ∀ c ∈ cs, q.find c.key = out c
  other : ∀ k, (∀ c ∈ cs, c.key ≠ k) → q.find k = r.find k
  gate : ∀ k, q.gate = some k ↔ r.gate = some k ∧ ∀ c ∈ cs, c.key = k → out c ≠ none
  frame : q = { r with claims := q.claims, gate := q.gate }

theorem Replica.remove_replaces {r : Replica} {c : Claim} {out : Claim → Option Claim} (h : out c = none) :
    r.Replaces out [c] (r.remove c.key) where
  own := by simp [Replica.find_remove, h]
  other k hk := by simp [Replica.find_remove, (hk c (by simp)).symm]
  gate k := by simp [Replica.remove_gate_iff, h, @eq_comm _ c.key]
  frame := r.remove_frame c.key

theorem Replica.change_replaces {r : Replica} {c : Claim} {out : Claim → Option Claim} {f : Claim → Claim}
    (hc : r.find c.key = some c) (hf : ∀ d, (f d).key = d.key) (h : out c = some (f c)) :
    r.Replaces out [c] (r.change c.key f) where
  own := by simp [Replica.find_change r c.key c.key hf, hc, h]
  other k hk := by simp [Replica.find_change r c.key k hf, (hk c (by simp)).symm]
  gate k := by simp [Replica.change, h]
  frame := rfl

theorem Replica.replaces_refl {r : Replica} {c : Claim} {out : Claim → Option Claim} (hc : r.find c.key = some c)
    (h : out c = some c) : r.Replaces out [c] r where
  own := by simp [hc, h]
  other _ _ := rfl
  gate k := by simp [h]
  frame := rfl

/-- The records of a walk in turn, each of which stands until its own turn. -/
theorem foldl_replaces {step : Pass → Claim → Pass} {out : Claim → Option Claim}
    (hstep : ∀ (p : Pass) c, p.rep.find c.key = some c → p.rep.Replaces out [c] (step p c).rep) {l : List Claim}
    (hl : l.Pairwise fun a b => b.key ≠ a.key) {p : Pass} (hm : ∀ c ∈ l, p.rep.find c.key = some c) :
    p.rep.Replaces out l (l.foldl step p).rep := by
  induction l generalizing p with
  | nil => exact ⟨by simp, fun _ _ => rfl, by simp, rfl⟩
  | cons c l ih =>
    obtain ⟨hc, hl⟩ := List.pairwise_cons.mp hl
    have first := hstep p c (hm c (by simp))
    have rest := ih hl (p := step p c) fun d hd => by
      rw [first.other d.key (by simpa using (hc d hd).symm)]
      exact hm d (by simp [hd])
    refine ⟨List.forall_mem_cons.mpr ⟨?_, rest.own⟩, fun k hk => ?_, fun k => ?_, ?_⟩
    · rw [List.foldl_cons, rest.other c.key hc]
      exact first.own c (by simp)
    · obtain ⟨hck, hk⟩ := List.forall_mem_cons.mp hk
      rw [List.foldl_cons, rest.other k hk]
      exact first.other k (by simpa using hck)
    · rw [List.foldl_cons, rest.gate, first.gate, and_assoc, List.forall_mem_cons]
      simp
    · rw [List.foldl_cons, rest.frame, first.frame]

section
variable {out : Claim → Option Claim} {cs : List Claim} {r q : Replica}

theorem Replica.Replaces.phase (h : r.Replaces out cs q) : q.phase = r.phase := by rw [h.frame]
theorem Replica.Replaces.arrival (h : r.Replaces out cs q) : q.arrival = r.arrival := by rw [h.frame]
theorem Replica.Replaces.epoch (h : r.Replaces out cs q) : q.epoch = r.epoch := by rw [h.frame]
theorem Replica.Replaces.entry (h : r.Replaces out cs q) (n : Station) : q.entry n = r.entry n := by
  rw [h.frame]
  rfl

theorem Replica.Replaces.find_of_not_mem (h : r.Replaces out cs q) (hm : ∀ c ∈ cs, r.find c.key = some c) {k : Key}
    (hk : ∀ c, r.find k = some c → c ∉ cs) : q.find k = r.find k :=
  h.other k fun c hc hck => hk c (hck ▸ hm c hc) hc

/-- R37, as the statements say it: the gate stays with its holder where its record, if there was one, stays. -/
theorem Replica.Replaces.gate_iff (h : r.Replaces out cs q) (hm : ∀ c ∈ cs, r.find c.key = some c) (k : Key) :
    q.gate = some k ↔ r.gate = some k ∧ ((r.find k).isSome = true → (q.find k).isSome = true) := by
  rw [h.gate]
  refine and_congr_right fun _ => ⟨fun hout hs => ?_, fun hsome c hc hck => ?_⟩
  · by_cases hk : ∃ c ∈ cs, c.key = k
    · obtain ⟨c, hc, rfl⟩ := hk
      rw [h.own c hc]
      exact Option.isSome_iff_ne_none.mpr (hout c hc rfl)
    · rw [h.other k fun c hc hck => hk ⟨c, hc, hck⟩]
      exact hs
  · subst hck
    rw [h.own c hc, hm c hc] at hsome
    exact Option.isSome_iff_ne_none.mp (hsome rfl)

end

/-- These records, removed in order. -/
def Replica.removeEach (r : Replica) (cs : List Claim) : Replica := (removeAll { rep := r, log := [] } cs).rep

theorem Replica.removeEach_replaces {r : Replica} {cs : List Claim} (hcs : cs.Pairwise fun a b => b.key ≠ a.key)
    (hm : ∀ c ∈ cs, r.find c.key = some c) : r.Replaces (fun _ => none) cs (r.removeEach cs) :=
  foldl_replaces (fun _ _ _ => Replica.remove_replaces rfl) hcs (p := { rep := r, log := [] }) hm

/-! ABSENCE and RECLAIM. -/

/-- R108: what becomes of a record of the absent station. -/
def Claim.orphaned (c : Claim) : Option Claim :=
  match c.state with
  | .held => some { c with state := .orphaned, prior := some .held }
  | .trimmed => some { c with state := .orphaned, prior := some .trimmed }
  | .stuck => some { c with state := .orphaned, prior := some .stuck }
  | .waiting | .shed => if c.cls = .critical then some c else none
  | .orphaned => some c

theorem Claim.orphaned_of_queued {c : Claim} (hs : c.state = .waiting ∨ c.state = .shed) :
    c.orphaned = if c.cls = .critical then some c else none := by
  rcases hs with hs | hs <;> simp [Claim.orphaned, hs]

theorem orphanOne_replaces (p : Pass) (c : Claim) (hc : p.rep.find c.key = some c) :
    p.rep.Replaces Claim.orphaned [c] (orphanOne p c).rep := by
  unfold orphanOne
  dsimp only
  split
  case h_1 hs | h_2 hs | h_3 hs => exact Replica.change_replaces hc (fun _ => rfl) (by simp [Claim.orphaned, hs])
  case h_4 hs | h_5 hs =>
    split
    · rename_i hcls
      exact Replica.replaces_refl hc (by simp [Claim.orphaned_of_queued, hs, hcls])
    · rename_i hcls
      exact Replica.remove_replaces (by simp [Claim.orphaned_of_queued, hs, hcls])
  case h_6 hs => exact Replica.replaces_refl hc (by simp [Claim.orphaned, hs])

/-- R108: the records of the absent station, in order. -/
def Replica.orphanAll (r : Replica) (n : Station) : Replica :=
  ((r.claimsOf n).foldl orphanOne { rep := r, log := [] }).rep

theorem Replica.orphanAll_replaces {r : Replica} (h : r.Sound) (n : Station) :
    r.Replaces Claim.orphaned (r.claimsOf n) (r.orphanAll n) :=
  foldl_replaces orphanOne_replaces (h.claimsOf_pairwise n) (p := { rep := r, log := [] }) h.find_of_mem_claimsOf

theorem Claim.reclaimable_iff (c : Claim) :
    c.reclaimable = true ↔ c.state = .orphaned ∧ c.cls ≠ .critical ∧ c.prior ≠ some .stuck := by
  simp [Claim.reclaimable, and_assoc]

theorem Phase.cranking_iff (p : Phase) : p.cranking = true ↔ p = .crankPending ∨ p = .crank ∨ p = .recover := by
  cases p <;> simp [Phase.cranking]

/-- R50: the phase record at an ABSENCE, field by field. -/
theorem phaseAbsence_eq (n : Station) (p : PhaseRecord) :
    phaseAbsence n p = { p with
      ceiling := if p.supplyStation = some n then p.ceiling / 2 else p.ceiling
      reserve := if p.supplyStation = some n then Nat.min p.reserve (p.ceiling / 2) else p.reserve
      announced := if p.supplyStation = some n then false else p.announced
      supplyStation := if p.supplyStation = some n then none else p.supplyStation
      crankStation := if p.crankStation = some n then none else p.crankStation
      phase := if p.crankStation = some n ∧ (p.phase = .crankPending ∨ p.phase = .crank ∨ p.phase = .recover) then .stop
        else p.phase } := by
  by_cases hs : p.supplyStation = some n <;> by_cases hc : p.crankStation = some n <;>
    simp [phaseAbsence, supplyLost, crankLost, Phase.cranking_iff, hs, hc]

section
variable {f : Frame} {r : Replica} {b : Byte} {n : Station}

theorem peerChecks_ok (hp : r.isPresent f.sender = true) (hm : f.sync = .member) (hb : stationOf b = some n)
    (hn : n ≠ f.sender) : peerChecks f r b = .ok n := by
  simp [peerChecks, hp, hm, hb, hn]

/-- R107: an ABSENCE that passes the first three checks. -/
theorem absenceEffect_eq (hbody : f.body = .absence b) (hchecks : peerChecks f r b = .ok n) :
    (r.isPresent n = false → (absenceEffect f r).ignored = some .alreadyAbsent) ∧
    (r.isPresent n = true → (absenceEffect f r).ignored = none ∧
      (absenceEffect f r).rep = ((r.setPhase (phaseAbsence n r.phase)).orphanAll n).setEntry n .absent) := by
  simp only [absenceEffect, hbody, hchecks]
  exact ⟨fun h => by simp [h, OwnEffect.ignore], fun h => by rw [if_pos h]; exact ⟨rfl, rfl⟩⟩

/-- R111: a RECLAIM that passes the first three checks. -/
theorem reclaimEffect_eq (hbody : f.body = .reclaim b) (hchecks : peerChecks f r b = .ok n) :
    (r.isPresent n = true → (reclaimEffect f r).ignored = some .notAbsent) ∧
    (r.isPresent n = false → (reclaimEffect f r).ignored = none ∧
      (reclaimEffect f r).rep = r.removeEach ((r.claimsOf n).filter Claim.reclaimable)) := by
  simp only [reclaimEffect, hbody, hchecks]
  exact ⟨fun h => by simp [h, OwnEffect.ignore], fun h => by simp [h, OwnEffect.made, Replica.removeEach]⟩

end

/-- Settles O42: the frames' checks, then the walk that each takes over the peer's records. -/
theorem absenceAndReclaim : Obligations.AbsenceAndReclaim := by
  intro f r b n hr hp hm hb hpeer
  have hchecks := peerChecks_ok hp hm hb hpeer
  refine ⟨fun hbody => ?_, fun hbody => ?_⟩
  · obtain ⟨habsent, hpresent⟩ := absenceEffect_eq hbody hchecks
    have hwalk := Replica.orphanAll_replaces (hr.setPhase (phaseAbsence n r.phase)) n
    have hfound := (hr.setPhase (phaseAbsence n r.phase)).find_of_mem_claimsOf (n := n)
    dsimp only
    refine ⟨habsent, fun hn => ?_, fun hn => ?_, fun hn c hc => ?_⟩ <;>
      obtain ⟨hok, hrep⟩ := hpresent hn <;> rw [hrep]
    · exact ⟨hok, Replica.setEntry_entry_same _ _ _,
        fun m hmn => (Replica.setEntry_entry_other _ _ hmn).trans (hwalk.entry m)⟩
    · exact ⟨hwalk.phase.trans (phaseAbsence_eq n r.phase), hwalk.gate_iff hfound, hwalk.arrival, hwalk.epoch⟩
    · rw [Replica.setEntry_find]
      refine ⟨fun hother => ?_, fun hown => ?_⟩
      · refine (hwalk.find_of_not_mem hfound fun d hd hmem => ?_).trans hc
        exact hother (key_eq_of_findClaim hd ▸ (mem_claimsOf.mp hmem).2)
      · rw [hwalk.own c ((mem_claimsOf_of_find hc).mpr hown)]
        exact ⟨fun hs => by rw [Claim.orphaned, hs], fun hs => by rw [Claim.orphaned, hs],
          fun hs => by rw [Claim.orphaned, hs], fun hs hcls => by rw [Claim.orphaned_of_queued hs, if_neg hcls],
          fun hs hcls => by rw [Claim.orphaned_of_queued hs, if_pos hcls]⟩
  · obtain ⟨hpresent, habsent⟩ := reclaimEffect_eq hbody hchecks
    have hfound : ∀ c ∈ (r.claimsOf n).filter Claim.reclaimable, r.find c.key = some c :=
      fun c hc => hr.find_of_mem_claimsOf c (List.mem_of_mem_filter hc)
    have hwalk := Replica.removeEach_replaces ((hr.claimsOf_pairwise n).filter Claim.reclaimable) hfound
    dsimp only
    refine ⟨hpresent, fun hn => ?_⟩
    obtain ⟨hok, hrep⟩ := habsent hn
    rw [hrep]
    refine ⟨hok, hwalk.gate_iff hfound, hwalk.frame, fun c hc => ?_⟩
    have hmem : c ∈ (r.claimsOf n).filter Claim.reclaimable ↔
        c.key.station = n ∧ c.state = .orphaned ∧ c.cls ≠ .critical ∧ c.prior ≠ some .stuck := by
      rw [List.mem_filter, mem_claimsOf_of_find hc, Claim.reclaimable_iff]
    split
    · rename_i hgoes
      exact hwalk.own c (hmem.mpr hgoes)
    · rename_i hstays
      refine (hwalk.find_of_not_mem hfound fun d hd => ?_).trans hc
      obtain rfl : c = d := Option.some.inj (hc.symm.trans hd)
      exact fun h => hstays (hmem.mp h)

/-! LEAVE. -/

theorem leaveEffect_eq {f : Frame} {r : Replica} (hp : r.isPresent f.sender = true) :
    (leaveEffect f r).ignored = none ∧ (leaveEffect f r).rep =
      ((r.setPhase (phaseLeave f.sender r.phase)).removeEach (r.claimsOf f.sender)).setEntry f.sender .absent := by
  unfold leaveEffect
  rw [if_pos hp]
  exact ⟨rfl, rfl⟩

/-- R117, R37: removing every record of a station leaves the others, and the gate opens where one of them held it. -/
theorem Replica.removeEach_claimsOf {r : Replica} (h : r.Sound) (n : Station) :
    (∀ k, (r.removeEach (r.claimsOf n)).find k = if k.station = n then none else r.find k) ∧
    ∀ k, (r.removeEach (r.claimsOf n)).gate = some k ↔ r.gate = some k ∧ (k.station = n → r.find k = none) := by
  have hfound := h.find_of_mem_claimsOf (n := n)
  have hwalk := Replica.removeEach_replaces (h.claimsOf_pairwise n) hfound
  have hfind k : (r.removeEach (r.claimsOf n)).find k = if k.station = n then none else r.find k := by
    cases hk : r.find k with
    | none =>
      rw [ite_self, ← hk]
      exact hwalk.find_of_not_mem hfound fun c hc => by simp [hk] at hc
    | some c =>
      obtain rfl := key_eq_of_findClaim hk
      split
      · rename_i hn
        exact hwalk.own c ((mem_claimsOf_of_find hk).mpr hn)
      · rename_i hn
        refine (hwalk.find_of_not_mem hfound fun d hd hmem => ?_).trans hk
        exact hn (key_eq_of_findClaim hd ▸ (mem_claimsOf.mp hmem).2)
  refine ⟨hfind, fun k => ?_⟩
  rw [hwalk.gate_iff hfound, hfind]
  by_cases hn : k.station = n <;> simp [hn]

end Sys2Proof.Machine
end

section
/-! The own effect of JOIN (R113 to R115): role admission on the phase record, then one slot of the sender after the
other. A slot's walk touches the sender's own key for it alone, so the slot that a statement names is looked at between
the slots before it and those after it. -/

namespace Sys2Proof.Machine

/-! Role admission (R114). -/

/-- R50, R114: the phase record after role admission, field by field. -/
theorem admitRole_eq (role : Role) (sender : Station) (p : PhaseRecord) :
    admitRole role sender p = { p with
      crankStation := (admitPart role.crankPart p.crankStation sender).1
      supplyStation := (admitPart role.supplyPart p.supplyStation sender).1
      phase := if p.crankStation ≠ none ∧ (admitPart role.crankPart p.crankStation sender).1 = none ∧
          (p.phase = .crankPending ∨ p.phase = .crank ∨ p.phase = .recover) then .stop else p.phase } := by
  unfold admitRole
  dsimp only
  generalize (admitPart role.crankPart p.crankStation sender).1 = crank
  by_cases hlost : p.crankStation ≠ none ∧ crank = none
  · obtain ⟨hheld, rfl⟩ := hlost
    simp [crankLost, Phase.cranking_iff, Option.isSome_iff_ne_none, hheld]
  · rw [if_neg (by simpa [Option.isSome_iff_ne_none] using hlost),
      if_neg fun h => hlost ⟨h.1, h.2.1⟩]

/-! A slot's record goes. -/

/-- The record of the key goes, if there is one; without one the gate stays as it is. -/
def Replica.vacate (r : Replica) (k : Key) : Replica :=
  match r.find k with
  | none => r
  | some _ => r.remove k

theorem Replica.vacate_of_none {r : Replica} {k : Key} (h : r.find k = none) : r.vacate k = r := by
  simp [Replica.vacate, h]

theorem Replica.vacate_of_some {r : Replica} {k : Key} {c : Claim} (h : r.find k = some c) :
    r.vacate k = r.remove k := by
  simp [Replica.vacate, h]

theorem Replica.find_vacate (r : Replica) (k j : Key) : (r.vacate k).find j = if j = k then none else r.find j := by
  cases h : r.find k with
  | none =>
    rw [Replica.vacate_of_none h]
    split
    · rename_i hj
      rw [hj, h]
    · rfl
  | some c => rw [Replica.vacate_of_some h, Replica.find_remove]

theorem Replica.vacate_gate_iff (r : Replica) (k j : Key) :
    (r.vacate k).gate = some j ↔ r.gate = some j ∧ (j = k → r.find k = none) := by
  cases h : r.find k with
  | none => simp [Replica.vacate_of_none h]
  | some c => simp [Replica.vacate_of_some h, Replica.remove_gate_iff]

theorem Replica.vacate_gate_ne (r : Replica) {k : Key} (h : (r.find k).isSome = true) :
    ¬ (r.vacate k).gate = some k := by
  rw [Replica.vacate_gate_iff]
  rintro ⟨_, hn⟩
  simp [hn rfl] at h

theorem Replica.vacate_frame (r : Replica) (k : Key) :
    r.vacate k = { r with claims := (r.vacate k).claims, gate := (r.vacate k).gate } := by
  cases h : r.find k with
  | none => rw [Replica.vacate_of_none h]
  | some c =>
    rw [Replica.vacate_of_some h]
    exact r.remove_frame k

theorem Replica.vacate_arrival (r : Replica) (k : Key) : (r.vacate k).arrival = r.arrival := by
  rw [Replica.vacate_frame]

/-! A record resumes, or a new one enters. -/

/-- R115: the record that a resumed one is. -/
def Claim.resumed (c : Claim) : Claim :=
  match c.state, c.prior with
  | .orphaned, some prior => { c with state := prior.state, prior := none }
  | _, _ => c

/-- R115, resume: an ORPHANED record with its prior state changes, any other stays. -/
theorem resumeClaim_cases (c : Claim) (p : Pass) :
    (∃ f : Claim → Claim, (∀ d, (f d).key = d.key) ∧ c.resumed = f c ∧
      (resumeClaim c p).rep = p.rep.change c.key f) ∨
    (c.resumed = c ∧ (resumeClaim c p).rep = p.rep) := by
  unfold resumeClaim
  split
  · rename_i prior hs hp
    exact .inl ⟨fun d => { d with state := prior.state, prior := none }, fun _ => rfl,
      by simp [Claim.resumed, hs, hp], rfl⟩
  · rename_i hno
    refine .inr ⟨?_, rfl⟩
    unfold Claim.resumed
    split
    · rename_i hs hp
      exact (hno _ hs hp).elim
    · rfl

theorem resumeClaim_find {p : Pass} {c : Claim} (hc : p.rep.find c.key = some c) (j : Key) :
    (resumeClaim c p).rep.find j = if j = c.key then some c.resumed else p.rep.find j := by
  rcases resumeClaim_cases c p with ⟨f, hkey, hresumed, hrep⟩ | ⟨hresumed, hrep⟩
  · rw [hrep, hresumed, Replica.find_change _ _ _ hkey]
    split
    · rename_i hj
      rw [hj, hc]
      rfl
    · rfl
  · rw [hrep, hresumed]
    split
    · rename_i hj
      rw [hj, hc]
    · rfl

theorem resumeClaim_frame (c : Claim) (p : Pass) :
    (resumeClaim c p).rep = { p.rep with claims := (resumeClaim c p).rep.claims } := by
  unfold resumeClaim
  split <;> rfl

section
variable {sender : Station} {cls : LoadClass} {e : EntryField} {outcome : JoinOutcome} {x : Reconciled}

theorem enterEntry_of_lt (h : x.pass.rep.arrival < 4294967295) :
    (enterEntry sender cls e outcome x).pass.rep =
      x.pass.rep.enter (newClaim ⟨sender, e.slot⟩ cls e.requested e.minimum x.pass.rep.arrival) :=
  congrArg (fun y : Reconciled => y.pass.rep) (if_pos h)

theorem enterEntry_of_le (h : 4294967295 ≤ x.pass.rep.arrival) :
    (enterEntry sender cls e outcome x).pass = x.pass := by
  have hn : ¬ x.pass.rep.arrival < Config.arrivalLimit := not_lt.mpr h
  simp [enterEntry, hn]

theorem enterEntry_gate : (enterEntry sender cls e outcome x).pass.rep.gate = x.pass.rep.gate := by
  unfold enterEntry
  dsimp only
  split <;> rfl

theorem enterEntry_outcomes : x.outcomes ⊆ (enterEntry sender cls e outcome x).outcomes := by
  unfold enterEntry
  dsimp only
  split <;> exact List.subset_append_left _ _

end

/-! One slot against its entry. -/

/-- R115: the entry resumes the record: was-on is set, and class and requested amount are the record's. -/
def EntryField.Resumes (e : EntryField) (cls : LoadClass) (c : Claim) : Prop :=
  e.wasOn = true ∧ c.cls = cls ∧ c.requested = e.requested.toNat

theorem EntryField.not_resumes_iff {e : EntryField} {cls : LoadClass} {c : Claim} :
    ¬ e.Resumes cls c ↔ e.wasOn = false ∨ c.cls ≠ cls ∨ c.requested ≠ e.requested.toNat := by
  simp only [EntryField.Resumes, not_and_or, Bool.not_eq_true, ne_eq]

section
variable {sender : Station} {caps : Vector Capability 4} {entries : List EntryField} {x : Reconciled} {s : SlotNo}
  {e : EntryField}

theorem reconcileSlot_of_noEntry (he : entryFor s entries = none) :
    (reconcileSlot sender caps entries x s).pass.rep = x.pass.rep.vacate ⟨sender, s⟩ ∧
      x.outcomes ⊆ (reconcileSlot sender caps entries x s).outcomes := by
  cases hc : x.pass.rep.find ⟨sender, s⟩ with
  | none => simp [reconcileSlot, he, hc, Replica.vacate_of_none hc]
  | some c => simp [reconcileSlot, he, hc, Replica.vacate_of_some hc, key_eq_of_findClaim hc]

theorem reconcileSlot_of_failure (he : entryFor s entries = some e) {cause : IgnoreCause}
    (hf : entryFailure caps [] e = some cause) :
    (reconcileSlot sender caps entries x s).pass.rep = x.pass.rep.vacate ⟨sender, s⟩ ∧
      (reconcileSlot sender caps entries x s).outcomes = x.outcomes ++ [(s, .discarded cause)] := by
  cases hc : x.pass.rep.find ⟨sender, s⟩ with
  | none => simp [reconcileSlot, he, hf, hc, Replica.vacate_of_none hc]
  | some c => simp [reconcileSlot, he, hf, hc, Replica.vacate_of_some hc, key_eq_of_findClaim hc]

theorem reconcileSlot_of_resumes (he : entryFor s entries = some e) (hf : entryFailure caps [] e = none) {c : Claim}
    (hc : x.pass.rep.find ⟨sender, s⟩ = some c) (hr : e.Resumes caps[s.val].cls c) :
    reconcileSlot sender caps entries x s =
      { pass := resumeClaim c x.pass, outcomes := x.outcomes ++ [(s, .resumed)] } := by
  obtain ⟨hon, hcls, hreq⟩ := hr
  simp [reconcileSlot, he, hf, hc, hon, hcls, hreq]

/-- R115: an entry in order that resumes nothing enters into the vacated slot. -/
theorem reconcileSlot_of_enters (he : entryFor s entries = some e) (hf : entryFailure caps [] e = none)
    (hn : ∀ c, x.pass.rep.find ⟨sender, s⟩ = some c → ¬ e.Resumes caps[s.val].cls c) :
    ∃ outcome y, reconcileSlot sender caps entries x s = enterEntry sender caps[s.val].cls e outcome y ∧
      y.pass.rep = x.pass.rep.vacate ⟨sender, s⟩ ∧ y.outcomes = x.outcomes := by
  cases hc : x.pass.rep.find ⟨sender, s⟩ with
  | none => exact ⟨.entered, x, by simp [reconcileSlot, he, hf, hc], (Replica.vacate_of_none hc).symm, rfl⟩
  | some c =>
    refine ⟨.replaced, { x with pass := { rep := x.pass.rep.remove c.key, log := x.pass.log ++ [removed c] } }, ?_, ?_,
      rfl⟩
    · have hno := hn c hc
      simp only [reconcileSlot, he, hf, hc]
      rw [if_neg (by simpa [EntryField.Resumes, and_assoc] using hno)]
    · rw [key_eq_of_findClaim hc, Replica.vacate_of_some hc]

end

/-! What the slots leave alone. -/

/-- From x to y the walk has reconciled these slots of the sender: other keys' records, and the gate under them, stay,
and each slot takes at most one arrival number. -/
structure Reconciled.Touches (sender : Station) (slots : List SlotNo) (x y : Reconciled) : Prop where
  phase : y.pass.rep.phase = x.pass.rep.phase
  roster : y.pass.rep.roster = x.pass.rep.roster
  find : ∀ k, (∀ s ∈ slots, k ≠ ⟨sender, s⟩) → y.pass.rep.find k = x.pass.rep.find k
  gate : ∀ k, (∀ s ∈ slots, k ≠ ⟨sender, s⟩) → (y.pass.rep.gate = some k ↔ x.pass.rep.gate = some k)
  arrival_ge : x.pass.rep.arrival ≤ y.pass.rep.arrival
  arrival_le : y.pass.rep.arrival ≤ x.pass.rep.arrival + slots.length
  outcomes : x.outcomes ⊆ y.outcomes

theorem Reconciled.Touches.entry {sender : Station} {slots : List SlotNo} {x y : Reconciled}
    (h : x.Touches sender slots y) (m : Station) : y.pass.rep.entry m = x.pass.rep.entry m := by
  unfold Replica.entry
  rw [h.roster]

theorem Reconciled.Touches.nil (sender : Station) (x : Reconciled) : x.Touches sender [] x :=
  ⟨rfl, rfl, fun _ _ => rfl, fun _ _ => .rfl, le_rfl, le_rfl, List.Subset.refl _⟩

theorem Reconciled.Touches.append {sender : Station} {before after : List SlotNo} {x y z : Reconciled}
    (h : x.Touches sender before y) (g : y.Touches sender after z) : x.Touches sender (before ++ after) z where
  phase := g.phase.trans h.phase
  roster := g.roster.trans h.roster
  find k hk := by
    obtain ⟨hb, ha⟩ := List.forall_mem_append.mp hk
    exact (g.find k ha).trans (h.find k hb)
  gate k hk := by
    obtain ⟨hb, ha⟩ := List.forall_mem_append.mp hk
    exact (g.gate k ha).trans (h.gate k hb)
  arrival_ge := h.arrival_ge.trans g.arrival_ge
  arrival_le := by
    have := h.arrival_le
    have := g.arrival_le
    rw [List.length_append]
    omega
  outcomes := List.Subset.trans h.outcomes g.outcomes

section
variable {sender : Station} {s : SlotNo} {x y : Reconciled}

theorem Reconciled.Touches.of_vacate (h : y.pass.rep = x.pass.rep.vacate ⟨sender, s⟩) (ho : x.outcomes ⊆ y.outcomes) :
    x.Touches sender [s] y where
  phase := by rw [h, Replica.vacate_frame]
  roster := by rw [h, Replica.vacate_frame]
  find k hk := by rw [h, Replica.find_vacate, if_neg (by simpa using hk)]
  gate k hk := by
    rw [h, Replica.vacate_gate_iff]
    exact and_iff_left fun he => absurd he (by simpa using hk)
  arrival_ge := by rw [h, Replica.vacate_arrival]
  arrival_le := by
    rw [h, Replica.vacate_arrival]
    exact Nat.le_add_right _ _
  outcomes := ho

theorem Reconciled.Touches.of_resume {c : Claim} (hc : x.pass.rep.find ⟨sender, s⟩ = some c)
    (h : y.pass = resumeClaim c x.pass) (ho : x.outcomes ⊆ y.outcomes) : x.Touches sender [s] y where
  phase := by rw [h, resumeClaim_frame]
  roster := by rw [h, resumeClaim_frame]
  find k hk := by
    have hkey := key_eq_of_findClaim hc
    rw [h, resumeClaim_find (by rw [hkey]; exact hc), hkey, if_neg (by simpa using hk)]
  gate k _ := by rw [h, resumeClaim_frame]
  arrival_ge := by rw [h, resumeClaim_frame]
  arrival_le := by
    rw [h, resumeClaim_frame]
    exact Nat.le_add_right _ _
  outcomes := ho

theorem Reconciled.Touches.of_enter {cls : LoadClass} {e : EntryField} {outcome : JoinOutcome} (he : e.slot = s)
    {z : Reconciled} (h : x.Touches sender [s] z) (ha : z.pass.rep.arrival = x.pass.rep.arrival) :
    x.Touches sender [s] (enterEntry sender cls e outcome z) := by
  rcases Nat.lt_or_ge z.pass.rep.arrival 4294967295 with hlt | hge
  · have hrep := enterEntry_of_lt (sender := sender) (cls := cls) (e := e) (outcome := outcome) hlt
    refine ⟨by rw [hrep]; exact h.phase, by rw [hrep]; exact h.roster, fun k hk => ?_, fun k hk => ?_, ?_, ?_,
      List.Subset.trans h.outcomes enterEntry_outcomes⟩
    · rw [hrep, Replica.find_enter_other _ (by simpa [newClaim, he] using hk)]
      exact h.find k hk
    · rw [hrep]
      exact h.gate k hk
    · rw [hrep]
      exact ha ▸ Nat.le_succ _
    · rw [hrep]
      exact ha ▸ le_rfl
  · have hrep := enterEntry_of_le (sender := sender) (cls := cls) (e := e) (outcome := outcome) hge
    exact ⟨by rw [hrep]; exact h.phase, by rw [hrep]; exact h.roster, by rw [hrep]; exact h.find,
      by rw [hrep]; exact h.gate, by rw [hrep]; exact h.arrival_ge, by rw [hrep]; exact h.arrival_le,
      List.Subset.trans h.outcomes enterEntry_outcomes⟩

end

/-- R115: reconciling one slot touches that slot alone. -/
theorem reconcileSlot_touches (sender : Station) (caps : Vector Capability 4) (entries : List EntryField)
    (x : Reconciled) (s : SlotNo) : x.Touches sender [s] (reconcileSlot sender caps entries x s) := by
  cases he : entryFor s entries with
  | none =>
    obtain ⟨hrep, ho⟩ := reconcileSlot_of_noEntry (sender := sender) (caps := caps) (x := x) he
    exact .of_vacate hrep ho
  | some e =>
    cases hf : entryFailure caps [] e with
    | some cause =>
      obtain ⟨hrep, ho⟩ := reconcileSlot_of_failure (sender := sender) (x := x) he hf
      exact .of_vacate hrep (ho ▸ List.subset_append_left _ _)
    | none =>
      by_cases hr : ∃ c, x.pass.rep.find ⟨sender, s⟩ = some c ∧ e.Resumes caps[s.val].cls c
      · obtain ⟨c, hc, hr⟩ := hr
        rw [reconcileSlot_of_resumes he hf hc hr]
        exact .of_resume hc rfl (List.subset_append_left _ _)
      · obtain ⟨outcome, y, heq, hrep, ho⟩ := reconcileSlot_of_enters he hf fun c hc h => hr ⟨c, hc, h⟩
        rw [heq]
        exact .of_enter (slot_of_entryFor he) (.of_vacate hrep (ho ▸ List.Subset.refl _))
          (by rw [hrep, Replica.vacate_arrival])

theorem foldl_reconcileSlot_touches (sender : Station) (caps : Vector Capability 4) (entries : List EntryField)
    (slots : List SlotNo) (x : Reconciled) :
    x.Touches sender slots (slots.foldl (reconcileSlot sender caps entries) x) := by
  induction slots generalizing x with
  | nil => exact .nil sender x
  | cons s slots ih => exact (reconcileSlot_touches sender caps entries x s).append (ih _)

/-! One slot among the four. -/

/-- Reconciliation of r, before its first slot. -/
def Reconciled.start (r : Replica) : Reconciled := { pass := { rep := r, log := [] }, outcomes := [] }

/-- R113, R115: the four slots of the sender against the JOIN's entries. -/
def Replica.reconcile (r : Replica) (sender : Station) (caps : Vector Capability 4) (entries : List EntryField) :
    Reconciled :=
  allSlots.foldl (reconcileSlot sender caps entries) (.start r)

section
variable {r : Replica} {sender : Station} {caps : Vector Capability 4} {entries : List EntryField} {s : SlotNo}
  {e : EntryField}

theorem Replica.reconcile_touches (r : Replica) (sender : Station) (caps : Vector Capability 4)
    (entries : List EntryField) :
    (Reconciled.start r).Touches sender allSlots (r.reconcile sender caps entries) :=
  foldl_reconcileSlot_touches sender caps entries allSlots _

/-- A slot of the walk, looked at in its turn: y stands as r for the slot's key, and what its turn makes of the key is
what the walk leaves. -/
theorem Replica.reconcile_at (r : Replica) (sender : Station) (caps : Vector Capability 4) (entries : List EntryField)
    (s : SlotNo) : ∃ y : Reconciled,
      y.pass.rep.find ⟨sender, s⟩ = r.find ⟨sender, s⟩ ∧
      (y.pass.rep.gate = some ⟨sender, s⟩ ↔ r.gate = some ⟨sender, s⟩) ∧
      (r.arrival ≤ y.pass.rep.arrival ∧ y.pass.rep.arrival < r.arrival + 4) ∧
      let turn := reconcileSlot sender caps entries y s
      let after := r.reconcile sender caps entries
      after.pass.rep.find ⟨sender, s⟩ = turn.pass.rep.find ⟨sender, s⟩ ∧
      (after.pass.rep.gate = some ⟨sender, s⟩ ↔ turn.pass.rep.gate = some ⟨sender, s⟩) ∧
      turn.outcomes ⊆ after.outcomes := by
  have hs : s ∈ allSlots := by
    revert s
    decide
  have hnodup : allSlots.Nodup := by decide
  have hlength : allSlots.length = 4 := rfl
  obtain ⟨before, after, hsplit⟩ := List.append_of_mem hs
  rw [hsplit] at hnodup hlength
  have hb : s ∉ before := fun h => List.disjoint_of_nodup_append hnodup h (by simp)
  have ha : s ∉ after := (List.nodup_cons.mp (List.Nodup.of_append_right hnodup)).1
  have hother {slots : List SlotNo} (hn : s ∉ slots) : ∀ t ∈ slots, (⟨sender, s⟩ : Key) ≠ ⟨sender, t⟩ := by
    rintro t ht heq
    cases heq
    exact hn ht
  have hbefore := foldl_reconcileSlot_touches sender caps entries before (.start r)
  have hwalk : r.reconcile sender caps entries = after.foldl (reconcileSlot sender caps entries)
      (reconcileSlot sender caps entries (before.foldl (reconcileSlot sender caps entries) (.start r)) s) := by
    rw [Replica.reconcile, hsplit, List.foldl_append, List.foldl_cons]
  generalize before.foldl (reconcileSlot sender caps entries) (.start r) = y at hbefore hwalk
  have hafter := foldl_reconcileSlot_touches sender caps entries after (reconcileSlot sender caps entries y s)
  rw [← hwalk] at hafter
  have harrival : y.pass.rep.arrival < r.arrival + 4 := by
    have hle : y.pass.rep.arrival ≤ r.arrival + before.length := hbefore.arrival_le
    simp only [List.length_append, List.length_cons] at hlength
    omega
  exact ⟨y, hbefore.find _ (hother hb), hbefore.gate _ (hother hb), ⟨hbefore.arrival_ge, harrival⟩,
    hafter.find _ (hother ha), hafter.gate _ (hother ha), hafter.outcomes⟩

/-- A slot with no entry is left with no record. -/
theorem Replica.reconcile_of_noEntry (he : entryFor s entries = none) :
    (r.reconcile sender caps entries).pass.rep.find ⟨sender, s⟩ = none ∧
      ((r.find ⟨sender, s⟩).isSome = true → (r.reconcile sender caps entries).pass.rep.gate ≠ some ⟨sender, s⟩) := by
  obtain ⟨y, hfind, _, _, hfind', hgate', _⟩ := r.reconcile_at sender caps entries s
  obtain ⟨hrep, _⟩ := reconcileSlot_of_noEntry (sender := sender) (caps := caps) (x := y) he
  rw [hfind', Ne, hgate', hrep, ← hfind]
  exact ⟨by simp [Replica.find_vacate], y.pass.rep.vacate_gate_ne⟩

/-- R113, log entry 39: nor is one whose entry fails a check, which is reported as discarded. -/
theorem Replica.reconcile_of_failure (he : entryFor s entries = some e) {cause : IgnoreCause}
    (hf : entryFailure caps [] e = some cause) :
    (r.reconcile sender caps entries).pass.rep.find ⟨sender, s⟩ = none ∧
      (s, .discarded cause) ∈ (r.reconcile sender caps entries).outcomes ∧
      ((r.find ⟨sender, s⟩).isSome = true → (r.reconcile sender caps entries).pass.rep.gate ≠ some ⟨sender, s⟩) := by
  obtain ⟨y, hfind, _, _, hfind', hgate', ho⟩ := r.reconcile_at sender caps entries s
  obtain ⟨hrep, hout⟩ := reconcileSlot_of_failure (sender := sender) (x := y) he hf
  rw [hfind', Ne, hgate', hrep, ← hfind]
  exact ⟨by simp [Replica.find_vacate], ho (by simp [hout]), y.pass.rep.vacate_gate_ne⟩

/-- R115: an entry that resumes its slot's record, which keeps the gate if it holds it. -/
theorem Replica.reconcile_of_resumes (he : entryFor s entries = some e) (hf : entryFailure caps [] e = none) {c : Claim}
    (hc : r.find ⟨sender, s⟩ = some c) (hr : e.Resumes caps[s.val].cls c) :
    (r.reconcile sender caps entries).pass.rep.find ⟨sender, s⟩ = some c.resumed ∧
      ((r.reconcile sender caps entries).pass.rep.gate = some ⟨sender, s⟩ ↔ r.gate = some ⟨sender, s⟩) := by
  obtain ⟨y, hfind, hgate, _, hfind', hgate', _⟩ := r.reconcile_at sender caps entries s
  have hcy := hfind.trans hc
  have hkey := key_eq_of_findClaim hcy
  rw [hfind', hgate', reconcileSlot_of_resumes he hf hcy hr]
  refine ⟨?_, ?_⟩
  · rw [resumeClaim_find (by rw [hkey]; exact hcy), if_pos hkey.symm]
  · rw [resumeClaim_frame]
    exact hgate

/-- R115, R37: an entry that resumes nothing opens the gate that its slot's record held, and enters as a new record. -/
theorem Replica.reconcile_of_enters (he : entryFor s entries = some e) (hf : entryFailure caps [] e = none)
    (hn : ∀ c, r.find ⟨sender, s⟩ = some c → ¬ e.Resumes caps[s.val].cls c) :
    ((r.find ⟨sender, s⟩).isSome = true → (r.reconcile sender caps entries).pass.rep.gate ≠ some ⟨sender, s⟩) ∧
      (r.arrival + 4 ≤ 4294967295 → ∃ arrival, r.arrival ≤ arrival ∧ arrival < r.arrival + 4 ∧
        (r.reconcile sender caps entries).pass.rep.find ⟨sender, s⟩ =
          some (newClaim ⟨sender, s⟩ caps[s.val].cls e.requested e.minimum arrival)) := by
  obtain ⟨y, hfind, _, ⟨hge, hlt⟩, hfind', hgate', _⟩ := r.reconcile_at sender caps entries s
  obtain ⟨outcome, z, heq, hrep, _⟩ := reconcileSlot_of_enters (sender := sender) (x := y) he hf (hfind ▸ hn)
  obtain rfl := slot_of_entryFor he
  rw [hfind', Ne, hgate', heq, enterEntry_gate, hrep, ← hfind]
  refine ⟨y.pass.rep.vacate_gate_ne, fun hroom => ⟨y.pass.rep.arrival, hge, hlt, ?_⟩⟩
  have ha : z.pass.rep.arrival = y.pass.rep.arrival := by rw [hrep, Replica.vacate_arrival]
  rw [enterEntry_of_lt (by omega), ha]
  exact Replica.find_enter_same (by simp [newClaim, hrep, Replica.find_vacate])

end

/-! The frame. -/

/-- R114: the replica that a JOIN reconciles: roles admitted, and the sender's roster entry written. -/
def Replica.joined (r : Replica) (sender : Station) (role : Role) (caps : Vector Capability 4) : Replica :=
  (r.setPhase (admitRole role sender r.phase)).setEntry sender
    { present := true
      role := roleOf (admitPart role.crankPart r.phase.crankStation sender).2.1
        (admitPart role.supplyPart r.phase.supplyStation sender).2.1
      caps := caps }

/-- R113: a JOIN whose role and used capabilities are in range. -/
theorem joinEffect_eq {f : Frame} {r : Replica} {roleByte : Byte} {c0 c1 c2 c3 : CapabilityField}
    {entries : List EntryField} {role : Role} {k0 k1 k2 k3 : Capability}
    (hbody : f.body = .join roleByte c0 c1 c2 c3 entries) (hrole : Role.ofCode roleByte.toNat = some role)
    (h0 : c0.capability = some k0) (h1 : c1.capability = some k1) (h2 : c2.capability = some k2)
    (h3 : c3.capability = some k3) (hlen : entries.length ≤ 4) :
    (joinEffect f r).ignored = none ∧
    (joinEffect f r).rep =
      ((r.joined f.sender role #v[k0, k1, k2, k3]).reconcile f.sender #v[k0, k1, k2, k3] entries).pass.rep ∧
    (joinEffect f r).outcomes =
      ((r.joined f.sender role #v[k0, k1, k2, k3]).reconcile f.sender #v[k0, k1, k2, k3] entries).outcomes := by
  simp only [joinEffect, hbody, hrole, h0, h1, h2, h3]
  rw [if_pos hlen]
  exact ⟨rfl, rfl, rfl⟩

/-- Settles O43: a LEAVE removes each record of its sender; a JOIN is looked at slot by slot. -/
theorem joinAndLeave : Obligations.JoinAndLeave := by
  intro f r hr
  refine ⟨fun hbody hp => ?_, ?_⟩
  · obtain ⟨hok, hrep⟩ := leaveEffect_eq hp
    have hsound := hr.setPhase (phaseLeave f.sender r.phase)
    have hwalk := Replica.removeEach_replaces (hsound.claimsOf_pairwise f.sender) hsound.find_of_mem_claimsOf
    obtain ⟨hfind, hgate⟩ := Replica.removeEach_claimsOf hsound f.sender
    dsimp only
    rw [hrep]
    exact ⟨hok, Replica.setEntry_entry_same _ _ _,
      fun m hm => (Replica.setEntry_entry_other _ _ hm).trans (hwalk.entry m), hwalk.phase, hfind, hgate⟩
  · intro roleByte c0 c1 c2 c3 entries role k0 k1 k2 k3 hbody hrole h0 h1 h2 h3 hlen
    obtain ⟨hok, hrep, hout⟩ := joinEffect_eq (r := r) hbody hrole h0 h1 h2 h3 hlen
    dsimp only
    generalize #v[k0, k1, k2, k3] = caps at hrep hout ⊢
    have htouch := (r.joined f.sender role caps).reconcile_touches f.sender caps entries
    rw [hrep, hout]
    refine ⟨hok, (htouch.entry _).trans (Replica.setEntry_entry_same _ _ _),
      fun m hm => (htouch.entry m).trans (Replica.setEntry_entry_other _ _ hm),
      htouch.phase.trans (admitRole_eq role f.sender r.phase), fun k hk => ?_, fun slot => ⟨fun he => ?_, ?_, ?_⟩⟩
    · have hother : ∀ s ∈ allSlots, k ≠ ⟨f.sender, s⟩ := fun s _ h => hk (by rw [h])
      exact ⟨htouch.find k hother, htouch.gate k hother⟩
    · exact Replica.reconcile_of_noEntry he
    · exact fun entry cause he hf => Replica.reconcile_of_failure he hf
    · refine fun entry he hf => ⟨fun c hc hon hcls hreq => ?_, fun c hc hno => ?_, fun hno => ?_⟩
      · exact Replica.reconcile_of_resumes he hf hc ⟨hon, hcls, hreq⟩
      · refine (Replica.reconcile_of_enters (r := r.joined f.sender role caps) he hf fun d hd => ?_).1
        obtain rfl : c = d := Option.some.inj (hc.symm.trans hd)
        exact EntryField.not_resumes_iff.mpr hno
      · exact (Replica.reconcile_of_enters (r := r.joined f.sender role caps) he hf fun c hc =>
          EntryField.not_resumes_iff.mpr (hno c hc)).2

end Sys2Proof.Machine
end

section
/-! What pin reset leaves, what a settled state shows, and the own effects of PHASE, BUDGET, SHED_REQUEST and LIFT (R45,
R46, R49, R52, R53). -/

namespace Sys2Proof.Machine

/-- Settles O6: a settled enable is the rule's, and the rule keeps a low class off while SHED# is low. -/
theorem settledEnables : Obligations.SettledEnables := by
  intro s hs
  refine ⟨hs.enable, fun hlow i v hc hv hl => ?_⟩
  rw [State.enabled, hs.enable]
  cases h : (s.slot i).state <;> simp_all [State.enableRule]

/-- After reset every slot record is as the state requires it. -/
theorem reset_settled : State.reset.Settled :=
  ⟨fun i => by match i with | 0 => rfl | 1 => rfl | 2 => rfl | 3 => rfl, by decide⟩

/-- Settles O4: the values are those of the reset state; with empty queues, an idle crank and no replica, each invariant
holds. -/
theorem resetLeaves : Obligations.ResetLeaves := by
  refine ⟨?_, reset_settled, ?_, ?_, ?_, ?_, ?_⟩
  · refine ⟨rfl, rfl, rfl, rfl, rfl, rfl, rfl, rfl, rfl, rfl, rfl, rfl, rfl, by decide, by decide, rfl, rfl, rfl, rfl, rfl,
      rfl, fun k => ?_, rfl, rfl, rfl, rfl, rfl, rfl, rfl, rfl, rfl, rfl⟩
    cases k <;> rfl
  · exact ⟨by decide, by decide, by decide, by decide, by decide⟩
  · intro f hf
    cases hf
  · exact ⟨fun h => (Bool.false_ne_true h).elim, fun h => absurd rfl h⟩
  · exact fun h => (Bool.false_ne_true h).elim
  · exact fun r hr => by cases hr

section
variable {f : Frame} {r : Replica} {code : BitVec 3} {attempts : BitVec 2}

theorem phaseEffect_absent (hb : f.body = .phase code attempts) (hp : r.isPresent f.sender = false) :
    phaseEffect f r = .ignore r .absentSender := by
  simp [phaseEffect, hb, hp]

theorem phaseEffect_notRole (hb : f.body = .phase code attempts) (hp : r.isPresent f.sender = true)
    (hc : r.phase.crankStation ≠ some f.sender) : phaseEffect f r = .ignore r .notRole := by
  simp [phaseEffect, hb, hp, hc]

theorem phaseEffect_badField (hb : f.body = .phase code attempts) (hp : r.isPresent f.sender = true)
    (hc : r.phase.crankStation = some f.sender) (hn : Phase.ofCode code.toNat = none) :
    phaseEffect f r = .ignore r .badField := by
  simp [phaseEffect, hb, hp, hc, hn]

/-- R46: a PHASE of the crank station makes its step, where it is legal. -/
theorem phaseEffect_named (hb : f.body = .phase code attempts) (hp : r.isPresent f.sender = true)
    (hc : r.phase.crankStation = some f.sender) {new : Phase} (hn : Phase.ofCode code.toNat = some new) :
    phaseEffect f r = match phaseStep r.phase.phase new attempts with
      | none => .ignore r .illegalStep
      | some value => .made { r with phase :=
          { r.phase with phase := new, attempts := value, brownout := r.phase.brownout && new != .run } } [] := by
  simp only [phaseEffect, hb, hp, hc, hn, if_true] <;> rfl

end

/-- Settles O39: the checks of R45 in their order, and then every pair of the present phase and a new one. -/
theorem phaseSteps : Obligations.PhaseSteps := by
  intro f r code attempts hb
  refine ⟨fun hp => by rw [phaseEffect_absent hb hp]; rfl, fun hp hc => by rw [phaseEffect_notRole hb hp hc]; rfl,
    fun hp hc => ⟨fun hn => by rw [phaseEffect_badField hb hp hc hn]; rfl, fun new hn => ?_⟩⟩
  dsimp only
  rw [phaseEffect_named hb hp hc hn]
  cases r.phase.phase <;> cases new <;> simp [phaseStep, OwnEffect.made, OwnEffect.ignore]
  split <;> simp

section
variable {f : Frame} {r : Replica}

/-- R49: a BUDGET, by its checks in their order. -/
theorem budgetEffect_eq {ceiling reserve : Half} (hb : f.body = .budget ceiling reserve) :
    budgetEffect f r =
      if r.isPresent f.sender = false then .ignore r .absentSender
      else if r.phase.supplyStation ≠ some f.sender then .ignore r .notRole
      else if 1600 < ceiling.toNat ∨ ceiling.toNat < reserve.toNat then .ignore r .badField
      else { OwnEffect.made { r with phase :=
          { r.phase with ceiling := ceiling.toNat, reserve := reserve.toNat, announced := true, brownout := false } } []
        with phaseCause := .budget } := by
  have hrange : (1600 < ceiling.toNat ∨ ceiling.toNat < reserve.toNat) ↔
      ¬ (ceiling.toNat ≤ Config.ceilingLimit ∧ reserve.toNat ≤ ceiling.toNat) := by
    simp only [Config.ceilingLimit]
    omega
  simp only [budgetEffect, hb, firstFailure, hrange]
  cases r.isPresent f.sender <;> by_cases hs : r.phase.supplyStation = some f.sender <;>
    by_cases hc : ceiling.toNat ≤ Config.ceilingLimit ∧ reserve.toNat ≤ ceiling.toNat <;> simp [hs, hc]

/-- R52: a SHED_REQUEST, by its checks in their order. -/
theorem shedRequestEffect_eq {cause sample : Byte} (hb : f.body = .shedRequest cause sample) :
    shedRequestEffect f r =
      if r.isPresent f.sender = false then .ignore r .absentSender
      else if cause = 0 ∨ cause = 1 then
        { OwnEffect.made { r with phase := { r.phase with brownout := true } } [] with
          phaseCause := .brownoutSet f.sender cause sample }
      else .ignore r .badField := by
  unfold shedRequestEffect causeWatch causeLine
  rw [hb]
  cases r.isPresent f.sender
  · rfl
  · by_cases hc : cause = 0 ∨ cause = 1
    · simp only [firstFailure, decide_eq_true hc, if_true, if_pos hc, Bool.true_eq_false, if_false]
    · simp only [firstFailure, decide_eq_false hc, if_true, if_neg hc, Bool.true_eq_false, if_false, Bool.false_eq_true]

end

/-- Settles O40. -/
theorem budgetAndBrownout : Obligations.BudgetAndBrownout := by
  refine fun f r => ⟨fun ceiling reserve hb => ?_, fun cause sample hb => ?_, fun hb => ?_⟩
  · dsimp only
    rw [budgetEffect_eq hb]
    refine ⟨fun hp => by simp [hp, OwnEffect.ignore], fun hp hs => by simp [hp, hs, OwnEffect.ignore], fun hp hs => ?_⟩
    refine ⟨fun hc => by simp [hp, hs, hc, OwnEffect.ignore], fun hc hr => ?_⟩
    simp [hp, hs, not_lt.mpr hc, not_lt.mpr hr, OwnEffect.made]
  · dsimp only
    rw [shedRequestEffect_eq hb]
    refine ⟨fun hp => by simp [hp, OwnEffect.ignore], fun hp => ⟨fun ⟨h0, h1⟩ => ?_, fun hc => ?_⟩⟩
    · rw [if_neg (by simp [hp]), if_neg fun h => h.elim h0 h1]
      rfl
    · rw [if_neg (by simp [hp]), if_pos hc]
      exact ⟨rfl, rfl⟩
  · refine ⟨fun hp => by simp [liftEffect, hp, OwnEffect.ignore], fun hp => by simp [liftEffect, hp, OwnEffect.made]⟩

end Sys2Proof.Machine
end


section
/-! The commands of the crank station and of the supply station (R51, R53, R55, R59, R60). -/

namespace Sys2Proof.Machine

/-- R55: REQUEST_CRANK within its checks. -/
theorem State.requestCrank_accepts {s : State} (hm : s.mode = .member) (hl : s.slotUnit.leavePending = false)
    (hn : s.namedCrank = true) (ha : s.attempts ≠ 3) (hc : s.crank.state = .idle) (hp : s.phaseIs [.stop] = true)
    (hu : s.link.urgent.length < 3) : s.requestCrank = s.beginSettling.accept := by
  have ha' : (s.attempts != 3) = true := bne_iff_ne.mpr ha
  simp only [State.requestCrank, State.checked, ha']
  simp [hm, State.mayQueue, hl, hn, hc, hp, State.urgentRoom_iff, hu]

/-- R54: an idle sequencer of a state that keeps the hold under a crank does not hold the line. -/
theorem State.HoldUnderCrank.hold_of_idle {s : State} (h : s.HoldUnderCrank) (hc : s.crank.state = .idle) :
    s.crank.hold = false := by
  by_contra hn
  have := h (by simpa using hn)
  rw [hc] at this
  cases this

/-- Settles O16. -/
theorem requestCrankAccepted : Obligations.RequestCrankAccepted := by
  intro s h hh hm hl hn ha hc hp hu
  have hperf : (s.holding .requestCrank).perform .requestCrank = ⟨(s.holding .requestCrank).beginSettling, ⟨.accepted, []⟩⟩ :=
    State.requestCrank_accepts (s := s.holding _) hm hl hn ha hc hp hu
  refine (h.exec_eq .requestCrank (by simp [Command.sized, Command.bytes]) hperf ?_).trans rfl
  exact ((h.settled.holding _).setLink _).setCrank (hh.hold_of_idle hc).symm

/-- R59: the checks that the five reports share let a reporting station pass. -/
theorem State.Reports.checked {s : State} (h : s.Reports) (c : Command) (rest : List (Bool × ResponseCode)) (done : Taken) :
    (s.holding c).checked ((s.holding c).reportChecks ++ rest) done = (s.holding c).checked rest done := by
  have hm : (s.mode == .member || s.mode == .tainted) = true := by simpa using h.mode
  simp [State.reportChecks, State.checked, hm, State.mayQueue, h.staying, h.named]

/-- R59: a report that queues a PHASE frame and nothing else. -/
theorem State.Reports.queues {s : State} (h : s.Reports) (c : Command) (hc : c.sized) (p : Phase) (n : BitVec 2)
    (hp : (s.holding c).perform c = ((s.holding c).reportPhase p n).accept) :
    exec c.row s = .next ((s.setLink { s.link with
      urgent := s.link.urgent ++ [.fixed (phaseFrameBody p n)] }).responds .accepted []) :=
  (h.ready.exec_eq c hc hp ((h.ready.settled.holding _).setLink _)).trans rfl

/-- Settles O18. -/
theorem engineAndBudgetCommands : Obligations.EngineAndBudgetCommands := by
  refine ⟨fun s h hu => ⟨fun hp => ?_, fun hp => ?_⟩, fun s ceiling reserve h hm hl hg => ⟨fun hn hc hr => ?_, ?_⟩⟩
  · refine h.queues .engineRunning (by simp [Command.sized, Command.bytes]) .run 0 ?_
    refine (h.checked _ _ _).trans ?_
    simp [State.checked, hp, State.urgentRoom_iff, hu]
  · refine h.queues .engineStopped (by simp [Command.sized, Command.bytes]) .stop s.attempts ?_
    refine (h.checked _ _ _).trans ?_
    simp [State.checked, hp, State.urgentRoom_iff, hu]
  · have hperf : (s.holding (.announceBudget ceiling reserve)).perform (.announceBudget ceiling reserve) =
        ((s.holding (.announceBudget ceiling reserve)).pushGeneral (.fixed (.budget ceiling reserve))).accept := by
      simp [State.perform, State.announceBudget, State.checked, hm, State.mayQueue, hl, hn, hc, hr, State.generalRoom_iff,
        hg, Config.ceilingLimit]
    refine (h.exec_eq (.announceBudget ceiling reserve) (by simp [Command.sized, Command.bytes, halfBytes]) hperf ?_).trans rfl
    exact (h.settled.holding _).setLink _
  · have hperf : (s.holding .lift).perform .lift = ((s.holding .lift).pushGeneral (.fixed .lift)).accept := by
      simp [State.perform, State.liftCommand, State.checked, hm, State.mayQueue, hl, State.generalRoom_iff, hg]
    exact (h.exec_eq .lift (by simp [Command.sized, Command.bytes]) hperf ((h.settled.holding _).setLink _)).trans rfl

end Sys2Proof.Machine
end


section
/-! Edges of SHED# that this station makes by letting go of the line: they rise, so no slot latches and no watch unit
evaluates them (R63, R64). With them the sequencer's way back to IDLE, an abandoned crank and the entry into LOCKOUT. -/

namespace Sys2Proof.Machine

/-- An edge that is not a fall writes the history and nothing else. -/
theorem State.edgeFrom_of_le {s : State} {wasHigh : Bool} (h : wasHigh = true → s.shedHigh = true) :
    s.edgeFrom wasHigh = s.setHistory (s.edgeFrom wasHigh).history := by
  unfold State.edgeFrom
  cases hw : wasHigh
  · cases hs : s.shedHigh <;> simp [State.noteRise, State.record]
    rfl
  · simp [h hw]
    rfl

theorem State.shedHigh_iff (s : State) :
    s.shedHigh = true ↔ s.crank.hold = false ∧ s.w0.pulse = none ∧ s.w1.pulse = none ∧ s.pins.peerShed = false := by
  simp [State.shedHigh, State.ownDrive, and_assoc]

/-- R54: the sequencer goes back to IDLE; the line can only rise. -/
theorem State.toIdle_eq (s : State) : s.toIdle = (s.setCrank .reset).setHistory s.toIdle.history :=
  State.edgeFrom_of_le fun h => by
    rw [State.shedHigh_iff] at h ⊢
    exact ⟨rfl, h.2⟩

@[simp] theorem State.toIdle_quiet (s : State) :
    s.toIdle.crank = .reset ∧ s.toIdle.link = s.link ∧ s.toIdle.slotUnit = s.slotUnit ∧ s.toIdle.w0 = s.w0
      ∧ s.toIdle.w1 = s.w1 ∧ s.toIdle.fault = s.fault ∧ s.toIdle.port = s.port := by
  rw [State.toIdle_eq]
  simp

/-- R136: the station lets go of the line; it can only rise. -/
theorem State.endDrive_eq (s : State) :
    s.endDrive = (((s.setW0 { s.w0 with pulse := none }).setW1 { s.w1 with pulse := none }).setCrank
      { s.crank with hold := false }).setHistory s.endDrive.history :=
  State.edgeFrom_of_le fun h => by
    rw [State.shedHigh_iff] at h ⊢
    exact ⟨rfl, rfl, rfl, h.2.2.2⟩

@[simp] theorem State.endDrive_quiet (s : State) :
    s.endDrive.crank = { s.crank with hold := false } ∧ s.endDrive.link = s.link ∧ s.endDrive.slotUnit = s.slotUnit
      ∧ s.endDrive.w0 = { s.w0 with pulse := none } ∧ s.endDrive.w1 = { s.w1 with pulse := none }
      ∧ s.endDrive.fault = s.fault ∧ s.endDrive.port = s.port := by
  rw [State.endDrive_eq]
  simp

/-! R61: an abandoned crank. -/

@[simp] theorem State.abandon_quiet (s : State) :
    s.abandon.slotUnit = s.slotUnit ∧ s.abandon.w0 = s.w0 ∧ s.abandon.w1 = s.w1 := by
  unfold State.abandon
  split <;> simp

@[simp] theorem State.checkAbandon_quiet (s : State) :
    s.checkAbandon.slotUnit = s.slotUnit ∧ s.checkAbandon.w0 = s.w0 ∧ s.checkAbandon.w1 = s.w1 := by
  unfold State.checkAbandon
  split <;> simp

theorem State.abandon_crank (s : State) :
    s.abandon.crank = if s.crank.state.underWay = true then .reset else s.crank := by
  unfold State.abandon
  split <;> simp

theorem State.abandon_urgent (s : State) :
    s.abandon.link.urgent = if s.crank.state.underWay = true then
      withdrawFrom (s.link.sending .urgent) Queued.isCrankFrame s.link.urgent else s.link.urgent := by
  unfold State.abandon
  split <;> simp [State.withdrawUrgent]

/-! R60: LOCKOUT. -/

theorem State.startLockout_crank (s : State) : s.startLockout.crank = s.lockedOut := by
  simp [State.startLockout, State.lockedOut]

@[simp] theorem State.startLockout_quiet (s : State) :
    s.startLockout.link = s.link ∧ s.startLockout.slotUnit = s.slotUnit ∧ s.startLockout.w0 = s.w0
      ∧ s.startLockout.w1 = s.w1 := by
  simp [State.startLockout]

@[simp] theorem State.checkLockout_quiet (s : State) :
    s.checkLockout.link = s.link ∧ s.checkLockout.slotUnit = s.slotUnit ∧ s.checkLockout.w0 = s.w0
      ∧ s.checkLockout.w1 = s.w1 := by
  simp only [State.checkLockout]
  (repeat' split) <;> simp

end Sys2Proof.Machine
end

section
/-! The end of an event that begins no episode of unclaimed draw (R131): it brings the slots and the history up to date, and
nothing else. -/

namespace Sys2Proof.Machine

/-- R131: what a station draws unclaimed follows the pins, the configuration and the slots. -/
theorem State.unclaimedDraw_congr {s u : State} (hc : u.config = s.config) (hp : u.pins.feedback = s.pins.feedback)
    {i : SlotNo} (hi : (u.slot i).state = (s.slot i).state) : u.unclaimedDraw i = s.unclaimedDraw i := by
  have hr : u.reading i = s.reading i := by
    unfold State.reading
    rw [State.part, hc, hp]
    rfl
  simp only [State.unclaimedDraw, hr, hi]

/-- R131: no episode begins where neither the slots nor what they read have changed. -/
theorem State.Settled.no_episodes {s u : State} (hs : s.Settled) (hm : u.mode = s.mode) (hc : u.config = s.config)
    (hp : u.pins.feedback = s.pins.feedback) (hst : ∀ i, (u.slot i).state = (s.slot i).state)
    (hun : ∀ i, (u.slot i).unclaimed = (s.slot i).unclaimed) : u.episodes = [] := by
  rw [← hs.episodes]
  simp only [State.episodes, hm, State.unclaimedDraw_congr hc hp (hst _), hun]

theorem State.conclude_eq_of_quiet {u : State} (h : u.episodes = []) :
    u.conclude = (u.setSlots u.conclude.slotUnit.slots).setHistory u.conclude.history := by
  rw [State.conclude_of_no_episodes h]
  simp [State.setSlots]

theorem State.conclude_quiet {u : State} (h : u.episodes = []) :
    u.conclude.port = u.port ∧ u.conclude.fault = u.fault := by
  rw [State.conclude_eq_of_quiet h]
  simp

end Sys2Proof.Machine
end



section
/-! CRANK_DONE, CRANK_FAILED and CANCEL_CRANK (R59, R60). -/

namespace Sys2Proof.Machine

/-- R131: a command that leaves the slots alone begins no episode. -/
theorem State.Settled.quiet {s u : State} (hs : s.Settled) (hst : u.station = s.station) (hc : u.config = s.config)
    (hp : u.pins = s.pins) (hsl : u.slotUnit = s.slotUnit) : u.episodes = [] :=
  hs.no_episodes (by rw [State.mode, hst]; rfl) hc (by rw [hp]) (fun i => by simp only [State.slot, hsl])
    fun i => by simp only [State.slot, hsl]

theorem State.reportPhase_eq (s : State) (p : Phase) (n : BitVec 2) :
    s.reportPhase p n = s.setLink { s.link with urgent := s.link.urgent ++ [.fixed (phaseFrameBody p n)] } := rfl

/-- R54, R59: a command that rewrites the link and takes the sequencer back to IDLE. -/
theorem State.Open.exec_toIdle {s : State} (h : s.Open) (c : Command) (hc : c.sized) {link : LinkUnit}
    {code : ResponseCode} {body : List Byte}
    (hp : (s.holding c).perform c = ⟨((s.holding c).setLink link).toIdle, ⟨code, body⟩⟩) :
    ∃ t, exec c.row s = .next t ∧ t.link = link ∧ t.crank = .reset ∧ t.port = (s.responds code body).port ∧
      t.replica = s.replica ∧ t.station = s.station ∧ t.members = s.members ∧ t.config = s.config ∧ t.fault = s.fault ∧
      t.w0 = s.w0 ∧ t.w1 = s.w1 ∧ t.pins = s.pins := by
  refine ⟨_, h.exec_concludes c hc hp, ?_⟩
  rw [State.conclude_eq_of_quiet (h.settled.quiet (by simp) (by simp) (by simp) (by simp))]
  simp [State.responds]

theorem State.Reports.accepts_failCrank {s : State} (h : s.Reports) (hp : s.phaseIs [.crank] = true)
    (hu : s.link.urgent.length < 3) :
    (s.holding .crankFailed).perform .crankFailed = (s.holding .crankFailed).failCrank.accept := by
  refine (h.checked _ _ _).trans ?_
  simp [State.checked, hp, State.urgentRoom_iff, hu]

@[simp] theorem State.spendFree_quiet (s : State) :
    s.spendFree.link = s.link ∧ s.spendFree.crank = s.crank ∧ s.spendFree.config = s.config ∧ s.spendFree.now = s.now
      ∧ s.spendFree.slotUnit = s.slotUnit ∧ s.spendFree.station = s.station ∧ s.spendFree.pins = s.pins
      ∧ s.spendFree.replica = s.replica ∧ s.spendFree.members = s.members ∧ s.spendFree.straps = s.straps
      ∧ s.spendFree.freeCount = if s.attempts = 3 then s.freeCount + 1 else s.freeCount := by
  unfold State.spendFree
  split <;> simp_all

/-- R59, R60: what a failed crank makes of the link, the sequencer and the free values. -/
theorem State.failCrank_eq (s : State) :
    s.failCrank.link = { s.link with urgent := s.link.urgent ++ [.fixed (phaseFrameBody .stop s.nextAttempts)] } ∧
      s.failCrank.crank = (if s.nextAttempts = 3 then s.lockedOut else .reset) ∧
      s.failCrank.freeCount = (if s.attempts = 3 then s.freeCount + 1 else s.freeCount) ∧
      s.failCrank.slotUnit = s.slotUnit ∧ s.failCrank.station = s.station ∧ s.failCrank.config = s.config ∧
      s.failCrank.pins = s.pins ∧ s.failCrank.replica = s.replica ∧ s.failCrank.members = s.members ∧
      s.failCrank.straps = s.straps := by
  have hn : s.failedAttempts = s.nextAttempts := rfl
  simp only [State.failCrank, hn]
  split
  · simp [State.reportPhase_eq, State.startLockout_crank, State.lockedOut]
    rfl
  · simp [State.reportPhase_eq]
    rfl

/-- Settles O17. -/
theorem crankReportsAccepted : Obligations.CrankReportsAccepted := by
  refine ⟨fun s h hp hu => h.ready.exec_toIdle .crankDone (by simp [Command.sized, Command.bytes]) ?_, fun s h hp hu => ?_⟩
  · refine (h.checked _ _ _).trans ?_
    simp only [State.checked, State.holding_phaseIs, State.holding_urgentRoom, hp, (State.urgentRoom_iff s).mpr hu,
      if_true]
    rfl
  · refine ⟨_, h.ready.exec_concludes .crankFailed (by simp [Command.sized, Command.bytes]) (h.accepts_failCrank hp hu), ?_⟩
    obtain ⟨hlink, hcrank, hfree, hslots, hstation, hconfig, hpins, hreplica, hmembers, -⟩ :=
      (s.holding .crankFailed).failCrank_eq
    have hquiet := h.ready.settled.quiet (u := (s.holding .crankFailed).failCrank.responds .accepted []) hstation hconfig
      hpins hslots
    rw [State.conclude_eq_of_quiet hquiet]
    have hn : (s.holding .crankFailed).nextAttempts = s.nextAttempts := rfl
    have hl : (s.holding .crankFailed).lockedOut = s.lockedOut := rfl
    simp +contextual [State.responds, hlink, hcrank, hfree, hreplica, hstation, hmembers, hconfig, hpins, hn, hl] <;>
      rfl

/-- Settles O19. -/
theorem cancelCrankAnswered : Obligations.CancelCrankAnswered := by
  intro s h hc left
  have hperf (code : ResponseCode) (link : LinkUnit)
      (hp : (s.holding .cancelCrank).perform .cancelCrank = ⟨((s.holding .cancelCrank).setLink link).toIdle, ⟨code, []⟩⟩) :
      ∃ t, exec .cancelCrank s = .next t ∧ t.link = link ∧ t.crank = .reset ∧ t.port = (s.responds code []).port ∧
        t.replica = s.replica ∧ t.station = s.station ∧ t.fault = s.fault := by
    obtain ⟨t, ht, hl, hcr, hport, hr, hs, _, _, hf, _⟩ :=
      h.ready.exec_toIdle .cancelCrank (by simp [Command.sized, Command.bytes]) hp
    exact ⟨t, ht, hl, hcr, hport, hr, hs, hf⟩
  refine ⟨fun hsent => hperf .ok _ ?_, fun hsent hroom => hperf .accepted _ ?_⟩
  all_goals
    refine (h.checked _ _ _).trans ?_
    simp only [State.checked, State.holding_crank, hc, State.holding_phaseUnsent, hsent]
  · rfl
  · have hr : ((s.holding .cancelCrank).withdrawUrgent Queued.isCrankFrame).urgentRoom = true :=
      (State.urgentRoom_iff _).mpr hroom
    simp only [hr, if_true]
    rfl

end Sys2Proof.Machine
end


section
/-! What every event leaves of the inbound queue, the changes that wait and the crank hold (R54, R56, R73, R78, R80, R87).
One lemma for each operation that can move them; `b` is the state the event began in. -/

namespace Sys2Proof.Machine

/-- R73, R80: no frame waits in the inbound queue while the station's own is in transmission. -/
def State.TxAlone (s : State) : Prop := s.link.tx.isSome = true → s.link.inbound = []

/-- From b to s the inbound queue has stayed one of admitted frames, no frame waits in it beside one in transmission, the
hold has stayed under a crank, and no change has begun to wait. -/
structure Calm (b s : State) : Prop where
  fits : b.InboundFits → s.InboundFits
  alone : b.TxAlone → s.TxAlone
  hold : b.HoldUnderCrank → s.HoldUnderCrank
  late : b.link.late = [] → s.link.late = []

theorem Calm.refl (s : State) : Calm s s := ⟨id, id, id, id⟩

theorem Calm.trans {a b c : State} (h : Calm a b) (k : Calm b c) : Calm a c :=
  ⟨k.fits ∘ h.fits, k.alone ∘ h.alone, k.hold ∘ h.hold, k.late ∘ h.late⟩

theorem State.InboundFits.of_same {s t : State} (h : s.InboundFits) (hm : t.mode = s.mode) (hs : t.straps = s.straps)
    (hi : t.link.inbound = s.link.inbound) : t.InboundFits := by
  intro f hf
  rw [hm, State.self, hs]
  exact h f (hi ▸ hf)

theorem State.TxAlone.of_same {s t : State} (h : s.TxAlone) (ht : t.link.tx = s.link.tx)
    (hi : t.link.inbound = s.link.inbound) : t.TxAlone := by
  unfold State.TxAlone
  rw [ht, hi]
  exact h

theorem State.HoldUnderCrank.of_same {s t : State} (h : s.HoldUnderCrank) (hc : t.crank = s.crank) :
    t.HoldUnderCrank := by
  unfold State.HoldUnderCrank
  rw [hc]
  exact h

/-- What leaves the station unit, the straps, the inbound side of the link and the sequencer alone is calm. -/
theorem Calm.of_same {b s t : State} (h : Calm b s) (hm : t.mode = s.mode) (hs : t.straps = s.straps)
    (hi : t.link.inbound = s.link.inbound) (ht : t.link.tx = s.link.tx) (hl : t.link.late = s.link.late)
    (hc : t.crank = s.crank) : Calm b t :=
  ⟨fun k => (h.fits k).of_same hm hs hi, fun k => (h.alone k).of_same ht hi,
    fun k => (h.hold k).of_same hc, fun k => hl.trans (h.late k)⟩

/-- The sequencer moves, and holds the line only where it did or under a crank. -/
theorem Calm.of_crank {b s t : State} (h : Calm b s) (hm : t.mode = s.mode) (hs : t.straps = s.straps)
    (hi : t.link.inbound = s.link.inbound) (ht : t.link.tx = s.link.tx) (hl : t.link.late = s.link.late)
    (hc : s.HoldUnderCrank → t.HoldUnderCrank) : Calm b t :=
  ⟨fun k => (h.fits k).of_same hm hs hi, fun k => (h.alone k).of_same ht hi,
    fun k => hc (h.hold k), fun k => hl.trans (h.late k)⟩

theorem Calm.settleDown {b s : State} (h : Calm b s) (n : Nat) : Calm b (s.settleDown n) :=
  h.of_same (by simp [State.mode]) (by simp) (by simp) (by simp) (by simp) (by simp)

theorem Calm.conclude {b s : State} (h : Calm b s) : Calm b s.conclude :=
  h.of_same (by simp [State.mode]) (by simp) (by simp) (by simp) (by simp) (by simp)

theorem Calm.capture {b s : State} (h : Calm b s) (kind : FaultKind) (subject : Subject) (frame : Option FrameKind) :
    Calm b (s.capture kind subject frame) :=
  h.of_same (by simp [State.mode]) (by simp) (by simp) (by simp) (by simp) (by simp)

theorem Calm.foldl {α : Type} {b : State} {f : State → α → State} (hf : ∀ s a, Calm b s → Calm b (f s a)) (l : List α)
    {s : State} (h : Calm b s) : Calm b (l.foldl f s) := by
  induction l generalizing s with
  | nil => exact h
  | cons a l ih => exact ih (hf s a h)

/-! The sequencer (R54, R56, R58, R60, R61). -/

/-- A sequencer that does not hold the line, or one under way. -/
theorem State.holdUnderCrank_of {s : State} (h : s.crank.hold = false ∨ s.crank.state.underWay = true) :
    s.HoldUnderCrank := fun hh => h.elim (fun hf => by rw [hf] at hh; cases hh) id

theorem Calm.toIdle {b s : State} (h : Calm b s) : Calm b s.toIdle :=
  h.of_crank (by simp [State.mode]) (by simp) (by simp) (by simp) (by simp) fun _ => State.holdUnderCrank_of (.inl (by simp; rfl))

theorem Calm.abandon {b s : State} (h : Calm b s) : Calm b s.abandon := by
  refine h.of_crank (by simp [State.mode]) (by simp) (by simp) (by simp) (by simp) fun hh => ?_
  by_cases hu : s.crank.state.underWay = true
  · exact State.holdUnderCrank_of (.inl (by rw [State.abandon_crank, if_pos hu]; rfl))
  · exact hh.of_same (by rw [State.abandon_crank, if_neg hu])

theorem Calm.checkAbandon {b s : State} (h : Calm b s) : Calm b s.checkAbandon := by
  unfold State.checkAbandon
  split
  · exact h.abandon
  · exact h

theorem Calm.startLockout {b s : State} (h : Calm b s) : Calm b s.startLockout :=
  h.of_crank (by simp [State.mode]) (by simp) (by simp) (by simp) (by simp) fun _ =>
    State.holdUnderCrank_of (.inl (by rw [State.startLockout_crank]; rfl))

theorem Calm.checkLockout {b s : State} (h : Calm b s) : Calm b s.checkLockout := by
  simp only [State.checkLockout]
  (repeat' split) <;> first | exact h.startLockout | exact h

/-- The sequencer keeps its state and its hold. -/
theorem State.HoldUnderCrank.of_state {s t : State} (h : s.HoldUnderCrank) (hs : t.crank.state = s.crank.state)
    (hh : t.crank.hold = s.crank.hold) : t.HoldUnderCrank := by
  unfold State.HoldUnderCrank
  rw [hs, hh]
  exact h

theorem Calm.postGo {b s : State} (h : Calm b s) (r : Replica) : Calm b (s.postGo r) :=
  h.of_crank (by simp [State.mode]) (by simp) (by simp) (by simp) (by simp) fun hh =>
    hh.of_state (by simp [State.postGo]) (by simp [State.postGo])

theorem Calm.startSettle {b s : State} (h : Calm b s) : Calm b s.startSettle :=
  h.of_crank (by simp [State.mode]) (by simp) (by simp) (by simp) (by simp) fun hh => hh.of_state rfl rfl

theorem Calm.crankLoaded {b s : State} (h : Calm b s) : Calm b s.crankLoaded := by
  unfold State.crankLoaded
  split
  · (repeat' split)
    · exact h.startSettle
    · exact h.postGo _
    · exact h
  · exact h

/-! A change of station state (R87). -/

/-- R87 step 3: what is left in the queue is what the state admits. -/
theorem Calm.dropInbound {b s t : State} (h : Calm b s) (hi : t.link.inbound = s.link.inbound)
    (ht : t.link.tx = s.link.tx) (hl : t.link.late = s.link.late) (hc : t.crank = s.crank) : Calm b t.dropInbound where
  fits _ := fun _ hf => (List.mem_filter.mp hf).2
  alone k := fun hx => by
    have hempty : s.link.inbound = [] := h.alone k (by simpa [ht] using hx)
    simp [State.dropInbound, hi, hempty]
  hold k := (h.hold k).of_same (by simp [hc])
  late k := by simpa [hl] using h.late k

theorem Calm.onEntry {b s : State} (h : Calm b s) : Calm b s.onEntry := by
  unfold State.onEntry
  split
  case h_1 | h_3 =>
    exact h.of_same (by simp [State.startSync, State.mode]) (by simp) (by simp) (by simp) (by simp) (by simp)
  case h_2 => exact h.of_same (by simp [State.mode]) (by simp) (by simp) (by simp) (by simp) (by simp)
  case h_4 => exact h.checkAbandon
  case h_5 =>
    have ha : Calm b s.stopMemberTimers.abandon :=
      (h.of_same (t := s.stopMemberTimers) (by simp [State.mode]) (by simp) (by simp) (by simp) (by simp) (by simp)).abandon
    exact ha.of_same (by simp [State.mode]) (by simp) (by simp) (by simp) (by simp) (by simp)
  case h_6 => exact h

theorem Calm.silenceOffline {b s : State} (h : Calm b s) : Calm b s.silenceOffline := by
  unfold State.silenceOffline
  split
  · refine ⟨fun k => (h.fits k).of_same (by simp [State.mode]) (by simp) (by simp), fun _ hx => ?_,
      fun _ => State.holdUnderCrank_of (.inl (by simp)), fun k => by simpa using h.late k⟩
    simp [State.emptyLanes] at hx
  · exact h

theorem Calm.enterAnnounced {b s : State} (h : Calm b s) (new : StationState) (cause : SyncCause) :
    Calm b (s.enterAnnounced new cause) :=
  (h.dropInbound (by simp) (by simp) (by simp) (by simp)).onEntry

theorem Calm.enterOnce {b s : State} (h : Calm b s) (new : StationState) (cause : SyncCause) :
    Calm b (s.enterOnce new cause) :=
  (h.dropInbound (by simp) (by simp) (by simp) (by simp)).onEntry.silenceOffline

theorem Calm.enter {b s : State} (h : Calm b s) (new : StationState) (cause : SyncCause) :
    Calm b (s.enter new cause) := by
  simp only [State.enter]
  split
  · exact (h.enterOnce new cause).enterOnce _ _
  · exact h.enterOnce new cause

theorem Calm.changeState {b s : State} (h : Calm b s) (new : StationState) (cause : SyncCause) :
    Calm b (s.changeState new cause) :=
  ((h.enter new cause).of_same (by simp [State.mode]) (by simp) (by simp) (by simp) (by simp) (by simp)).checkLockout

theorem Calm.queueJoin {b s : State} (h : Calm b s) (j : Body) : Calm b (s.queueJoin j) :=
  h.of_same (by simp [State.mode]) (by simp) (by simp) (by simp) (by simp) (by simp)

theorem Calm.enterLoaded {b s : State} (h : Calm b s) (present : Bool) (cause : SyncCause) (join : Body) :
    Calm b (s.enterLoaded present cause join) := by
  unfold State.enterLoaded
  split
  · exact h.enter _ _
  · exact (h.enter _ _).queueJoin _

/-! Loads (R98, R99). -/

theorem Calm.taken {b s : State} (h : Calm b s) (r : Replica) : Calm b (s.setReplica (some r)).forgetIsolation :=
  h.of_same rfl rfl rfl rfl rfl rfl

/-- R98: a load up to the change of station state, with the JOIN of an ENTERING station. -/
def State.loadTaken (s : State) (r : Replica) : State :=
  ((s.setReplica (some r)).forgetIsolation).enterLoaded (r.isPresent s.self) .snapshotLoaded s.joinBody

/-- R98: a load up to what the sequencer makes of it. -/
def State.loadTables (s : State) (r : Replica) : State := ((s.loadTaken r).loadSlots.gateLoaded r).membersLoaded r

theorem State.loadReplica_eq (s : State) (r : Replica) :
    s.loadReplica r = (s.loadTables r).checkAbandon.crankLoaded.checkLockout.latchesLoaded := rfl

theorem Calm.loadTables {b s : State} (h : Calm b s) (r : Replica) : Calm b (s.loadTables r) :=
  ((h.taken r).enterLoaded (r.isPresent s.self) .snapshotLoaded s.joinBody).of_same
    (by simp [State.loadTables, State.loadTaken, State.mode]) (by simp [State.loadTables, State.loadTaken])
    (by simp [State.loadTables, State.loadTaken]) (by simp [State.loadTables, State.loadTaken])
    (by simp [State.loadTables, State.loadTaken]) (by simp [State.loadTables, State.loadTaken])

theorem Calm.loadReplica {b s : State} (h : Calm b s) (r : Replica) : Calm b (s.loadReplica r) := by
  rw [State.loadReplica_eq]
  exact (h.loadTables r).checkAbandon.crankLoaded.checkLockout.of_same (by simp [State.mode]) (by simp) (by simp)
    (by simp) (by simp) (by simp)

theorem Calm.loadSnapshot {b s : State} (h : Calm b s) (epoch : Half) (image : List Byte) (f : Frame) :
    Calm b (s.loadSnapshot epoch image f) := by
  unfold State.loadSnapshot
  split
  · exact h.loadReplica _
  · exact h.of_same (by simp [State.mode]) (by simp) (by simp) (by simp) (by simp) (by simp)

theorem Calm.adoptStart {b s : State} (h : Calm b s) : Calm b s.adoptStart :=
  ((h.taken .start).enterLoaded false .startAdopted s.joinBody).of_same (by simp [State.adoptStart, State.mode])
    (by simp [State.adoptStart]) (by simp [State.adoptStart]) (by simp [State.adoptStart]) (by simp [State.adoptStart])
    (by simp [State.adoptStart])

/-! Applications (R80). -/

@[simp] theorem State.rosterOutcome_frame (f : Frame) (a : Applied) (s : State) (n : Station) :
    KeptBase s (State.rosterOutcome f a s n) ∧ (State.rosterOutcome f a s n).now = s.now
      ∧ (State.rosterOutcome f a s n).station = s.station ∧ (State.rosterOutcome f a s n).link = s.link
      ∧ (State.rosterOutcome f a s n).members = s.members ∧ (State.rosterOutcome f a s n).crank = s.crank
      ∧ (State.rosterOutcome f a s n).slotUnit = s.slotUnit ∧ (State.rosterOutcome f a s n).w0 = s.w0
      ∧ (State.rosterOutcome f a s n).w1 = s.w1 := by
  unfold State.rosterOutcome
  dsimp only
  (repeat' split) <;> simp [KeptBase]

@[simp] theorem foldl_rosterOutcome_frame (f : Frame) (a : Applied) (l : List Station) (s : State) :
    KeptBase s (l.foldl (State.rosterOutcome f a) s) ∧ (l.foldl (State.rosterOutcome f a) s).now = s.now
      ∧ (l.foldl (State.rosterOutcome f a) s).station = s.station ∧ (l.foldl (State.rosterOutcome f a) s).link = s.link
      ∧ (l.foldl (State.rosterOutcome f a) s).members = s.members
      ∧ (l.foldl (State.rosterOutcome f a) s).crank = s.crank
      ∧ (l.foldl (State.rosterOutcome f a) s).slotUnit = s.slotUnit
      ∧ (l.foldl (State.rosterOutcome f a) s).w0 = s.w0 ∧ (l.foldl (State.rosterOutcome f a) s).w1 = s.w1 := by
  induction l generalizing s with
  | nil => simp [KeptBase]
  | cons n l ih => simpa [KeptBase] using ih (State.rosterOutcome f a s n)

theorem Calm.crankOutcome {b s : State} (h : Calm b s) (f : Frame) (a : Applied) : Calm b (s.crankOutcome f a) := by
  unfold State.crankOutcome
  split
  · split
    · split
      case h_1 | h_2 => exact h.abandon
      case h_3 =>
        split
        · exact h.startSettle
        · exact h
      case h_4 => exact h.postGo _
      case h_5 => exact h
    · exact h
  · exact h

/-- The blocks take an outcome: of what the event keeps only the sequencer can move. -/
theorem Calm.takeOutcome {b s : State} (h : Calm b s) (f : Frame) (a : Applied) : Calm b (s.takeOutcome f a) := by
  unfold State.takeOutcome
  dsimp only
  refine Calm.crankOutcome ?_ f a
  split <;> exact h.of_same (by simp [State.mode]) (by simp) (by simp) (by simp) (by simp) (by simp)

theorem Calm.ended {b s : State} (h : Calm b s) (n : Nat) : Calm b (s.ended n) :=
  h.checkAbandon.checkLockout.of_same (by simp [State.mode]) (by simp) (by simp) (by simp) (by simp)
    (by simp [State.ended])

@[simp] theorem State.offerApplication_crank (s : State) (f : Frame) (p : Option Phase) :
    (s.offerApplication f p).crank = s.crank := by
  simp [State.offerApplication]

@[simp] theorem State.offerApplicationIn_crank (s : State) (taken : StationState) (f : Frame) (p : Option Phase) :
    (s.offerApplicationIn taken f p).crank = s.crank := by
  simp [State.offerApplicationIn]

theorem Calm.evaluated {b s : State} (h : Calm b s) (n : Nat) (f : Frame) (p : Option Phase) :
    Calm b (s.evaluated n f p) :=
  (h.ended n).of_same (by simp [State.mode]) (by simp) (by simp) (by simp) (by simp) (by simp [State.evaluated])

theorem Calm.evaluatedAtChange {b s : State} (h : Calm b s) (n : Nat) (f : Frame) (p : Option Phase)
    (new : StationState) (cause : SyncCause) : Calm b (s.evaluatedAtChange n f p new cause) :=
  (((h.enterAnnounced new cause).ended n).of_same (t := State.offerApplicationIn _ s.mode f p) (by simp [State.mode])
    (by simp) (by simp) (by simp) (by simp) (by simp)).silenceOffline

theorem Calm.yieldTo {b s : State} (h : Calm b s) (n : Nat) (f : Frame) : Calm b (s.yieldTo n f) := by
  have htainted : Calm b ((s.capture .digestYield (.station f.sender) (some f.body.kind)).enter .tainted .digestYield) :=
    (h.capture _ _ _).enter _ _
  simp only [State.yieldTo]
  refine Calm.settleDown ?_ n
  split
  · split
    · exact htainted.loadSnapshot _ _ _
    · exact htainted
  · exact htainted

theorem Calm.applyTable {b s : State} (h : Calm b s) (f : Frame) (effect : Frame → Replica → OwnEffect) (n : Nat) :
    Calm b (s.applyTable f effect n) := by
  have hgate {t : State} (a : Applied) (ht : Calm b t) : Calm b (t.gateOutcome f a) :=
    ht.of_same (by simp [State.mode]) (by simp) (by simp) (by simp) (by simp) (by simp)
  simp only [State.applyTable]
  split
  · refine hgate _ ?_
    split
    · exact (h.takeOutcome f _).evaluatedAtChange _ _ _ _ _
    · exact (h.takeOutcome f _).evaluated _ _ _
  · exact h

theorem Calm.applyFrame {b s : State} (h : Calm b s) (f : Frame) {steps : State → Nat → State}
    (hs : ∀ t n, Calm b t → Calm b (steps t n)) : Calm b (s.applyFrame f steps) := by
  simp only [State.applyFrame]
  split
  · exact hs _ _ h
  · exact hs _ _ (h.of_same (by simp [State.mode]) (by simp) (by simp) (by simp) (by simp) (by simp))
  · exact h.yieldTo _ f

/-- R80: the head leaves the queue; the frames behind it were admitted with it. -/
theorem Calm.behind {b s : State} (h : Calm b s) {f : Frame} {rest : List Frame} (hq : s.link.inbound = f :: rest) :
    Calm b (s.setLink { s.link with inbound := rest }) where
  fits k := fun g hg => h.fits k g (by rw [hq]; exact List.mem_cons_of_mem f hg)
  alone k := fun hx => absurd (hq.symm.trans (h.alone k hx)) (List.cons_ne_nil f rest)
  hold := h.hold
  late := h.late

theorem Calm.applyHead {b s : State} (h : Calm b s) (kind : FrameKind) {act : Frame → State → State}
    (ha : ∀ f t, Calm b t → Calm b (act f t)) : Calm b (s.applyHead kind act) := by
  unfold State.applyHead
  split
  · rename_i f rest hq
    split
    · exact (ha f _ (h.behind hq)).conclude
    · exact h
  · exact h

theorem Calm.plainFrame {b s : State} (h : Calm b s) (kind : FrameKind) {take : State → Frame → State}
    (ht : ∀ t f, Calm b t → Calm b (take t f)) : Calm b (s.plainFrame kind take) :=
  h.applyHead kind fun f _ hu => hu.applyFrame f fun _ n hv => (ht _ f hv).evaluated n f none

theorem Calm.tableFrame {b s : State} (h : Calm b s) (kind : FrameKind) (effect : Frame → Replica → OwnEffect) :
    Calm b (s.tableFrame kind effect) :=
  h.applyHead kind fun f _ hu => hu.applyFrame f fun _ n hv => hv.applyTable f effect n

theorem Calm.takePresence {b s : State} (h : Calm b s) (f : Frame) : Calm b (s.takePresence f) := by
  unfold State.takePresence
  (repeat' split) <;> first
    | exact h
    | exact h.of_same (by simp [State.mode]) (by simp) (by simp) (by simp) (by simp) (by simp)

theorem Calm.takeSyncRequest {b s : State} (h : Calm b s) (f : Frame) : Calm b (s.takeSyncRequest f) := by
  simp only [State.takeSyncRequest]
  (repeat' split) <;> first
    | exact h
    | exact h.of_same (by simp [State.mode]) (by simp) (by simp) (by simp) (by simp) (by simp)

theorem Calm.takeSnapshot {b s : State} (h : Calm b s) (f : Frame) : Calm b (s.takeSnapshot f) := by
  simp only [State.takeSnapshot]
  (repeat' split) <;> first
    | exact h
    | exact h.of_same (by simp [State.mode]) (by simp) (by simp) (by simp) (by simp) (by simp)

theorem Calm.snapshotFrame {b s : State} (h : Calm b s) : Calm b s.snapshotFrame := by
  refine h.applyHead .snapshot fun f t ht => ?_
  split
  case h_1 | h_2 =>
    exact (ht.loadSnapshot _ _ f).settleDown _
  · exact ht.applyFrame f fun _ n hu => (hu.takeSnapshot f).evaluated n f none

/-- R80: one application of a frame of any kind. -/
theorem Calm.applyKind {b s : State} (h : Calm b s) (kind : FrameKind) : Calm b (s.applyKind kind) := by
  cases kind
  case presence => exact h.plainFrame _ fun _ f ht => ht.takePresence f
  case syncRequest => exact h.plainFrame _ fun _ f ht => ht.takeSyncRequest f
  case snapshot => exact h.snapshotFrame
  all_goals exact h.tableFrame _ _

/-! Changes that waited, and events of the link controller (R73 to R79, R87). -/

theorem Calm.makeChange {b s : State} (h : Calm b s) (c : LateChange) : Calm b (s.makeChange c) := by
  cases c <;> simp only [State.makeChange] <;> split
  case overrun.isTrue | silence.isTrue | duplicate.isFalse => exact h.changeState _ _
  case duplicate.isTrue => exact h.of_same rfl rfl rfl rfl rfl rfl
  all_goals exact h

/-- R87: the changes that waited are made, and none waits any more. -/
theorem State.makeLate_calm (s : State) : Calm (s.setLink { s.link with late := [] }) s.makeLate :=
  (Calm.foldl (f := State.makeChange) (fun _ c ht => ht.makeChange c) _ (.refl _)).conclude

@[simp] theorem State.makeLate_late (s : State) : s.makeLate.link.late = [] := s.makeLate_calm.late rfl

theorem Calm.makeLate {b s : State} (h : Calm b s) : Calm b s.makeLate :=
  ⟨fun k => s.makeLate_calm.fits (h.fits k), fun k => s.makeLate_calm.alone (h.alone k),
    fun k => s.makeLate_calm.hold (h.hold k), fun _ => s.makeLate_late⟩

/-- The first three parts of `Calm`, which also hold where a change begins to wait. -/
structure Kept (b s : State) : Prop where
  fits : b.InboundFits → s.InboundFits
  alone : b.TxAlone → s.TxAlone
  hold : b.HoldUnderCrank → s.HoldUnderCrank

theorem Calm.kept {b s : State} (h : Calm b s) : Kept b s := ⟨h.fits, h.alone, h.hold⟩

theorem Kept.trans {a b c : State} (h : Kept a b) (k : Kept b c) : Kept a c :=
  ⟨k.fits ∘ h.fits, k.alone ∘ h.alone, k.hold ∘ h.hold⟩

theorem State.defer_kept (s : State) (c : LateChange) : Kept s (s.defer c) := by
  unfold State.defer
  split <;> exact ⟨id, id, id⟩

theorem State.changeOutside_kept (s : State) (c : LateChange) : Kept s (s.changeOutside c) := by
  unfold State.changeOutside
  split
  · exact s.defer_kept c
  · exact ((Calm.refl s).makeChange c).kept

theorem State.pushInbound_fits {s : State} (h : s.InboundFits) {f : Frame} (hf : admits s.mode s.self f = true) :
    (s.pushInbound f).InboundFits := by
  intro g hg
  rcases List.mem_append.mp hg with hg | hg
  · exact h g hg
  · rw [List.mem_singleton.mp hg]
    exact hf

theorem Calm.heardItself {b s : State} (h : Calm b s) : Calm b s.heardItself := by
  unfold State.heardItself
  (repeat' split)
  · exact h.of_same rfl rfl rfl rfl rfl rfl
  · exact h.changeState _ _
  · exact h

theorem Calm.heardOther {b s : State} (h : Calm b s) : Calm b s.heardOther := by
  unfold State.heardOther
  (repeat' split)
  · exact h.of_same rfl rfl rfl rfl rfl rfl
  · exact h.changeState _ _
  · exact h

/-- The transmission ends, cleanly or not. -/
theorem Calm.txEnds {b s t : State} (h : Calm b s) (hm : t.mode = s.mode) (hs : t.straps = s.straps)
    (hi : t.link.inbound = s.link.inbound) (ht : t.link.tx = none) (hl : t.link.late = s.link.late)
    (hc : t.crank = s.crank) : Calm b t :=
  ⟨fun k => (h.fits k).of_same hm hs hi, fun _ hx => (by rw [ht] at hx; cases hx), fun k => (h.hold k).of_same hc,
    fun k => hl.trans (h.late k)⟩

theorem State.failReadback_calm (s : State) (t : Transmission) : Calm s (s.failReadback t) := by
  have hcaptured {u : State} (hu : Calm s u) (n : Nat) : Calm s ((u.setLink { u.link with readback := n }).capture
      .readback .none (some t.frame.body.kind)) := by
    have hcounted : Calm s (u.setLink { u.link with readback := n }) := hu.of_same rfl rfl rfl rfl rfl rfl
    exact hcounted.capture _ _ _
  have hended : Calm s s.endTransmission := (Calm.refl s).txEnds rfl rfl rfl rfl rfl rfl
  have hprobed : Calm s s.endTransmission.probeEnded := hended.of_same rfl rfl rfl rfl rfl rfl
  simp only [State.failReadback]
  split <;> split
  · exact (hcaptured hprobed _).changeState _ _
  · exact hcaptured hprobed _
  · exact (hcaptured hended _).changeState _ _
  · exact hcaptured hended _

theorem Calm.beginHold {b s : State} (h : Calm b s) (body : Body) : Calm b (s.beginHold body) := by
  unfold State.beginHold
  split
  · rename_i hc
    have hsettling : s.crank.state = .settling := by simp at hc; exact hc.1.2
    exact h.of_crank (by simp [State.mode]) (by simp) (by simp) (by simp) (by simp) fun _ =>
      State.holdUnderCrank_of (.inr (by simp [hsettling, CrankState.underWay]))
  · exact h

theorem State.leaveLane_calm (s : State) (t : Transmission) : Calm s (s.leaveLane t) := by
  simp only [State.leaveLane]
  split <;> exact (Calm.refl s).txEnds rfl rfl rfl rfl rfl rfl

/-- R75, R78: the own frame joins the queue, with none in transmission any more. -/
theorem Calm.admitOwn {b s : State} (h : Calm b s) (ht : s.link.tx = none) (f : Frame) : Calm b (s.admitOwn f) := by
  unfold State.admitOwn
  split
  · rename_i hc
    exact ⟨fun k => State.pushInbound_fits (h.fits k) (by simp at hc; exact hc.1),
      fun _ hx => by simp [State.pushInbound, ht] at hx, h.hold, h.late⟩
  · exact h

theorem State.completeClean_calm (s : State) (t : Transmission) : Calm s (s.completeClean t) := by
  have htx : ((s.leaveLane t).beginHold t.frame.body).link.tx = none := by
    have hlane : (s.leaveLane t).link.tx = none := by
      simp only [State.leaveLane]
      split <;> rfl
    unfold State.beginHold
    split <;> simp [hlane]
  have hdone := ((s.leaveLane_calm t).beginHold t.frame.body).admitOwn htx t.frame
  simp only [State.completeClean]
  split
  · exact hdone.changeState _ _
  · exact hdone.heardItself

theorem State.takeFrame_kept {s : State} (ht : s.link.tx = none) (f : Frame) : Kept s (s.takeFrame f) := by
  unfold State.takeFrame
  split
  · rename_i hadmits
    split
    · exact ⟨fun k => State.pushInbound_fits k hadmits, fun _ hx => by simp [State.pushInbound, ht] at hx, id⟩
    · unfold State.overrun
      split
      · exact ((Calm.refl s).capture _ _ _).kept.trans (State.changeOutside_kept _ _)
      · exact ⟨id, id, id⟩
  · exact ⟨id, id, id⟩

theorem State.receive_kept (s : State) (w : WireFrame) : Kept s (s.receive w) := by
  unfold State.receive
  split
  · exact ⟨id, id, id⟩
  · rename_i hc
    have htx : s.link.tx = none := by simp at hc; exact hc.2
    split
    · exact ((Calm.refl s).of_same (by simp [State.mode]) (by simp) (by simp) (by simp) (by simp) (by simp)).kept
    · rename_i f _
      split
      · exact ((Calm.refl s).capture _ _ _).kept.trans (State.changeOutside_kept _ _)
      · have hhear : Kept s (s.hear f.sender) :=
          ((Calm.refl s).of_same (by simp [State.hear, State.mode]) (by simp [State.hear]) (by simp [State.hear])
            (by simp [State.hear]) (by simp [State.hear]) (by simp [State.hear])).kept
        exact (hhear.trans (State.takeFrame_kept (by simp [State.hear, htx]) f)).trans ((Calm.refl _).heardOther).kept

theorem State.takeStartBit_calm (s : State) : Calm s s.takeStartBit := by
  unfold State.takeStartBit
  split
  · rename_i hc _
    refine ⟨id, fun _ _ => ?_, id, id⟩
    simp [State.clearToSend] at hc
    exact hc.1.2
  · exact .refl s

/-! Expiries and commands. -/

/-- The station state, the inbound side of the link and the changes that wait stay; the hold stays under a crank. -/
structure Undisturbed (s t : State) : Prop where
  mode : t.mode = s.mode
  straps : t.straps = s.straps
  inbound : t.link.inbound = s.link.inbound
  tx : t.link.tx = s.link.tx
  late : t.link.late = s.link.late
  hold : s.HoldUnderCrank → t.HoldUnderCrank

theorem Undisturbed.refl (s : State) : Undisturbed s s := ⟨rfl, rfl, rfl, rfl, rfl, id⟩

theorem Undisturbed.trans {a b c : State} (h : Undisturbed a b) (k : Undisturbed b c) : Undisturbed a c :=
  ⟨k.mode.trans h.mode, k.straps.trans h.straps, k.inbound.trans h.inbound, k.tx.trans h.tx, k.late.trans h.late,
    k.hold ∘ h.hold⟩

theorem Undisturbed.calm {s t : State} (h : Undisturbed s t) : Calm s t :=
  (Calm.refl s).of_crank h.mode h.straps h.inbound h.tx h.late h.hold

theorem Undisturbed.conclude {s t : State} (h : Undisturbed s t) : Undisturbed s t.conclude :=
  h.trans ⟨by simp [State.mode], by simp, by simp, by simp, by simp, fun k => k.of_same (by simp)⟩

/-- R160: of the commands only JOIN and RESTART move the station state. -/
theorem State.perform_undisturbed (s : State) (c : Command) (hj : c ≠ .join) (hr : c ≠ .restart) :
    Undisturbed s (s.perform c).state := by
  have hsame {t : State} (hs : t.station = s.station) (ht : t.straps = s.straps)
      (hi : t.link.inbound = s.link.inbound) (hx : t.link.tx = s.link.tx) (hl : t.link.late = s.link.late)
      (hc : t.crank = s.crank) : Undisturbed s t :=
    ⟨by rw [State.mode, hs]; rfl, ht, hi, hx, hl, fun k => k.of_same hc⟩
  have hidle {t : State} (hs : t.station = s.station) (ht : t.straps = s.straps)
      (hi : t.link.inbound = s.link.inbound) (hx : t.link.tx = s.link.tx) (hl : t.link.late = s.link.late) 
      (hc : t.crank.hold = false) : Undisturbed s t :=
    ⟨by rw [State.mode, hs]; rfl, ht, hi, hx, hl, fun _ => State.holdUnderCrank_of (.inl hc)⟩
  cases c <;> simp only [State.perform]
  case join => exact absurd rfl hj
  case restart => exact absurd rfl hr
  case configure =>
    unfold State.configure State.setPart
    (repeat' split) <;> exact hsame rfl rfl rfl rfl rfl rfl
  case readConfig | readNotice | readFault | clearFault | echo => exact hsame rfl rfl rfl rfl rfl rfl
  case leave | announceBudget | lift | readHistory | freezeHistory | thawHistory | engineRunning | engineStopped =>
    exact State.checked_state (P := Undisturbed s) (.refl s) (hsame rfl rfl rfl rfl rfl rfl) _
  case requestCrank =>
    exact State.checked_state (P := Undisturbed s) (.refl s) (hidle rfl rfl rfl rfl rfl rfl) _
  case crankDone =>
    refine State.checked_state (P := Undisturbed s) (.refl s) ?_ _
    exact hidle (by simp [State.accept, State.reportPhase]) (by simp [State.accept, State.reportPhase])
      (by simp [State.accept, State.reportPhase]) (by simp [State.accept, State.reportPhase])
      (by simp [State.accept, State.reportPhase]) (by simp [State.accept]; rfl)
  case crankFailed =>
    refine State.checked_state (P := Undisturbed s) (.refl s) ?_ _
    obtain ⟨hlink, hcrank, -, -, hstation, -, -, -, -, hstraps⟩ := s.failCrank_eq
    refine hidle hstation hstraps (by rw [State.accept, hlink]) (by rw [State.accept, hlink])
      (by rw [State.accept, hlink]) ?_
    rw [State.accept, hcrank]
    split <;> rfl
  case cancelCrank =>
    refine State.checked_state (P := Undisturbed s) (.refl s) ?_ _
    split
    · exact hidle (by simp [State.answer]) (by simp [State.answer]) (by simp [State.answer]) (by simp [State.answer])
        (by simp [State.answer]) (by simp [State.answer]; rfl)
    · refine State.checked_state (P := Undisturbed s) (.refl s) ?_ _
      exact hidle (by simp [State.accept, State.reportPhase]) (by simp [State.accept, State.reportPhase])
        (by simp [State.accept, State.reportPhase]) (by simp [State.accept, State.reportPhase])
        (by simp [State.accept, State.reportPhase]) (by simp [State.accept]; rfl)
  case claim =>
    unfold State.claimCommand
    (repeat' split) <;> first
      | exact .refl s
      | exact State.checked_state (P := Undisturbed s) (.refl s) (hsame rfl rfl rfl rfl rfl rfl) _
  case release =>
    unfold State.releaseCommand
    (repeat' split) <;> first
      | exact .refl s
      | exact State.checked_state (P := Undisturbed s) (.refl s) (hsame rfl rfl rfl rfl rfl rfl) _
      | exact hsame (by simp [State.answer, State.withdrawClaim]) (by simp [State.answer, State.withdrawClaim])
          (by simp [State.answer, State.withdrawClaim]) (by simp [State.answer, State.withdrawClaim])
          (by simp [State.answer, State.withdrawClaim]) (by simp [State.answer, State.withdrawClaim])
  case readStatus =>
    unfold State.readStatus
    split <;> exact .refl s
  case readClaim =>
    unfold State.readClaim
    (repeat' split) <;> exact .refl s
  case readPeer =>
    unfold State.readPeer
    split <;> exact .refl s
  case setWatch =>
    unfold State.setWatch
    dsimp only
    (repeat' split) <;> first
      | exact .refl s
      | exact hsame (by simp [State.answer]) (by simp [State.answer]) (by simp [State.answer]) (by simp [State.answer])
          (by simp [State.answer]) (by simp [State.answer])
  case armWatch =>
    unfold State.armWatch
    (repeat' split) <;> first
      | exact .refl s
      | exact hsame (by simp [State.answer]) (by simp [State.answer]) (by simp [State.answer]) (by simp [State.answer])
          (by simp [State.answer]) (by simp [State.answer])

/-- R168: a soft restart empties the link and releases the crank hold. -/
theorem State.softReset_calm (s : State) : Calm s s.softReset := by
  have hlink : s.softReset.link.inbound = [] ∧ s.softReset.link.late = [] ∧ s.softReset.crank = .reset := by
    simp [State.softReset]
    exact ⟨rfl, rfl⟩
  obtain ⟨hinbound, hlate, hcrank⟩ := hlink
  refine ⟨fun _ f hf => ?_, fun _ _ => hinbound, fun _ => State.holdUnderCrank_of (.inl (by rw [hcrank]; rfl)), fun _ => hlate⟩
  rw [hinbound] at hf
  cases hf

theorem State.joinCommand_calm (s : State) : Calm s s.joinCommand.state := by
  unfold State.joinCommand
  split
  · split
    · exact ((Calm.refl s).of_same (t := s.setConfig { s.config with locked := true }) rfl rfl rfl rfl rfl rfl).changeState _ _
    · exact .refl s
  · split
    · exact ((Calm.refl s).of_same (t := s.freshTables) rfl rfl rfl rfl rfl rfl).changeState _ _
    · exact .refl s
  · exact .refl s

theorem State.restartCommand_calm (s : State) : Calm s s.restartCommand.state := by
  simp only [State.restartCommand]
  split
  · exact .refl s
  · exact ((s.softReset_calm).of_same (t := State.post _ _) (by simp [State.mode]) (by simp) (by simp) (by simp) (by simp)
      (by simp)).changeState _ _

theorem State.perform_calm (s : State) (c : Command) : Calm s (s.perform c).state := by
  by_cases hj : c = .join
  · subst hj
    exact s.joinCommand_calm
  by_cases hr : c = .restart
  · subst hr
    exact s.restartCommand_calm
  exact (s.perform_undisturbed c hj hr).calm

end Sys2Proof.Machine
end


section
/-! Expiries and the rows, and the invariants of the inbound queue, of the waiting changes and of the crank hold over every
step (R54, R56, R73, R78, R80, R87; log entry 44). -/

namespace Sys2Proof.Machine

theorem Undisturbed.of_same {s t : State} (hm : t.station = s.station) (hs : t.straps = s.straps)
    (hi : t.link.inbound = s.link.inbound) (ht : t.link.tx = s.link.tx) (hl : t.link.late = s.link.late)
    (hc : t.crank = s.crank) : Undisturbed s t :=
  ⟨by rw [State.mode, hm]; rfl, hs, hi, ht, hl, fun k => k.of_same hc⟩

theorem State.expire_undisturbed (s : State) (deadline : Option Nat) {act : State → State}
    (ha : ∀ u, Undisturbed u (act u)) : Undisturbed s (s.expire deadline act) := by
  cases deadline with
  | some d =>
    have hadvance : Undisturbed s (s.advanceTo d) :=
      .of_same (by simp) (by simp) (by simp) (by simp) (by simp) (by simp)
    exact (hadvance.trans (ha _)).conclude
  | none => exact .refl s

theorem State.expire_kept (s : State) (deadline : Option Nat) {act : State → State} (ha : ∀ u, Kept u (act u)) :
    Kept s (s.expire deadline act) := by
  cases deadline with
  | some d =>
    have hadvance : Undisturbed s (s.advanceTo d) :=
      .of_same (by simp) (by simp) (by simp) (by simp) (by simp) (by simp)
    exact (hadvance.calm.kept.trans (ha _)).trans (Calm.refl _).conclude.kept
  | none => exact ⟨id, id, id⟩

/-! The expiries that move neither the station state nor the inbound side of the link. -/

theorem State.beat_undisturbed (s : State) : Undisturbed s s.beat := by
  simp only [State.beat]
  (repeat' split) <;> exact .of_same (by simp) (by simp) (by simp) (by simp) (by simp) (by simp)

theorem State.peerSilent_undisturbed (s : State) (p : Station) : Undisturbed s (s.peerSilent p) := by
  simp only [State.peerSilent]
  split <;> exact .of_same (by simp) (by simp) (by simp) (by simp) (by simp) (by simp)

theorem State.orphansDue_undisturbed (s : State) (p : Station) : Undisturbed s (s.orphansDue p) := by
  simp only [State.orphansDue]
  split <;> exact .of_same (by simp) (by simp) (by simp) (by simp) (by simp) (by simp)

/-- R56, R57: the settle timer changes neither the state nor the hold where it restarts. -/
theorem State.startSettle_undisturbed (s : State) : Undisturbed s s.startSettle :=
  ⟨by simp [State.mode], by simp, by simp, by simp, by simp, fun k => k.of_state rfl rfl⟩

theorem State.beginCrank_undisturbed (s : State) (attempts : BitVec 2) : Undisturbed s (s.beginCrank attempts) := by
  unfold State.beginCrank
  split
  · exact ⟨rfl, rfl, rfl, rfl, rfl, fun _ => State.holdUnderCrank_of (.inr rfl)⟩
  · have hcaptured : Undisturbed s (s.capture .outboundFull .none (some .phase)) :=
      .of_same (by simp) (by simp) (by simp) (by simp) (by simp) (by simp)
    exact hcaptured.trans (State.startSettle_undisturbed _)

theorem State.settleExpires_undisturbed (s : State) : Undisturbed s s.settleExpires := by
  unfold State.settleExpires
  split
  · dsimp only
    split
    · exact ⟨by simp [State.mode], by simp, by simp, by simp, by simp, fun k => k.of_state (by simp) (by simp)⟩
    · exact s.beginCrank_undisturbed _
  · exact s.startSettle_undisturbed

theorem State.toIdle_undisturbed (s : State) : Undisturbed s s.toIdle :=
  ⟨by simp [State.mode], by simp, by simp, by simp, by simp, fun _ => State.holdUnderCrank_of (.inl (by simp; rfl))⟩

theorem State.restartLockout_undisturbed (s : State) : Undisturbed s s.restartLockout :=
  ⟨rfl, rfl, rfl, rfl, rfl, fun k => k.of_state rfl rfl⟩

theorem State.lockoutExpires_undisturbed (s : State) : Undisturbed s s.lockoutExpires := by
  have hpost (u : State) (cause : PhaseCause) : Undisturbed u (u.postPhase cause) :=
    .of_same (by simp) (by simp) (by simp) (by simp) (by simp) (by simp)
  have hpush : Undisturbed s (s.pushUrgent closingStop) := .of_same rfl rfl rfl rfl rfl rfl
  have hcapture : Undisturbed s (s.capture .outboundFull .none (some .phase)) :=
    .of_same (by simp) (by simp) (by simp) (by simp) (by simp) (by simp)
  unfold State.lockoutExpires
  (repeat' split) <;> first
    | exact (hpush.trans (State.toIdle_undisturbed _)).trans (hpost _ _)
    | exact hcapture.trans (State.restartLockout_undisturbed _)
    | exact s.toIdle_undisturbed.trans (hpost _ _)
    | exact s.restartLockout_undisturbed

theorem State.latchExpires_undisturbed (s : State) : Undisturbed s s.latchExpires := by
  simp only [State.latchExpires]
  (repeat' split) <;> exact .of_same (by simp) (by simp) (by simp) (by simp) (by simp) (by simp)

theorem State.offExpires_undisturbed (s : State) (i : SlotNo) : Undisturbed s (s.offExpires i) := by
  unfold State.offExpires State.restartOff State.setOffDeadline
  (repeat' split) <;> exact .of_same (by simp) (by simp) (by simp) (by simp) (by simp) (by simp)

theorem State.retryClear_undisturbed (s : State) (i : SlotNo) : Undisturbed s (s.retryClear i) :=
  .of_same (by simp [State.retryClear]) (by simp [State.retryClear]) (by simp [State.retryClear])
    (by simp [State.retryClear]) (by simp [State.retryClear]) (by simp [State.retryClear])

theorem State.slotSettled_undisturbed (s : State) (i : SlotNo) : Undisturbed s (s.slotSettled i) := by
  unfold State.slotSettled State.restartSettle State.setSettle
  (repeat' split) <;> exact .of_same (by simp) (by simp) (by simp) (by simp) (by simp) (by simp)

theorem State.gateExpires_undisturbed (s : State) (g : GateTimeout) : Undisturbed s (s.gateExpires g) := by
  unfold State.gateExpires State.restartGate State.setGate
  (repeat' split) <;> exact .of_same (by simp) (by simp) (by simp) (by simp) (by simp) (by simp)

theorem State.holdReached_undisturbed (s : State) (i : SlotNo) : Undisturbed s (s.holdReached i) := by
  unfold State.holdReached State.holdBack State.beginRelease
  (repeat' split) <;> exact .of_same (by simp) (by simp) (by simp) (by simp) (by simp) (by simp)

theorem State.peerDrive_undisturbed (s : State) (low : Bool) : Undisturbed s (s.peerDrive low) := by
  simp only [State.peerDrive]
  split <;> exact .of_same (by simp) (by simp) (by simp) (by simp) (by simp) (by simp)

theorem State.feedback_undisturbed (s : State) (i : SlotNo) (drawing : Bool) : Undisturbed s (s.feedback i drawing) := by
  simp only [State.feedback]
  split <;> exact .of_same (by simp) (by simp) (by simp) (by simp) (by simp) (by simp)

theorem State.sample_undisturbed (s : State) (v : Byte) : Undisturbed s (s.sample v) :=
  .of_same (by simp [State.sample]) (by simp [State.sample]) (by simp [State.sample]) (by simp [State.sample])
    (by simp [State.sample]) (by simp [State.sample])

theorem State.endPulse_undisturbed (s : State) (second : Bool) : Undisturbed s (s.endPulse second) :=
  .of_same (by simp [State.endPulse]) (by simp [State.endPulse]) (by simp [State.endPulse]) (by simp [State.endPulse])
    (by simp [State.endPulse]) (by simp [State.endPulse])

theorem State.askAgain_undisturbed (s : State) : Undisturbed s s.askAgain := by
  simp only [State.askAgain]
  split <;> exact ⟨by simp [State.mode, State.requestSync], by simp, by simp, by simp, by simp, fun k => k.of_same (by simp)⟩

theorem Calm.keepReplica (s : State) : Calm s s.keepReplica := by
  have hcaptured := (Calm.refl s).capture .syncUnanswered .none none
  simp only [State.keepReplica]
  (repeat' split)
  all_goals first
    | exact hcaptured.changeState _ _
    | exact (hcaptured.changeState _ _).queueJoin _

theorem Calm.syncExpires (s : State) : Calm s s.syncExpires := by
  unfold State.syncExpires
  split
  · exact s.askAgain_undisturbed.calm
  · split
    · exact (Calm.refl s).adoptStart
    · exact .keepReplica s
    · exact .refl s

/-! The mailbox and the transfers. -/

section
variable {P : State → Prop} (hport : ∀ s v, P s → P (s.setPort v)) (hperform : ∀ s c, P s → P (s.perform c).state)
  (hconclude : ∀ s, P s → P s.conclude)
include hport hperform

/-- R159: what every command keeps, and the port does not hold, the taking of a command keeps. -/
theorem State.takeCommand_keeps {s : State} (h : P s) : P s.takeCommand := by
  unfold State.takeCommand
  split
  · unfold State.runRecord
    split
    · exact hport _ _ (hperform _ _ h)
    · exact hport _ _ h
  · exact h

theorem State.takeAtRise_keeps {s : State} (h : P s) (applying : Bool) : P (s.takeAtRise applying) := by
  unfold State.takeAtRise
  split
  · exact hport _ _ h
  · exact State.takeCommand_keeps hport hperform h

theorem State.offerRecord_keeps {s : State} (h : P s) (applying : Bool) (record : CommandRecord) :
    P (s.offerRecord applying record) := by
  unfold State.offerRecord
  split
  · exact hport _ _ h
  · exact State.takeAtRise_keeps hport hperform (hport _ _ h) applying

theorem State.rise_keeps {s : State} (h : P s) (shifted : List Byte) (applying : Bool) : P (s.rise shifted applying) := by
  have hs (o out) : P (s.shiftOut o out) := hport _ _ h
  unfold State.rise
  split
  · exact h
  · exact hport _ _ h
  split
  · exact hs _ _
  · split
    · exact hs _ _
    · exact State.offerRecord_keeps hport hperform (hs _ _) applying _
  · unfold State.readRise
    dsimp only
    split
    · split
      · exact State.takeAtRise_keeps hport hperform (hport _ _ (hs _ _)) applying
      · exact hs _ _
    · exact hs _ _

theorem State.transfer_keeps {s : State} (h : P s) (span : Span) (shifted : List Byte) : P (s.transfer span shifted) := by
  unfold State.transfer
  split
  · exact h
  · split
    · exact State.rise_keeps hport hperform (hport _ _ h) shifted false
    · exact hport _ _ h
    · exact State.rise_keeps hport hperform h shifted _

include hconclude

theorem State.give_keeps {s : State} (h : P s) (c : Command) : P (s.give c) := by
  unfold State.give
  split
  · exact h
  · exact hconclude _ (State.offerRecord_keeps hport hperform h false _)

theorem State.takeDue_keeps {s : State} (h : P s) : P s.takeDue :=
  hconclude _ (State.takeCommand_keeps hport hperform (hport _ _ h))

end

theorem Calm.setPort {b s : State} (h : Calm b s) (v : Port) : Calm b (s.setPort v) := h.of_same rfl rfl rfl rfl rfl rfl

theorem Calm.perform {b s : State} (h : Calm b s) (c : Command) : Calm b (s.perform c).state :=
  h.trans (s.perform_calm c)

theorem State.give_calm (s : State) (c : Command) : Calm s (s.give c) :=
  State.give_keeps (P := Calm s) (fun _ v h => h.setPort v) (fun _ c h => h.perform c) (fun _ h => h.conclude) (.refl s) c

/-! The rows. -/

theorem Calm.application {b s : State} (h : Calm b s) (kind : FrameKind) : Calm b (s.application kind) := by
  unfold State.application
  split
  · exact (h.applyKind kind).makeLate
  · exact h.applyKind kind

theorem Calm.applyRow {b s : State} (h : Calm b s) (kind : FrameKind) : Calm b (s.applyRow kind) := by
  unfold State.applyRow
  split
  · exact State.takeDue_keeps (P := Calm b) (fun _ v h => h.setPort v) (fun _ c h => h.perform c) (fun _ h => h.conclude)
      (h.application kind)
  · exact h.application kind

theorem State.pinReset_calm (s : State) (edge : ResetEdge) (pins : StrapPins) : Calm s (s.pinReset edge pins) := by
  cases edge <;> exact ⟨fun _ _ hf => (by cases hf), fun _ _ => rfl, fun _ hh => (by cases hh), fun _ => rfl⟩

/-- R54, R56, R73, R78, R80: every row keeps the inbound queue one of admitted frames, with none beside a frame in
transmission, and the hold under a crank. -/
theorem exec_kept {c : Instr} {s t : State} (he : exec c s = .next t) : Kept s t := by
  have hnext {u : State} (hu : Kept s u) (e : Host.Outcome.next u = (.next t : Host.Outcome State Fault Refusal)) :
      Kept s t := by
    cases e
    exact hu
  have hexpire {d : Option Nat} {act : State → State} (ha : ∀ u, Undisturbed u (act u))
      (e : Host.Outcome.next (s.expire d act) = (.next t : Host.Outcome State Fault Refusal)) : Kept s t :=
    hnext (s.expire_undisturbed d ha).calm.kept e
  cases c
  case pinReset edge straps => exact hnext (s.pinReset_calm edge straps).kept he
  case spiStatusTransfer | spiWriteTransfer | spiReadTransfer =>
    exact hnext (State.transfer_keeps (P := Calm s) (fun _ v h => h.setPort v) (fun _ c h => h.perform c) (.refl s) _
      _).conclude.kept he
  case presenceFrame | syncRequestFrame | snapshotFrame | joinFrame | leaveFrame | claimFrame | releaseFrame |
      settledFrame | phaseFrame | budgetFrame | shedRequestFrame | liftFrame | shedFaultFrame | stuckClearFrame |
      absenceFrame | reclaimFrame =>
    exact hnext ((Calm.refl s).applyRow _).kept he
  case startBit => exact hnext s.takeStartBit_calm.conclude.kept he
  case lostContention => exact hnext ((Calm.refl s).txEnds (t := s.endTransmission) rfl rfl rfl rfl rfl rfl).conclude.kept he
  case frameReceived w => exact hnext ((s.receive_kept w).trans (Calm.refl _).conclude.kept) he
  case shedFallingEdge | shedRisingEdge => exact hnext (s.peerDrive_undisturbed _).conclude.calm.kept he
  case feedbackChange i drawing => exact hnext (s.feedback_undisturbed i drawing).conclude.calm.kept he
  case readbackFailure =>
    unfold exec execReadbackFailure at he
    dsimp only at he
    split at he
    · exact hnext (s.failReadback_calm _).conclude.kept he
    · exact hnext (Calm.refl s).kept he
  case frameCompletedClean =>
    unfold exec execFrameCompletedClean at he
    dsimp only at he
    split at he
    · exact hnext (s.completeClean_calm _).conclude.kept he
    · exact hnext (Calm.refl s).kept he
  case gateTimeoutExpiry =>
    unfold exec execGateTimeoutExpiry at he
    dsimp only at he
    split at he
    · exact hexpire (fun u => u.gateExpires_undisturbed _) he
    · exact hnext (Calm.refl s).kept he
  case syncTimeout => exact hnext (s.expire_kept _ fun u => (Calm.syncExpires u).kept) he
  case isolationBySilence => exact hnext (s.expire_kept _ fun u => u.changeOutside_kept _) he
  case heartbeatExpiry => exact hexpire State.beat_undisturbed he
  case probeDue => exact hexpire (act := State.probeFalls) (fun _ => .of_same rfl rfl rfl rfl rfl rfl) he
  case silenceTimerExpiry p => exact hexpire (fun u => u.peerSilent_undisturbed p) he
  case orphanHoldExpiry p => exact hexpire (fun u => u.orphansDue_undisturbed p) he
  case crankSettleExpiry => exact hexpire State.settleExpires_undisturbed he
  case lockoutExpiry => exact hexpire State.lockoutExpires_undisturbed he
  case latchLimitExpiry => exact hexpire State.latchExpires_undisturbed he
  case offDeadlineExpiry i => exact hexpire (fun u => u.offExpires_undisturbed i) he
  case stuckClearRetry i => exact hexpire (fun u => u.retryClear_undisturbed i) he
  case settleTimerExpiry i => exact hexpire (fun u => u.slotSettled_undisturbed i) he
  case holdLimit i => exact hexpire (fun u => u.holdReached_undisturbed i) he
  case vsenseSample v => exact hexpire (fun u => u.sample_undisturbed v) he
  case watchPulseExpiry second => exact hexpire (fun u => u.endPulse_undisturbed second) he
  all_goals exact hnext (s.give_calm _).kept he

end Sys2Proof.Machine
end


section
/-! Entering a station state (R87, R118), and the changes that wait for an application over every step (log entry 44). -/

namespace Sys2Proof.Machine

/-! R87: the new state and what it leaves of the inbound queue. -/

@[simp] theorem State.onEntry_mode (s : State) : s.onEntry.mode = s.mode := by
  unfold State.onEntry
  split <;> simp [State.mode, State.startSync]

@[simp] theorem State.silenceOffline_mode (s : State) : s.silenceOffline.mode = s.mode := by simp [State.mode]

@[simp] theorem StationUnit.entered_state (u : StationUnit) (now : Nat) (new : StationState) (cause : SyncCause) :
    (u.entered now new cause).state = new := rfl

@[simp] theorem State.enterOnce_mode (s : State) (new : StationState) (cause : SyncCause) :
    (s.enterOnce new cause).mode = new := by
  simp only [State.enterOnce, State.silenceOffline_mode, State.onEntry_mode]
  simp [State.mode, State.moveTo, State.shift]

@[simp] theorem State.enterAnnounced_mode (s : State) (new : StationState) (cause : SyncCause) :
    (s.enterAnnounced new cause).mode = new := by
  simp only [State.enterAnnounced, State.onEntry_mode]
  simp [State.mode, State.shift]

theorem State.dropInbound_inbound {s t : State} (hi : t.link.inbound = s.link.inbound) (hs : t.straps = s.straps) :
    t.dropInbound.link.inbound = s.link.inbound.filter (admits t.mode s.self) := by
  simp only [State.dropInbound, State.setLink, hi]
  rw [State.self, hs]
  rfl

/-- R87 step 3. -/
theorem State.enterOnce_inbound (s : State) (new : StationState) (cause : SyncCause) :
    (s.enterOnce new cause).link.inbound = s.link.inbound.filter (admits new s.self) := by
  have hm : (s.moveTo new cause).mode = new := by simp [State.mode, State.moveTo, State.shift]
  simp only [State.enterOnce, State.silenceOffline_frame, State.onEntry_frame]
  rw [State.dropInbound_inbound (s := s) (by simp) (by simp), hm]

theorem State.enterAnnounced_inbound (s : State) (new : StationState) (cause : SyncCause) :
    (s.enterAnnounced new cause).link.inbound = s.link.inbound.filter (admits new s.self) := by
  have hm : (s.shift new cause).mode = new := by simp [State.mode, State.shift]
  simp only [State.enterAnnounced, State.onEntry_frame]
  rw [State.dropInbound_inbound (s := s) (by simp) (by simp), hm]

theorem State.ownLeaveWaits_congr {s t : State} (hi : t.link.inbound = s.link.inbound) (hs : t.straps = s.straps) :
    t.ownLeaveWaits = s.ownLeaveWaits := by
  simp only [State.ownLeaveWaits, State.self, hi, hs]

/-- R87, R118: a change that keeps every frame of the inbound queue is one entry. -/
theorem State.enter_of_admitted {s : State} {new : StationState} (cause : SyncCause)
    (h : ∀ f ∈ s.link.inbound, admits new s.self f = true) :
    s.enter new cause = s.enterOnce new cause ∧ (s.enter new cause).link.inbound = s.link.inbound := by
  have hi : (s.enterOnce new cause).link.inbound = s.link.inbound := by
    rw [State.enterOnce_inbound, List.filter_eq_self.mpr h]
  have he : s.enter new cause = s.enterOnce new cause := by
    simp only [State.enter, State.ownLeaveWaits_congr hi (State.enterOnce_frame s new cause).1.2.1]
    cases s.ownLeaveWaits <;> rfl
  exact ⟨he, he ▸ hi⟩

/-! R78: what a state admits. -/

/-- JOINING and TAINTED admit snapshots alone, which ENTERING and MEMBER admit too. -/
theorem admits_of_syncing {mode new : StationState} (hm : mode = .joining ∨ mode = .tainted)
    (hn : new = .entering ∨ new = .member) {self : Station} {f : Frame} (h : admits mode self f = true) :
    admits new self f = true := by
  have hsnap : ∃ requester epoch image, f.body = .snapshot requester epoch image := by
    rcases hm with rfl | rfl <;> unfold admits at h <;> dsimp only at h <;> split at h <;>
      first | exact ⟨_, _, _, by assumption⟩ | cases h
  obtain ⟨requester, epoch, image, hb⟩ := hsnap
  rcases hn with rfl | rfl <;> simp [admits, hb]

/-- R78: UNCONFIGURED, ISOLATED and OFFLINE admit no frame. -/
theorem State.InboundFits.eq_nil {s : State} (h : s.InboundFits)
    (hm : s.mode = .unconfigured ∨ s.mode = .isolated ∨ s.mode = .offline) : s.link.inbound = [] := by
  refine List.eq_nil_iff_forall_not_mem.mpr fun f hf => ?_
  have := h f hf
  rcases hm with hm | hm | hm <;> rw [hm] at this <;> cases this

/-! The changes that wait (log entry 44). -/

/-- A change of station state waits only while a frame is under application. -/
def State.Waits (s : State) : Prop := s.link.late ≠ [] → s.link.inbound ≠ []

theorem State.Waits.late_eq_nil {s : State} (h : s.Waits) (hi : s.link.inbound = []) : s.link.late = [] :=
  Classical.byContradiction fun hl => h hl hi

theorem State.waits_of_late {s : State} (h : s.link.late = []) : s.Waits := fun hl => absurd h hl

theorem State.Waits.of_same {s t : State} (h : s.Waits) (hl : t.link.late = s.link.late)
    (hi : t.link.inbound = s.link.inbound) : t.Waits := by
  unfold State.Waits
  rw [hl, hi]
  exact h

/-- With no frame under application none waits, and none begins to. -/
theorem State.Waits.of_calm {s t : State} (h : s.Waits) (hi : s.link.inbound = []) (hc : Calm s t) : t.Waits :=
  State.waits_of_late (hc.late (h.late_eq_nil hi))

theorem Undisturbed.waits {s t : State} (h : Undisturbed s t) (hw : s.Waits) : t.Waits := hw.of_same h.late h.inbound

theorem State.Waits.defer {s : State} (ha : s.applying = true) (c : LateChange) : (s.defer c).Waits := by
  have hi : s.link.inbound ≠ [] := by simpa [State.applying] using ha
  unfold State.defer
  split <;> exact fun _ => hi

theorem State.Waits.changeOutside {s : State} (h : s.Waits) (c : LateChange) : (s.changeOutside c).Waits := by
  unfold State.changeOutside
  split
  · rename_i ha
    exact .defer ha c
  · rename_i ha
    exact h.of_calm (by simpa [State.applying] using ha) ((Calm.refl s).makeChange c)

theorem State.Waits.conclude {s : State} (h : s.Waits) : s.conclude.Waits := h.of_same (by simp) (by simp)

/-- R78, R79: a frame that joins the queue puts it under application; an overrun waits in a full queue. -/
theorem State.Waits.takeFrame {s : State} (h : s.Waits) (f : Frame) : (s.takeFrame f).Waits := by
  unfold State.takeFrame State.overrun
  (repeat' split)
  · exact fun _ => by simp [State.pushInbound]
  · exact State.Waits.changeOutside (h.of_same (by simp) (by simp)) _
  · exact h
  · exact h

/-- R79, R87: a full queue is one under application, so that an overrun waits. -/
theorem State.takeFrame_mode (s : State) (f : Frame) : (s.takeFrame f).mode = s.mode := by
  unfold State.takeFrame State.overrun
  split
  · split
    · rfl
    · rename_i hroom
      have happlying : (s.capture .inboundOverrun (.station f.sender) (some f.body.kind)).applying = true := by
        cases hq : s.link.inbound with
        | nil => simp [State.inboundRoom, hq, Config.inboundCapacity] at hroom
        | cons g rest => simp [State.applying, hq]
      split
      · simp only [State.changeOutside, happlying, if_true, State.defer]
        split <;> simp [State.mode]
      · rfl
  · rfl

theorem State.receive_waits {s : State} (hf : s.InboundFits) (h : s.Waits) (w : WireFrame) : (s.receive w).Waits := by
  unfold State.receive
  split
  · exact h
  split
  · exact h.of_same (by simp) (by simp)
  rename_i f _
  split
  · exact State.Waits.changeOutside (h.of_same (by simp) (by simp)) _
  have hhear : (s.hear f.sender).Waits := h.of_same (by simp [State.hear]) (by simp [State.hear])
  by_cases hm : s.mode = .isolated
  · have hnone : (s.hear f.sender).takeFrame f = s.hear f.sender := by
      have hmode : (s.hear f.sender).mode = .isolated := by simpa [State.hear, State.mode] using hm
      simp [State.takeFrame, hmode, admits]
    rw [hnone]
    exact hhear.of_calm (by simpa [State.hear] using hf.eq_nil (.inr (.inl hm))) (Calm.refl _).heardOther
  · have hmode : ((s.hear f.sender).takeFrame f).mode ≠ .isolated := by
      rw [State.takeFrame_mode]
      simpa [State.hear, State.mode] using hm
    have hheard : ((s.hear f.sender).takeFrame f).heardOther = (s.hear f.sender).takeFrame f := by
      simp [State.heardOther, hmode]
    rw [hheard]
    exact hhear.takeFrame f

theorem State.Waits.enter {s : State} (h : s.Waits) {new : StationState} (cause : SyncCause)
    (ha : ∀ f ∈ s.link.inbound, admits new s.self f = true) : (s.enter new cause).Waits :=
  h.of_same (by simp) (State.enter_of_admitted cause ha).2

/-- R95: the end of the sync sequence keeps the snapshots of the inbound queue. -/
theorem State.syncExpires_waits {s : State} (hf : s.InboundFits) (h : s.Waits) : s.syncExpires.Waits := by
  have hfits (hm : s.mode = .joining ∨ s.mode = .tainted) {new : StationState} (hn : new = .entering ∨ new = .member) :
      ∀ f ∈ s.link.inbound, admits new s.self f = true := fun f hq => admits_of_syncing hm hn (hf f hq)
  unfold State.syncExpires
  split
  · exact s.askAgain_undisturbed.waits h
  split
  · rename_i hm
    have hentered : (((s.setReplica (some .start)).forgetIsolation).enter .entering .startAdopted).Waits :=
      State.Waits.enter (h.of_same (by simp) (by simp)) _
        (by simpa [State.self] using hfits (.inl hm) (.inl rfl))
    exact hentered.of_same (by simp [State.adoptStart, State.enterLoaded]) (by simp [State.adoptStart, State.enterLoaded])
  · rename_i hm
    have hchanged {new : StationState} (hn : new = .entering ∨ new = .member) :
        ((s.capture .syncUnanswered .none none).changeState new .syncUnanswered).Waits := by
      have hentered := State.Waits.enter (s := s.capture .syncUnanswered .none none) (new := new)
        (h.of_same (by simp) (by simp)) .syncUnanswered (by simpa [State.self] using hfits (.inr hm) hn)
      exact hentered.of_same (by simp) (by simp [State.changeState])
    simp only [State.keepReplica]
    (repeat' split)
    case h_1.isTrue | h_2.isTrue => exact hchanged (.inr rfl)
    case h_1.isFalse | h_2.isFalse => exact (hchanged (.inl rfl)).of_same (by simp) (by simp)
  · exact h

/-- JOIN is taken where no frame waits, and RESTART empties the queue. -/
theorem State.perform_waits {s : State} (hf : s.InboundFits) (h : s.Waits) (c : Command) : (s.perform c).state.Waits := by
  by_cases hr : c = .restart
  · subst hr
    simp only [State.perform, State.restartCommand]
    split
    · exact h
    · have hlate : s.softReset.link.late = [] := by
        simp [State.softReset]
        rfl
      exact State.waits_of_late (by simp [State.answer, hlate])
  by_cases hj : c = .join
  · subst hj
    by_cases hm : s.mode = .unconfigured ∨ s.mode = .offline
    · exact h.of_calm (hf.eq_nil (hm.imp id .inr)) s.joinCommand_calm
    · have hrefused : s.joinCommand.state = s := by
        unfold State.joinCommand
        split <;> simp_all [State.refuse]
      simp only [State.perform, hrefused]
      exact h
  exact (s.perform_undisturbed c hj hr).waits h

theorem State.takeStartBit_queues (s : State) :
    s.takeStartBit.link.late = s.link.late ∧ s.takeStartBit.link.inbound = s.link.inbound := by
  unfold State.takeStartBit
  split <;> exact ⟨rfl, rfl⟩

theorem State.applyHead_of_headIs {s : State} {kind : FrameKind} (h : s.headIs kind = false)
    (act : Frame → State → State) : s.applyHead kind act = s := by
  unfold State.applyHead
  split
  · rename_i f rest hq
    rw [if_neg (by simpa [State.headIs, hq] using h)]
  · rfl

/-- R80: with no frame of this kind at the head, nothing is applied. -/
theorem State.applyKind_of_headIs {s : State} {kind : FrameKind} (h : s.headIs kind = false) : s.applyKind kind = s := by
  cases kind <;> simp only [State.applyKind, State.plainFrame, State.snapshotFrame, State.tableFrame] <;>
    exact State.applyHead_of_headIs h _

/-- R80, R87: at the end of an application no change waits any more. -/
theorem State.application_waits {s : State} (h : s.Waits) (kind : FrameKind) : (s.application kind).Waits := by
  by_cases hl : s.link.late = []
  · exact State.waits_of_late (((Calm.refl s).application kind).late hl)
  cases hh : s.headIs kind with
  | true =>
    rw [State.application_late s kind hh hl]
    exact State.waits_of_late (State.makeLate_late _)
  | false =>
    have hnone : s.application kind = s := by simp [State.application, hh, State.applyKind_of_headIs hh]
    rw [hnone]
    exact h

/-- Each command keeps both: the queue one of admitted frames, and no change waiting beside an empty queue. -/
theorem State.applyRow_waits {s : State} (hf : s.InboundFits) (h : s.Waits) (kind : FrameKind) :
    (s.applyRow kind).Waits := by
  unfold State.applyRow
  split
  · exact (State.takeDue_keeps (P := fun t => t.InboundFits ∧ t.Waits) (fun _ _ k => k)
      (fun u c k => ⟨(u.perform_calm c).fits k.1, State.perform_waits k.1 k.2 c⟩)
      (fun u k => ⟨(Calm.refl u).conclude.fits k.1, k.2.conclude⟩)
      ⟨((Calm.refl s).application kind).fits hf, State.application_waits h kind⟩).2
  · exact State.application_waits h kind

theorem State.expire_waits {s : State} (hf : s.InboundFits) (h : s.Waits) (deadline : Option Nat) {act : State → State}
    (ha : ∀ u, u.InboundFits → u.Waits → (act u).Waits) : (s.expire deadline act).Waits := by
  cases deadline with
  | some d => exact (ha _ (hf.of_same (by simp [State.mode]) (by simp) (by simp)) (h.of_same (by simp) (by simp))).conclude
  | none => exact h

/-- Log entry 44: every row keeps a change waiting only while a frame is under application. -/
theorem exec_waits {c : Instr} {s t : State} (hf : s.InboundFits) (ha : s.TxAlone) (h : s.Waits)
    (he : exec c s = .next t) : t.Waits := by
  have hnext {u : State} (hu : u.Waits) (e : Host.Outcome.next u = (.next t : Host.Outcome State Fault Refusal)) :
      t.Waits := by
    cases e
    exact hu
  have hexpire {d : Option Nat} {act : State → State} (hact : ∀ u, Undisturbed u (act u))
      (e : Host.Outcome.next (s.expire d act) = (.next t : Host.Outcome State Fault Refusal)) : t.Waits :=
    hnext ((s.expire_undisturbed d hact).waits h) e
  have hcommands (u : State) (c : Command) (k : u.InboundFits ∧ u.Waits) :
      (u.perform c).state.InboundFits ∧ (u.perform c).state.Waits :=
    ⟨(u.perform_calm c).fits k.1, State.perform_waits k.1 k.2 c⟩
  cases c
  case pinReset edge straps => exact hnext (State.waits_of_late (by cases edge <;> rfl)) he
  case spiStatusTransfer | spiWriteTransfer | spiReadTransfer =>
    exact hnext (State.transfer_keeps (P := fun t => t.InboundFits ∧ t.Waits) (fun _ _ k => k) hcommands ⟨hf, h⟩ _
      _).2.conclude he
  case presenceFrame | syncRequestFrame | snapshotFrame | joinFrame | leaveFrame | claimFrame | releaseFrame |
      settledFrame | phaseFrame | budgetFrame | shedRequestFrame | liftFrame | shedFaultFrame | stuckClearFrame |
      absenceFrame | reclaimFrame =>
    exact hnext (State.applyRow_waits hf h _) he
  case startBit => exact hnext (h.of_same s.takeStartBit_queues.1 s.takeStartBit_queues.2).conclude he
  case lostContention => exact hnext (h.of_same (t := s.endTransmission) rfl rfl).conclude he
  case frameReceived w => exact hnext (State.receive_waits hf h w).conclude he
  case shedFallingEdge | shedRisingEdge => exact hnext ((s.peerDrive_undisturbed _).waits h).conclude he
  case feedbackChange i drawing => exact hnext ((s.feedback_undisturbed i drawing).waits h).conclude he
  case readbackFailure =>
    unfold exec execReadbackFailure at he
    dsimp only at he
    split at he
    · rename_i tx htx
      exact hnext (h.of_calm (ha (by rw [htx]; rfl)) (s.failReadback_calm tx)).conclude he
    · exact hnext h he
  case frameCompletedClean =>
    unfold exec execFrameCompletedClean at he
    dsimp only at he
    split at he
    · rename_i tx htx
      exact hnext (h.of_calm (ha (by rw [htx]; rfl)) (s.completeClean_calm tx)).conclude he
    · exact hnext h he
  case gateTimeoutExpiry =>
    unfold exec execGateTimeoutExpiry at he
    dsimp only at he
    split at he
    · exact hexpire (fun u => u.gateExpires_undisturbed _) he
    · exact hnext h he
  case syncTimeout => exact hnext (State.expire_waits hf h _ fun _ k w => State.syncExpires_waits k w) he
  case isolationBySilence => exact hnext (State.expire_waits hf h _ fun _ _ w => w.changeOutside _) he
  case heartbeatExpiry => exact hexpire State.beat_undisturbed he
  case probeDue => exact hexpire (act := State.probeFalls) (fun _ => .of_same rfl rfl rfl rfl rfl rfl) he
  case silenceTimerExpiry p => exact hexpire (fun u => u.peerSilent_undisturbed p) he
  case orphanHoldExpiry p => exact hexpire (fun u => u.orphansDue_undisturbed p) he
  case crankSettleExpiry => exact hexpire State.settleExpires_undisturbed he
  case lockoutExpiry => exact hexpire State.lockoutExpires_undisturbed he
  case latchLimitExpiry => exact hexpire State.latchExpires_undisturbed he
  case offDeadlineExpiry i => exact hexpire (fun u => u.offExpires_undisturbed i) he
  case stuckClearRetry i => exact hexpire (fun u => u.retryClear_undisturbed i) he
  case settleTimerExpiry i => exact hexpire (fun u => u.slotSettled_undisturbed i) he
  case holdLimit i => exact hexpire (fun u => u.holdReached_undisturbed i) he
  case vsenseSample v => exact hexpire (fun u => u.sample_undisturbed v) he
  case watchPulseExpiry second => exact hexpire (fun u => u.endPulse_undisturbed second) he
  all_goals
    exact hnext (State.give_keeps (P := fun t => t.InboundFits ∧ t.Waits) (fun _ _ k => k) hcommands
      (fun u k => ⟨(Calm.refl u).conclude.fits k.1, k.2.conclude⟩) ⟨hf, h⟩ _).2 he

/-- Settles O9: every row keeps the three invariants; a tick and the queue of commands touch none of what they read. -/
theorem stepKeepsInboundAndHold : Obligations.StepKeepsInboundAndHold := by
  have hkept {s t : State} (he : step s = .next t) : Kept s t := by
    unfold step at he
    split at he
    · cases he
      have htick : Undisturbed s s.tick :=
        .of_same (by simp [State.tick]) (by simp [State.tick]) (by simp [State.tick]) (by simp [State.tick])
          (by simp [State.tick]) (by simp [State.tick])
      exact htick.calm.kept
    · have hpending (rest : List Instr) : Kept s (s.setPending rest) := ⟨id, id, id⟩
      exact (hpending _).trans (exec_kept he)
  refine ⟨fun s t hf he => (hkept he).fits hf, fun s t hf hl he => ⟨(hkept he).alone hl.1, ?_⟩,
    fun s t hh he => (hkept he).hold hh⟩
  unfold step at he
  split at he
  · cases he
    exact State.Waits.of_same (s := s) hl.2 (by simp [State.tick]) (by simp [State.tick])
  · rename_i c rest _
    exact exec_waits (s := s.setPending rest) hf hl.1 hl.2 he

end Sys2Proof.Machine
end


section
/-! The watch units and the line (R63, R143), and the edges of SHED# made by other stations (R63, R64, R124). -/

namespace Sys2Proof.Machine

/-- R63: the line follows the hold, the two pulses and the other stations. -/
theorem State.shedHigh_congr {s t : State} (hc : t.crank.hold = s.crank.hold) (h0 : t.w0.pulse = s.w0.pulse)
    (h1 : t.w1.pulse = s.w1.pulse) (hp : t.pins.peerShed = s.pins.peerShed) : t.shedHigh = s.shedHigh := by
  simp only [State.shedHigh, State.ownDrive, hc, h0, h1, hp]

/-- A write of a unit that keeps its pulse. -/
theorem State.setUnit_shedHigh {s : State} {second : Bool} {u : WatchUnit} (hu : u.pulse = (s.unit second).pulse) :
    (s.setUnit second u).shedHigh = s.shedHigh := by
  cases second <;> exact State.shedHigh_congr rfl (by first | exact hu | rfl) (by first | exact hu | rfl) rfl

/-- R143: a pulse holds the line low. -/
theorem State.shedHigh_of_pulse {s : State} {second : Bool} (h : (s.unit second).pulse.isSome = true) :
    s.shedHigh = false := by
  cases second <;> simp_all [State.shedHigh, State.ownDrive, State.unit]

@[simp] theorem State.setUnit_unit (s : State) (second : Bool) (u : WatchUnit) : (s.setUnit second u).unit second = u := by
  cases second <;> rfl

theorem State.unit_congr {s t : State} (h0 : t.w0 = s.w0) (h1 : t.w1 = s.w1) (second : Bool) :
    t.unit second = s.unit second := by
  simp only [State.unit, h0, h1]

/-- R143: the pulse is what PULL_SHED makes of its unit; the frame and the edge leave both units. -/
theorem State.pullShed_units (s : State) (second b : Bool) :
    (s.pullShed second).unit b = (s.setUnit second { s.unit second with pulse := some (s.now + Config.pulsePeriod) }).unit b := by
  simp only [State.pullShed]
  (repeat' split) <;> exact State.unit_congr (by simp) (by simp) b

/-- R143: PULL_SHED leaves the line low. -/
theorem State.pullShed_shedHigh (s : State) (second : Bool) : (s.pullShed second).shedHigh = false :=
  State.shedHigh_of_pulse (second := second) (by rw [State.pullShed_units, State.setUnit_unit]; rfl)

theorem State.pullShed_slotUnit {s : State} (h : s.shedHigh = false) (second : Bool) :
    (s.pullShed second).slotUnit = s.slotUnit := by
  simp only [State.pullShed, h]
  (repeat' split) <;> simp_all

theorem State.armSecond_shedHigh (s : State) : s.armSecond.shedHigh = s.shedHigh := by
  unfold State.armSecond
  split
  · exact State.shedHigh_congr rfl rfl rfl rfl
  · rfl

/-- R141: a firing brings the line down where it pulls it, and leaves it else. -/
theorem State.fire_shedHigh (s : State) (second : Bool) (v : EvalValue) :
    (s.fire second v).shedHigh = (s.shedHigh && !(s.unit second).actions.pullShed) := by
  have hmoved (u : State) (w : WatchUnit) (hw : w.pulse = (u.unit second).pulse) :
      (if second then u.setUnit second w else (u.setUnit second w).armSecond).shedHigh = u.shedHigh := by
    split
    · exact State.setUnit_shedHigh hw
    · rw [State.armSecond_shedHigh, State.setUnit_shedHigh hw]
  have hfrozen (u : State) (b : Bool) : (if b then u.freeze else u).shedHigh = u.shedHigh := by
    split <;> exact State.shedHigh_congr (by simp) (by simp) (by simp) (by simp)
  have hnoticed (b : Bool) (e : HistEvent) (c : NoticeContent) :
      (if b then (s.record e).post c else s.record e).shedHigh = s.shedHigh := by
    split <;> exact State.shedHigh_congr (by simp) (by simp) (by simp) (by simp)
  simp only [State.fire]
  rw [hmoved, hfrozen]
  · cases hp : (s.unit second).actions.pullShed
    · simp [hnoticed]
    · simp [State.pullShed_shedHigh]
  · rfl

/-- A firing on a low line makes no edge. -/
theorem State.fire_slotUnit {s : State} (h : s.shedHigh = false) (second : Bool) (v : EvalValue) :
    (s.fire second v).slotUnit = s.slotUnit := by
  have hnoticed (b : Bool) (e : HistEvent) (c : NoticeContent) :
      (if b then (s.record e).post c else s.record e).shedHigh = false := by
    rw [← h]
    split <;> exact State.shedHigh_congr (by simp) (by simp) (by simp) (by simp)
  have hslots (b : Bool) (e : HistEvent) (c : NoticeContent) :
      (if b then (s.record e).post c else s.record e).slotUnit = s.slotUnit := by
    split <;> simp
  have hpulled (u : State) (hu : u.shedHigh = false) (b : Bool) :
      (if b then u.pullShed second else u).slotUnit = u.slotUnit := by
    split
    · exact State.pullShed_slotUnit hu second
    · rfl
  have hfrozen (u : State) (b : Bool) : (if b then u.freeze else u).slotUnit = u.slotUnit := by
    split <;> simp
  have hmoved (u : State) (w : WatchUnit) :
      (if second then u.setUnit second w else (u.setUnit second w).armSecond).slotUnit = u.slotUnit := by
    split <;> simp
  simp only [State.fire]
  rw [hmoved, hfrozen, hpulled _ (hnoticed _ _ _), hslots]

/-- The slots stay, and the line stays low. -/
structure StaysLow (s t : State) : Prop where
  line : t.shedHigh = false
  slots : t.slotUnit = s.slotUnit

theorem StaysLow.trans {a b c : State} (h : StaysLow a b) (k : StaysLow b c) : StaysLow a c :=
  ⟨k.line, k.slots.trans h.slots⟩

/-- An evaluation on a low line makes no edge. -/
theorem State.evaluate_staysLow {s : State} (h : s.shedHigh = false) (second : Bool) (offer : Option EvalValue) :
    StaysLow s (s.evaluate second offer).1 := by
  have hset (u : WatchUnit) (hu : u.pulse = (s.unit second).pulse) : StaysLow s (s.setUnit second u) :=
    ⟨(State.setUnit_shedHigh hu).trans h, by simp⟩
  simp only [State.evaluate]
  split
  · split
    · split
      · exact ⟨by rw [State.fire_shedHigh, h]; rfl, State.fire_slotUnit h second _⟩
      · exact hset _ rfl
    · split
      · exact hset _ rfl
      · exact ⟨h, rfl⟩
  · exact ⟨h, rfl⟩

theorem State.offer_staysLow {s : State} (h : s.shedHigh = false) (armed0 armed1 : Bool)
    (values : WatchSource → Option EvalValue) : StaysLow s (s.offer armed0 armed1 values) := by
  have hsecond {u : State} (hu : StaysLow s u) (c : Bool) (o : Option EvalValue) :
      StaysLow s (if c then (u.evaluate true o).1 else u) := by
    split
    · exact hu.trans (State.evaluate_staysLow hu.line true o)
    · exact hu
  simp only [State.offer]
  split
  · exact hsecond (State.evaluate_staysLow h false _) _ _
  · exact hsecond ⟨h, rfl⟩ _ _

theorem State.watchEvent_staysLow {s : State} (h : s.shedHigh = false) (values : WatchSource → Option EvalValue) :
    StaysLow s (s.watchEvent values) := by
  simp only [State.watchEvent, h]
  split
  · exact State.offer_staysLow h _ _ _
  · exact ⟨h, rfl⟩

/-! Latches (R124). -/

theorem State.latchSlots_slot {s : State} (hm : s.mode.live = true) (i : SlotNo) :
    s.latchSlots.slot i = if (s.slot i).latchable then { s.slot i with latch := true } else s.slot i := by
  simp only [State.latchSlots, hm, if_true]
  exact mapSlots_get _ _ i

theorem mem_allSlots (i : SlotNo) : i ∈ allSlots := by
  revert i
  decide

/-- R124: the slots that an edge newly latches. -/
def State.latchesAny (s : State) : Bool := allSlots.any fun i => (s.slot i).latchable && !(s.slot i).latch

theorem State.latchesAny_iff (s : State) :
    s.latchesAny = true ↔ ∃ i, (s.slot i).latchable = true ∧ (s.slot i).latch = false := by
  simp only [State.latchesAny, List.any_eq_true, Bool.and_eq_true, Bool.not_eq_true']
  exact ⟨fun ⟨i, _, h⟩ => ⟨i, h⟩, fun ⟨i, h⟩ => ⟨i, mem_allSlots i, h⟩⟩

theorem State.latchSlots_latchLimit {s : State} (hm : s.mode.live = true) :
    s.latchSlots.slotUnit.latchLimit = match s.slotUnit.latchLimit with
      | some d => some d
      | none => if s.latchesAny then some (s.now + s.config.general.latchLimit) else none := by
  simp only [State.latchSlots, hm, if_true, State.latchesAny]
  rfl

/-! Edges made by other stations. -/

theorem State.slot_of_record (s : State) (e : HistEvent) (i : SlotNo) : (s.record e).slot i = s.slot i := rfl

/-- R63: another station brings a high line down: the slots latch, and then the units evaluate the low line. -/
theorem State.peerDrive_fall {s : State} (hh : s.shedHigh = true) (hr : s.resetLow = false) :
    s.peerDrive true = ((s.setPins { s.pins with peerShed := true }).noteFall).watchEvent lineOffer := by
  have hlow : (s.setPins { s.pins with peerShed := true }).shedHigh = false := by
    simp [State.shedHigh]
  simp [State.peerDrive, hr, State.edgeFrom, hh, hlow]

/-- R63: other stations move a line that this station holds low, or let it rise: no slot latches. -/
theorem State.peerDrive_of_le {s : State} {low : Bool}
    (h : s.shedHigh = true → (s.setPins { s.pins with peerShed := low }).shedHigh = true) :
    s.peerDrive low = (s.setPins { s.pins with peerShed := low }).setHistory (s.peerDrive low).history := by
  simp only [State.peerDrive]
  split
  · rfl
  · exact State.edgeFrom_of_le h

/-- R63: a drive that moves no line. -/
theorem State.peerDrive_of_eq {s : State} {low : Bool}
    (h : (s.setPins { s.pins with peerShed := low }).shedHigh = s.shedHigh) :
    s.peerDrive low = s.setPins { s.pins with peerShed := low } := by
  simp only [State.peerDrive, State.edgeFrom, h]
  split
  · rfl
  · cases s.shedHigh <;> rfl

theorem State.Settled.setPins {s : State} (hs : s.Settled) {low : Bool}
    (h : (s.setPins { s.pins with peerShed := low }).shedHigh = s.shedHigh) :
    (s.setPins { s.pins with peerShed := low }).Settled :=
  hs.of_same ⟨rfl, rfl, rfl, rfl, rfl, rfl, rfl, rfl, h⟩ rfl hs.2

/-- R124: what a fall of the line makes of the slots, up to the enables. -/
theorem State.fallen_slots {s : State} (hm : s.mode.live = true) :
    (((s.setPins { s.pins with peerShed := true }).noteFall).watchEvent lineOffer).slotUnit =
      (s.setPins { s.pins with peerShed := true }).noteFall.slotUnit ∧
    ∀ i, (((s.setPins { s.pins with peerShed := true }).noteFall).watchEvent lineOffer).slot i =
      if (s.slot i).latchable then { s.slot i with latch := true } else s.slot i := by
  have hlow : (s.setPins { s.pins with peerShed := true }).noteFall.shedHigh = false := by simp [State.shedHigh]
  have hslots := (State.watchEvent_staysLow hlow lineOffer).slots
  refine ⟨hslots, fun i => ?_⟩
  simp only [State.slot, hslots]
  exact State.latchSlots_slot (s := (s.setPins { s.pins with peerShed := true }).record (.line true false)) hm i

theorem lineEdges_fall {s : State} (hh : s.shedHigh = true) (hm : s.mode.live = true) (hr : s.resetLow = false) :
    ∃ t, exec .shedFallingEdge s = .next t ∧ t.shedHigh = false ∧ t.pins = { s.pins with peerShed := true } ∧
      t.replica = s.replica ∧ t.station = s.station ∧ t.crank = s.crank ∧
      (∀ i v, (s.slot i).values = some v → v.cls.low = true →
        ((s.slot i).state = .held ∨ (s.slot i).state = .trimmed → (t.slot i).latch = true ∧ (t.slot i).enable = false)) ∧
      (∀ i, (s.slot i).latchable = false → (t.slot i).latch = (s.slot i).latch) ∧
      (∀ i, (t.slot i).state = (s.slot i).state ∧ (t.slot i).values = (s.slot i).values) ∧
      t.slotUnit.latchLimit = (match s.slotUnit.latchLimit with
        | some e => some e
        | none => if (∃ i, (s.slot i).latchable = true ∧ (s.slot i).latch = false) then
            some (s.now + s.config.general.latchLimit) else none) := by
  obtain ⟨hunit, hslot⟩ := State.fallen_slots hm
  generalize hu : ((s.setPins { s.pins with peerShed := true }).noteFall).watchEvent lineOffer = u at hunit hslot
  have hpins : u.pins = { s.pins with peerShed := true } := by
    subst hu
    simp
  have hlow : u.conclude.shedHigh = false := by simp [State.shedHigh, hpins]
  have hvalues (i : SlotNo) : (u.conclude.slot i).state = (s.slot i).state ∧ (u.conclude.slot i).values = (s.slot i).values := by
    rw [State.conclude_slot, State.refreshed_state, State.refreshed_values, hslot]
    split <;> exact ⟨rfl, rfl⟩
  have hlatch (i : SlotNo) : (u.conclude.slot i).latch = if (s.slot i).latchable then true else (s.slot i).latch := by
    rw [State.conclude_slot, State.refreshed_latch, hslot]
    split <;> rfl
  refine ⟨u.conclude, ?_, hlow, by simp [hpins], by subst hu; simp, by subst hu; simp, by subst hu; simp,
    fun i v hv hl hg => ⟨?_, ?_⟩, fun i hl => by rw [hlatch, hl]; rfl, hvalues, ?_⟩
  · subst hu
    show Host.Outcome.next (s.peerDrive true).conclude = _
    rw [State.peerDrive_fall hh hr]
  · have hl' : (s.slot i).latchable = true := by
      rcases hg with hg | hg <;> simp [SlotRecord.latchable, hg, hv, hl]
    rw [hlatch, hl']
    rfl
  · have hne : (u.conclude.slot i).state ≠ .carried := by
      rw [(hvalues i).1]
      rcases hg with hg | hg <;> simp [hg]
    exact (settledEnables u.conclude u.conclude_settled).2 hlow i v hne ((hvalues i).2.trans hv) hl
  · have hlimit : u.conclude.slotUnit.latchLimit =
        ((s.setPins { s.pins with peerShed := true }).record (.line true false)).latchSlots.slotUnit.latchLimit := by
      simp only [State.conclude_frame, hunit, State.noteFall]
    have hany : ((s.setPins { s.pins with peerShed := true }).record (.line true false)).latchesAny = s.latchesAny := rfl
    rw [hlimit, State.latchSlots_latchLimit (s := (s.setPins { s.pins with peerShed := true }).record (.line true false)) hm,
      hany]
    show (match s.slotUnit.latchLimit with
      | some d => some d
      | none => if s.latchesAny then some (s.now + s.config.general.latchLimit) else none) = _
    cases s.slotUnit.latchLimit with
    | some d => rfl
    | none => simp only [State.latchesAny_iff]

/-- Settles O53. -/
theorem lineEdges : Obligations.LineEdges := by
  refine ⟨fun s hs => ⟨fun hh hm hr => lineEdges_fall hh hm hr, fun hh => ?_⟩, fun s hs => ?_⟩
  · have hsame : (s.setPins { s.pins with peerShed := true }).shedHigh = s.shedHigh := by
      rw [hh]
      simp [State.shedHigh]
    show Host.Outcome.next (s.peerDrive true).conclude = _
    rw [State.peerDrive_of_eq hsame, (hs.setPins hsame).conclude]
  · let u := s.peerDrive false
    have hu : u = (s.setPins { s.pins with peerShed := false }).setHistory u.history :=
      State.peerDrive_of_le fun h => by
        rw [State.shedHigh_iff] at h ⊢
        exact ⟨h.1, h.2.1, h.2.2.1, rfl⟩
    have hslots : u.slotUnit = s.slotUnit := by rw [hu]; rfl
    have hquiet : u.episodes = [] :=
      hs.no_episodes (by rw [hu]; rfl) (by rw [hu]; rfl) (by rw [hu]; rfl) (fun i => by simp only [State.slot, hslots])
        fun i => by simp only [State.slot, hslots]
    have hslot (i : SlotNo) : u.slot i = s.slot i := by simp only [State.slot, hslots]
    have hcon := State.conclude_eq_of_quiet hquiet
    refine ⟨u.conclude, rfl, ?_, ?_, ?_, fun i => ?_, fun ho => ?_⟩
    · rw [hcon, hu]
      simp [State.shedHigh, State.ownDrive]
    · rw [hcon, hu]
      rfl
    · refine hcon.trans ?_
      generalize u.conclude.slotUnit.slots = slots
      generalize u.conclude.history = history
      rw [hu]
      rfl
    · rw [State.conclude_slot, State.refreshed_latch, State.refreshed_state, State.refreshed_values, hslot]
      exact ⟨rfl, rfl, rfl⟩
    · have hsame : (s.setPins { s.pins with peerShed := false }).shedHigh = s.shedHigh := by
        show (!(s.ownDrive || false)) = !(s.ownDrive || s.pins.peerShed)
        rw [ho]
        rfl
      have hu' : u = s.setPins { s.pins with peerShed := false } := State.peerDrive_of_eq hsame
      rw [hu', (hs.setPins hsame).conclude]

end Sys2Proof.Machine
end


section
/-! What an event tells the module controller (R147 to R151, R164): how many notices it appends, and which counters it
moves. One lemma for each operation. -/

namespace Sys2Proof.Machine

/-- The captures that a full queue, a full lane and the end of any event can make. -/
def FaultKind.routine : FaultKind → Bool
  | .noticeLost | .outboundFull | .unclaimedDraw => true
  | _ => false

/-- From s to t at most n notices have been appended, and of the fault counters only those of routine kinds have moved. -/
structure Tells (n : Nat) (s t : State) : Prop where
  notices : ∃ l, l.length ≤ n ∧ t.port.notices = s.port.notices ++ l
  counters : ∀ k : FaultKind, k.routine = false → t.counter k = s.counter k
  badChecks : t.fault.badChecks = s.fault.badChecks

theorem Tells.of_same {s t : State} (hn : t.port.notices = s.port.notices) (hf : t.fault = s.fault) : Tells 0 s t :=
  ⟨⟨[], Nat.le_refl 0, by rw [hn, List.append_nil]⟩, fun k _ => by rw [State.counter, hf]; rfl, by rw [hf]⟩

theorem Tells.refl (s : State) : Tells 0 s s := .of_same rfl rfl

theorem Tells.trans {m n : Nat} {a b c : State} (h : Tells m a b) (k : Tells n b c) : Tells (m + n) a c := by
  obtain ⟨l, hl, hb⟩ := h.notices
  obtain ⟨l', hl', hc⟩ := k.notices
  refine ⟨⟨l ++ l', ?_, by rw [hc, hb, List.append_assoc]⟩, fun x hx => (k.counters x hx).trans (h.counters x hx),
    k.badChecks.trans h.badChecks⟩
  rw [List.length_append]
  omega

theorem Tells.mono {m n : Nat} {s t : State} (h : Tells m s t) (hmn : m ≤ n) : Tells n s t :=
  ⟨h.notices.imp fun _ hl => ⟨hl.1.trans hmn, hl.2⟩, h.counters, h.badChecks⟩

/-- What moves neither the notices nor the fault unit tells nothing. -/
theorem Tells.none {n : Nat} {s t : State} (hn : t.port.notices = s.port.notices) (hf : t.fault = s.fault) :
    Tells n s t := (Tells.of_same hn hf).mono (Nat.zero_le n)

/-- A step that posts nothing before or behind one that does. -/
theorem Tells.congr {n : Nat} {s t u : State} (h : Tells n s t) (hn : u.port.notices = t.port.notices)
    (hf : u.fault = t.fault) : Tells n s u := h.trans (.of_same hn hf)

theorem Tells.prefix {n : Nat} {s t : State} (h : Tells n s t) : s.port.notices <+: t.port.notices :=
  h.notices.imp fun _ hl => hl.2.symm

theorem Tells.length_le {n : Nat} {s t : State} (h : Tells n s t) :
    t.port.notices.length ≤ s.port.notices.length + n := by
  obtain ⟨l, hl, ht⟩ := h.notices
  rw [ht, List.length_append]
  omega

theorem Tells.foldl {α : Type} {n : Nat} {f : State → α → State} (hf : ∀ s a, Tells n s (f s a)) (l : List α) (s : State) :
    Tells (l.length * n) s (l.foldl f s) := by
  induction l generalizing s with
  | nil => exact (Tells.refl s).mono (Nat.zero_le _)
  | cons a l ih =>
    have h := (hf s a).trans (ih (f s a))
    refine h.mono ?_
    rw [List.length_cons, Nat.succ_mul]
    omega

/-! Captures and notices. -/

theorem FaultUnit.take_counter (f : FaultUnit) (e : FaultEntry) (k : FaultKind) :
    (f.take e).counters[k.index.val] =
      if k = e.kind then Nat.min 255 (f.counters[k.index.val] + 1) else f.counters[k.index.val] := by
  have hinj : e.kind.index.val = k.index.val ↔ k = e.kind := by
    constructor
    · intro h
      revert h
      cases e.kind <;> cases k <;> decide
    · rintro rfl
      rfl
  have hget : (f.counters.set e.kind.index.val (Nat.min 255 (f.counters[e.kind.index.val] + 1)) e.kind.index.isLt)[k.index.val]
      = if k = e.kind then Nat.min 255 (f.counters[k.index.val] + 1) else f.counters[k.index.val] := by
    rw [Vector.getElem_set]
    by_cases hk : k = e.kind
    · subst hk
      simp
    · rw [if_neg (fun h => hk (hinj.mp h)), if_neg hk]
  unfold FaultUnit.take
  split <;> exact hget

theorem FaultUnit.take_badChecks (f : FaultUnit) (e : FaultEntry) : (f.take e).badChecks = f.badChecks := by
  unfold FaultUnit.take
  split <;> rfl

theorem State.captureQuiet_counter (s : State) (kind : FaultKind) (u : Subject) (f : Option FrameKind) (k : FaultKind) :
    (s.captureQuiet kind u f).counter k = if k = kind then Nat.min 255 (s.counter k + 1) else s.counter k :=
  FaultUnit.take_counter _ _ k

theorem State.post_tells (s : State) (c : NoticeContent) : Tells 1 s (s.post c) := by
  unfold State.post
  split
  · exact ⟨⟨[_], Nat.le_refl 1, rfl⟩, fun _ _ => rfl, rfl⟩
  · refine ⟨⟨[], Nat.zero_le 1, by simp⟩, fun k hk => ?_, ?_⟩
    · rw [State.captureQuiet_counter, if_neg (by rintro rfl; cases hk)]
      rfl
    · exact FaultUnit.take_badChecks _ _

/-- R147: a capture of a routine kind. -/
theorem State.capture_tells (s : State) {kind : FaultKind} (hk : kind.routine = true) (u : Subject)
    (f : Option FrameKind) : Tells 1 s (s.capture kind u f) := by
  have hquiet : Tells 0 s (s.captureQuiet kind u f) := by
    refine ⟨⟨[], Nat.le_refl 0, by simp⟩, fun k h => ?_, FaultUnit.take_badChecks _ _⟩
    rw [State.captureQuiet_counter, if_neg (by rintro rfl; rw [hk] at h; cases h)]
  exact (hquiet.trans (State.post_tells _ _)).mono (by omega)

/-- R147: a capture of another kind counts itself once. -/
theorem State.capture_counter (s : State) {kind : FaultKind} (hk : kind.routine = false) (u : Subject)
    (f : Option FrameKind) : (s.capture kind u f).counter kind = Nat.min 255 (s.counter kind + 1) := by
  unfold State.capture
  rw [(State.post_tells _ _).counters kind hk, State.captureQuiet_counter, if_pos rfl]

theorem Counted.of_tells {n : Nat} {s u t : State} {kind : FaultKind} (h : Counted s u kind) (hk : kind.routine = false)
    (ht : Tells n u t) : Counted s t kind := (ht.counters kind hk).trans h

theorem State.record_tells (s : State) (e : HistEvent) : Tells 0 s (s.record e) := .of_same rfl rfl

/-! Lanes. -/

theorem State.autoUrgent_tells (s : State) (b : Body) : Tells 1 s (s.autoUrgent b) := by
  unfold State.autoUrgent
  split
  · exact .none rfl rfl
  · exact s.capture_tells rfl _ _

theorem State.autoGeneral_tells (s : State) (q : Queued) : Tells 1 s (s.autoGeneral q) := by
  unfold State.autoGeneral
  split
  · exact .none rfl rfl
  · exact s.capture_tells rfl _ _

theorem State.queueJoin_tells (s : State) (j : Body) : Tells 1 s (s.queueJoin j) := by
  unfold State.queueJoin
  split
  · exact .none rfl rfl
  · exact s.autoGeneral_tells _

/-! Slots. -/

theorem State.releaseAgain_tells (s : State) (i : SlotNo) : Tells 1 s (s.releaseAgain i) := by
  unfold State.releaseAgain
  split
  · exact s.autoGeneral_tells _
  · exact .none rfl rfl

theorem State.testStuckClear_tells (s : State) (i : SlotNo) : Tells 1 s (s.testStuckClear i) := by
  unfold State.testStuckClear
  split
  · split
    · exact .none (by simp) (by simp)
    · exact (s.capture_tells (kind := .outboundFull) rfl .none (some .stuckClear)).congr (by simp) (by simp)
  · exact .none rfl rfl

/-- R122, R129: at most one notice for each slot and test. -/
theorem State.slotTests_tells (s : State) : Tells 8 s s.slotTests :=
  (Tells.foldl State.releaseAgain_tells allSlots s).trans (Tells.foldl State.testStuckClear_tells allSlots _)

theorem State.refreshSlots_tells (s : State) : Tells 4 s s.refreshSlots := by
  have hslots : Tells 0 s (s.setSlots (mapSlots s.refreshed s.slotUnit.slots)) := .of_same rfl rfl
  have hcaptures := Tells.foldl (fun (t : State) i => t.capture_tells (kind := .unclaimedDraw) rfl (.slot i) none) s.episodes
    (s.setSlots (mapSlots s.refreshed s.slotUnit.slots))
  have hlength : s.episodes.length ≤ 4 := (List.length_filter_le _ allSlots)
  exact (hslots.trans hcaptures).mono (by omega)

theorem State.conclude_tells (s : State) : Tells 4 s s.conclude := s.refreshSlots_tells.congr rfl rfl

theorem State.settleDown_tells (s : State) (n : Nat) : Tells 12 s (s.settleDown n) :=
  (s.slotTests_tells.trans s.slotTests.refreshSlots_tells).congr rfl rfl

/-! The sequencer. -/

theorem State.abandon_tells (s : State) : Tells 1 s s.abandon := by
  unfold State.abandon
  split
  · exact ((Tells.of_same (by simp) (by simp)).trans (State.post_tells _ _)).mono (by omega)
  · exact .none rfl rfl

theorem State.checkAbandon_tells (s : State) : Tells 1 s s.checkAbandon := by
  unfold State.checkAbandon
  split
  · exact s.abandon_tells
  · exact .none rfl rfl

theorem State.startLockout_tells (s : State) : Tells 1 s s.startLockout :=
  ((Tells.of_same (t := s.toIdle.setCrank _) (by simp) (by simp)).trans (State.post_tells _ _)).mono (by omega)

theorem State.checkLockout_tells (s : State) : Tells 1 s s.checkLockout := by
  simp only [State.checkLockout]
  (repeat' split) <;> first
    | exact s.startLockout_tells
    | exact .none rfl rfl

theorem State.postGo_tells (s : State) (r : Replica) : Tells 1 s (s.postGo r) := (s.post_tells _).congr rfl rfl

theorem State.crankLoaded_tells (s : State) : Tells 1 s s.crankLoaded := by
  unfold State.crankLoaded
  (repeat' split) <;> first
    | exact s.postGo_tells _
    | exact .none rfl rfl

/-! Entering a state. -/

theorem State.requestSync_tells (s : State) : Tells 1 s s.requestSync := s.autoGeneral_tells _

theorem State.startSync_tells (s : State) : Tells 1 s s.startSync := s.requestSync_tells.congr rfl rfl

theorem State.announce_tells (s : State) (old new : StationState) (cause : SyncCause) :
    Tells 1 s (s.announce old new cause) := (s.post_tells _).congr rfl rfl

theorem State.moveTo_tells (s : State) (new : StationState) (cause : SyncCause) : Tells 1 s (s.moveTo new cause) :=
  ((Tells.of_same (by simp) (by simp)).trans (State.announce_tells _ _ _ _)).mono (by omega)

theorem State.endCarry_tells (s : State) (i : SlotNo) : Tells 1 s (s.endCarry i) := by
  unfold State.endCarry
  split
  · exact ((Tells.of_same (by simp) (by simp)).trans (State.post_tells _ _)).mono (by omega)
  · exact .none rfl rfl

theorem State.dropCarry_tells (s : State) (i : SlotNo) : Tells 1 s (s.dropCarry i) := by
  unfold State.dropCarry
  split
  · exact ((Tells.of_same (by simp) (by simp)).trans (State.post_tells _ _)).mono (by omega)
  · exact .none rfl rfl

theorem State.onEntry_tells (s : State) : Tells 5 s s.onEntry := by
  unfold State.onEntry
  split
  case h_1 => exact ((Tells.of_same (by simp) (by simp)).trans s.stopMemberTimers.startSync_tells).mono (by omega)
  case h_2 => exact (Tells.foldl State.endCarry_tells allSlots s).mono (by decide)
  case h_3 => exact ((Tells.of_same (by simp) (by simp)).trans (State.startSync_tells _)).mono (by omega)
  case h_4 => exact s.checkAbandon_tells.mono (by omega)
  case h_5 =>
    have hstop : Tells 0 s s.stopMemberTimers := .of_same (by simp) (by simp)
    exact ((hstop.trans s.stopMemberTimers.abandon_tells).trans (Tells.foldl State.dropCarry_tells allSlots _)).mono (by decide)
  case h_6 => exact .none rfl rfl

theorem State.silenceOffline_tells (s : State) : Tells 0 s s.silenceOffline := by
  unfold State.silenceOffline
  split
  · exact .of_same (by simp) (by simp)
  · exact .refl s

theorem State.enterOnce_tells (s : State) (new : StationState) (cause : SyncCause) :
    Tells 6 s (s.enterOnce new cause) :=
  ((s.moveTo_tells new cause).trans (.of_same (t := (s.moveTo new cause).dropInbound) (by simp) (by simp))).trans
    (State.onEntry_tells _) |>.trans (State.silenceOffline_tells _)

theorem State.enter_tells (s : State) (new : StationState) (cause : SyncCause) : Tells 12 s (s.enter new cause) := by
  simp only [State.enter]
  split
  · exact (s.enterOnce_tells _ _).trans (State.enterOnce_tells _ _ _)
  · exact (s.enterOnce_tells new cause).mono (by omega)

theorem State.changeState_tells (s : State) (new : StationState) (cause : SyncCause) :
    Tells 21 s (s.changeState new cause) :=
  ((s.enter_tells new cause).trans (State.slotTests_tells _)).trans (State.checkLockout_tells _)

/-! Loads. -/

theorem State.loadSlot_tells (s : State) (i : SlotNo) : Tells 1 s (s.loadSlot i) := by
  simp only [State.loadSlot]
  (repeat' split) <;> first
    | exact .none (by simp) (by simp)
    | exact ((Tells.of_same (by simp) (by simp)).trans (State.post_tells _ _)).mono (by omega)

theorem State.loadSlots_tells (s : State) : Tells 4 s s.loadSlots := Tells.foldl State.loadSlot_tells allSlots s

theorem State.enterLoaded_tells (s : State) (present : Bool) (cause : SyncCause) (join : Body) :
    Tells 13 s (s.enterLoaded present cause join) := by
  unfold State.enterLoaded
  split
  · exact (s.enter_tells .member cause).mono (by omega)
  · exact (s.enter_tells _ _).trans (State.queueJoin_tells _ _)

theorem State.loadTables_tells (s : State) (r : Replica) : Tells 17 s (s.loadTables r) := by
  have hgiven : Tells 0 s (s.setReplica (some r)).forgetIsolation := .none rfl rfl
  have htaken : Tells 13 s (s.loadTaken r) := (hgiven.trans (State.enterLoaded_tells _ _ _ _)).mono (Nat.le_of_eq rfl)
  exact (htaken.trans (State.loadSlots_tells _)).congr (by simp [State.loadTables]) (by simp [State.loadTables])

theorem State.loadReplica_tells (s : State) (r : Replica) : Tells 20 s (s.loadReplica r) := by
  rw [State.loadReplica_eq]
  exact ((((s.loadTables_tells r).trans (State.checkAbandon_tells _)).trans (State.crankLoaded_tells _)).trans
    (State.checkLockout_tells _)).congr (by simp) (by simp)

/-! The watch units. -/

theorem State.pullShed_tells (s : State) (second : Bool) : Tells 1 s (s.pullShed second) := by
  have hpulsed : Tells 0 s (s.setUnit second { s.unit second with pulse := some (s.now + Config.pulsePeriod) }) :=
    .none (by simp) (by simp)
  have hrequest {u : State} (hu : Tells 0 s u) (b : Bool) (body : Body) :
      Tells 1 s (if b then u.autoUrgent body else u) := by
    split
    · exact (hu.trans (u.autoUrgent_tells body)).mono (by omega)
    · exact hu.mono (by omega)
  simp only [State.pullShed]
  split
  · exact hrequest (hpulsed.congr (by simp) (by simp)) _ _
  · exact hrequest hpulsed _ _

theorem State.fire_tells (s : State) (second : Bool) (v : EvalValue) : Tells 2 s (s.fire second v) := by
  have hnoticed (b : Bool) (e : HistEvent) (c : NoticeContent) :
      Tells 1 s (if b then (s.record e).post c else s.record e) := by
    split
    · exact ((s.record_tells e).trans (State.post_tells _ _)).mono (by omega)
    · exact (s.record_tells e).mono (by omega)
  have hpulled (u : State) (b : Bool) : Tells 1 u (if b then u.pullShed second else u) := by
    split
    · exact u.pullShed_tells second
    · exact (Tells.refl u).mono (by omega)
  have hfrozen (u : State) (b : Bool) : Tells 0 u (if b then u.freeze else u) := by
    split <;> exact .of_same (by simp) (by simp)
  have hmoved (u : State) (w : WatchUnit) :
      Tells 0 u (if second then u.setUnit second w else (u.setUnit second w).armSecond) := by
    split <;> exact .of_same (by simp) (by simp)
  simp only [State.fire]
  exact (((hnoticed _ _ _).trans (hpulled _ _)).trans (hfrozen _ _)).trans (hmoved _ _)

theorem State.evaluate_tells (s : State) (second : Bool) (o : Option EvalValue) : Tells 2 s (s.evaluate second o).1 := by
  simp only [State.evaluate]
  (repeat' split) <;> first
    | exact s.fire_tells second _
    | exact .none rfl rfl
    | exact .none (by simp) (by simp)

theorem State.offer_tells (s : State) (a b : Bool) (values : WatchSource → Option EvalValue) :
    Tells 4 s (s.offer a b values) := by
  have hsecond {u : State} (hu : Tells 2 s u) (c : Bool) (o : Option EvalValue) :
      Tells 4 s (if c then (u.evaluate true o).1 else u) := by
    split
    · exact hu.trans (u.evaluate_tells true o)
    · exact hu.mono (by omega)
  simp only [State.offer]
  split
  · exact hsecond (s.evaluate_tells false _) _ _
  · exact hsecond ((Tells.refl s).mono (by omega)) _ _

theorem State.watchEvent_tells (s : State) (values : WatchSource → Option EvalValue) :
    Tells 8 s (s.watchEvent values) := by
  simp only [State.watchEvent]
  split
  · split
    · exact (s.offer_tells _ _ _).trans (State.offer_tells _ _ _ _)
    · exact (s.offer_tells _ _ _).mono (by omega)
  · exact .none rfl rfl

theorem State.ended_tells (s : State) (n : Nat) : Tells 14 s (s.ended n) :=
  (s.checkAbandon_tells.trans (State.checkLockout_tells _)).trans (State.settleDown_tells _ n)

theorem State.evaluated_tells (s : State) (n : Nat) (f : Frame) (p : Option Phase) :
    Tells 22 s (s.evaluated n f p) := (s.ended_tells n).trans (State.watchEvent_tells _ _)

end Sys2Proof.Machine
end


section
/-! Entering ISOLATED, TAINTED and OFFLINE (R87, R93, R101, R118), and isolation by silence (R101). -/

namespace Sys2Proof.Machine

theorem State.checkLockout_of_mode {s : State} (h : s.mode ≠ .member) : s.checkLockout = s := by
  simp only [State.checkLockout]
  (repeat' split) <;> simp_all

theorem State.silenceOffline_of_mode {s : State} (h : s.mode ≠ .offline) : s.silenceOffline = s := by
  simp [State.silenceOffline, h]

/-- R61: a station that enters ISOLATED abandons its crank. -/
theorem State.onEntry_isolated {s : State} (h : s.mode = .isolated) : s.onEntry = s.abandon := by
  simp [State.onEntry, State.checkAbandon, State.strayed, h]

theorem State.onEntry_tainted {s : State} (h : s.mode = .tainted) :
    s.onEntry = (s.withdrawGeneral Queued.isSnapshot).startSync := by
  simp [State.onEntry, h]

theorem State.onEntry_offline {s : State} (h : s.mode = .offline) :
    s.onEntry = allSlots.foldl State.dropCarry s.stopMemberTimers.abandon := by
  simp [State.onEntry, h]

/-- R87 steps 1 to 3: the notice, the entry, the change itself and the inbound queue. -/
def State.moved (s : State) (new : StationState) (cause : SyncCause) : State := (s.moveTo new cause).dropInbound

@[simp] theorem State.moved_frame (s : State) (new : StationState) (cause : SyncCause) :
    KeptBase s (s.moved new cause) ∧ (s.moved new cause).now = s.now
      ∧ (s.moved new cause).station = s.station.entered s.now new cause ∧ (s.moved new cause).members = s.members
      ∧ (s.moved new cause).crank = s.crank ∧ (s.moved new cause).slotUnit = s.slotUnit
      ∧ (s.moved new cause).w0 = s.w0 ∧ (s.moved new cause).w1 = s.w1
      ∧ (s.moved new cause).link.urgent = s.link.urgent ∧ (s.moved new cause).link.general = s.link.general
      ∧ (s.moved new cause).link.tx = s.link.tx ∧ (s.moved new cause).link.readback = s.link.readback
      ∧ (s.moved new cause).link.late = s.link.late ∧ (s.moved new cause).link.probeDue = (new == .isolated)
      ∧ (s.moved new cause).link.probeTimer = none
      ∧ (s.moved new cause).link.heartbeat = if new.beating then
          (if s.mode.beating then s.link.heartbeat else some (s.now + Config.heartbeatPeriod)) else none := by
  simp [State.moved, KeptBase]
  simp [State.moveTo, State.shift, LinkUnit.entered]

@[simp] theorem State.moved_mode (s : State) (new : StationState) (cause : SyncCause) : (s.moved new cause).mode = new := by
  simp [State.mode]

theorem State.moved_inbound (s : State) (new : StationState) (cause : SyncCause) :
    (s.moved new cause).link.inbound = s.link.inbound.filter (admits new s.self) := by
  have hm : (s.moveTo new cause).mode = new := by simp [State.mode, State.moveTo, State.shift]
  rw [State.moved, State.dropInbound_inbound (s := s) (by simp) (by simp), hm]

theorem State.moved_tells (s : State) (new : StationState) (cause : SyncCause) : Tells 1 s (s.moved new cause) :=
  (s.moveTo_tells new cause).congr rfl rfl

theorem State.enterOnce_eq (s : State) (new : StationState) (cause : SyncCause) :
    s.enterOnce new cause = (s.moved new cause).onEntry.silenceOffline := rfl

theorem State.enterOnce_isolated (s : State) (cause : SyncCause) :
    s.enterOnce .isolated cause = (s.moved .isolated cause).abandon := by
  rw [State.enterOnce_eq, State.onEntry_isolated (by simp), State.silenceOffline_of_mode (by simp [State.mode])]

theorem State.enterOnce_tainted (s : State) (cause : SyncCause) :
    s.enterOnce .tainted cause = ((s.moved .tainted cause).withdrawGeneral Queued.isSnapshot).startSync := by
  rw [State.enterOnce_eq, State.onEntry_tainted (by simp), State.silenceOffline_of_mode (by simp [State.mode, State.startSync])]

/-- R87, R118: what a change of station state comes to, where the station's own LEAVE does not wait. -/
theorem State.enter_of_no_leave {s : State} (h : s.ownLeaveWaits = false) (new : StationState) (cause : SyncCause) :
    s.enter new cause = s.enterOnce new cause := by
  simp [State.enter, h]

theorem State.ownLeaveWaits_nil {s : State} (h : s.link.inbound = []) : s.ownLeaveWaits = false := by
  simp [State.ownLeaveWaits, h]

/-- R101, R122, R129: entry into ISOLATED from an empty inbound queue. -/
theorem State.changeState_isolated {s : State} (h : s.link.inbound = []) (cause : SyncCause) :
    s.changeState .isolated cause = (s.moved .isolated cause).abandon.slotTests := by
  rw [State.changeState, State.enter_of_no_leave (State.ownLeaveWaits_nil h), State.enterOnce_isolated,
    State.checkLockout_of_mode (by simp [State.mode])]

theorem prefix_foldl {α β γ : Type} {g : β → List γ} {f : β → α → β} (hf : ∀ b a, g b <+: g (f b a)) (l : List α) (b : β) :
    g b <+: g (l.foldl f b) := by
  induction l generalizing b with
  | nil => exact List.prefix_refl _
  | cons a l ih => exact (hf b a).trans (ih (f b a))

theorem State.autoGeneral_general (s : State) (q : Queued) : s.link.general <+: (s.autoGeneral q).link.general := by
  unfold State.autoGeneral
  split
  · exact ⟨[q], rfl⟩
  · simp

/-- R122, R129: the tests only add frames to the general lane. -/
theorem State.slotTests_general (s : State) : s.link.general <+: s.slotTests.link.general := by
  have hrelease (u : State) (i : SlotNo) : u.link.general <+: (u.releaseAgain i).link.general := by
    unfold State.releaseAgain
    split
    · exact u.autoGeneral_general _
    · exact List.prefix_refl _
  have hclear (u : State) (i : SlotNo) : u.link.general <+: (u.testStuckClear i).link.general := by
    unfold State.testStuckClear
    (repeat' split)
    · exact ⟨[_], rfl⟩
    · simp
    · exact List.prefix_refl _
  exact (prefix_foldl (g := fun u : State => u.link.general) hrelease allSlots s).trans
    (prefix_foldl (g := fun u : State => u.link.general) hclear allSlots _)

/-! Silence (R101). -/

theorem mem_allStations (n : Station) : n ∈ allStations := by
  revert n
  decide

theorem StationState.beating_iff (m : StationState) :
    m.beating = true ↔ m = .entering ∨ m = .member ∨ m = .tainted := by
  cases m <;> simp [StationState.beating]

theorem State.othersPresent_iff (s : State) :
    s.othersPresent = true ↔ ∃ r n, s.replica = some r ∧ n ≠ s.self ∧ r.isPresent n = true := by
  unfold State.othersPresent
  cases s.replica with
  | none => simp
  | some r =>
    simp only [List.any_eq_true, Bool.and_eq_true, bne_iff_ne]
    exact ⟨fun ⟨n, _, hn, hp⟩ => ⟨r, n, rfl, hn, hp⟩, fun ⟨r', n, hr, hn, hp⟩ =>
      ⟨n, mem_allStations n, hn, by cases hr; exact hp⟩⟩

theorem State.silenceAt_iff (s : State) (d : Nat) : s.silenceAt = some d ↔
    (s.mode = .entering ∨ s.mode = .member ∨ s.mode = .tainted) ∧
      (∃ r n, s.replica = some r ∧ n ≠ s.self ∧ r.isPresent n = true) ∧
      d = max (s.members.lastGood.getD 0) s.station.liveSince + 350 := by
  rw [← StationState.beating_iff, ← State.othersPresent_iff]
  unfold State.silenceAt
  split
  · rename_i h
    simp only [Bool.and_eq_true] at h
    simp only [Option.some.injEq, h, true_and]
    exact eq_comm
  · rename_i h
    simp only [Bool.and_eq_true, not_and] at h
    refine ⟨fun hn => (by cases hn), fun ⟨hb, ho, _⟩ => absurd ho (h hb)⟩

/-- R123: in ISOLATED only CRITICAL is on. -/
theorem State.isolated_enable {s : State} (hs : s.Settled) (hm : s.mode = .isolated) {i : SlotNo} {v : ClaimValues}
    (hc : (s.slot i).state ≠ .carried) (hv : (s.slot i).values = some v) (hk : v.cls ≠ .critical) :
    (s.slot i).enable = false := by
  rw [hs.enable i]
  simp only [State.enableRule, hv, hm]
  cases hst : (s.slot i).state <;> simp_all

@[simp] theorem State.makeChange_frame (s : State) (c : LateChange) :
    KeptBase s (s.makeChange c) ∧ (s.makeChange c).now = s.now ∧ (s.makeChange c).link.readback = s.link.readback
      ∧ (s.makeChange c).link.late = s.link.late := by
  cases c <;> simp only [State.makeChange] <;> split <;> simp [KeptBase]

@[simp] theorem State.changeOutside_frame (s : State) (c : LateChange) :
    KeptBase s (s.changeOutside c) ∧ (s.changeOutside c).now = s.now
      ∧ (s.changeOutside c).link.readback = s.link.readback := by
  unfold State.changeOutside State.defer
  (repeat' split) <;> simp [KeptBase]

/-- R61, R101: the notice of the crank that isolation abandons, behind the SYNC notice. -/
theorem State.isolated_tells_abandoned {s : State} (hu : s.crank.state.underWay = true) (cause : SyncCause)
    (hn : s.port.notices.length ≤ 14) :
    ∃ n ∈ (s.moved .isolated cause).abandon.port.notices, n.content = .phase .abandoned s.phaseRecord := by
  have hroom : ((s.moved .isolated cause).withdrawUrgent Queued.isCrankFrame).toIdle.port.notices.length < 16 := by
    have := (s.moved_tells .isolated cause).length_le
    simp only [State.toIdle_quiet, State.withdrawUrgent_frame]
    omega
  have hphase : ((s.moved .isolated cause).withdrawUrgent Queued.isCrankFrame).toIdle.phaseRecord = s.phaseRecord := by
    simp [State.phaseRecord]
  rw [State.abandon, if_pos (by simpa using hu), State.postPhase, State.post_notices hroom, hphase]
  exact ⟨_, List.mem_append_right _ (List.mem_singleton_self _), rfl⟩

/-- R101, R61, R123: isolation by silence, with no frame under application. -/
theorem State.silence_isolates {s : State} (hi : s.link.inbound = []) (hb : s.mode.beating = true) {t : State}
    (ht : t = (s.changeOutside .silence).conclude) :
    t.mode = .isolated ∧ t.station.isolation = some .silence ∧ t.link.inbound = [] ∧
      t.link.heartbeat = none ∧ t.station.syncTimer = none ∧ t.link.probeDue = true ∧
      s.link.general <+: t.link.general ∧
      (∀ i v, (t.slot i).state ≠ .carried → (t.slot i).values = some v → v.cls ≠ .critical →
        (t.slot i).enable = false) ∧
      (s.crank.state.underWay = true → t.crank = .reset ∧
        t.link.urgent = withdrawFrom (s.link.sending .urgent) Queued.isCrankFrame s.link.urgent ∧
        (s.port.notices.length ≤ 14 → ∃ n ∈ t.port.notices, n.content = .phase .abandoned s.phaseRecord)) ∧
      (s.crank.state.underWay = false → t.crank = s.crank ∧ t.link.urgent = s.link.urgent) := by
  have he : t = ((s.moved .isolated .silence).abandon.slotTests).conclude := by
    rw [ht, State.changeOutside, if_neg (by simp [State.applying, hi]), State.makeChange, if_pos hb,
      State.changeState_isolated hi]
  have hmode : t.mode = .isolated := by rw [he]; simp [State.mode]
  have hsettled : t.Settled := he ▸ State.conclude_settled _
  have hsending : (s.moved .isolated .silence).link.sending .urgent = s.link.sending .urgent := by
    simp [LinkUnit.sending]
  have hgeneral : s.link.general <+: t.link.general := by
    have := (s.moved .isolated .silence).abandon.slotTests_general
    rw [he]
    simpa using this
  refine ⟨hmode, ?_, ?_, ?_, ?_, ?_, hgeneral, fun i v hc hv hk => State.isolated_enable hsettled hmode hc hv hk,
    fun hu => ⟨?_, ?_, fun hn => ?_⟩, fun hu => ⟨?_, ?_⟩⟩
  · rw [he]; simp; rfl
  · rw [he]; simp [State.moved_inbound, hi]
  · rw [he]; simp [StationState.beating]
  · rw [he]; simp; rfl
  · rw [he]; simp
  · rw [he]; simp [State.abandon_crank, hu]
  · rw [he]; simp [State.abandon_urgent, hu, hsending]
  · obtain ⟨n, hmem, hcontent⟩ := State.isolated_tells_abandoned hu .silence hn
    have hgrow : (s.moved .isolated .silence).abandon.port.notices <+: t.port.notices := by
      rw [he]
      exact (Tells.trans (State.slotTests_tells _) (State.conclude_tells _)).prefix
    exact ⟨n, hgrow.subset hmem, hcontent⟩
  · rw [he]; simp [State.abandon_crank, hu]
  · rw [he]; simp [State.abandon_urgent, hu]

/-- Settles O51. -/
theorem silenceIsolates : Obligations.SilenceIsolates := by
  refine ⟨State.silenceAt_iff, fun s h => ?_, fun s d h => ?_⟩
  · show Host.Outcome.next (s.expire s.silenceAt _) = _
    rw [h]
    rfl
  · have hb : s.mode.beating = true := (StationState.beating_iff _).mpr ((s.silenceAt_iff d).mp h).1
    have hexec : exec .isolationBySilence s = .next (((s.advanceTo d).changeOutside .silence).conclude) := by
      show Host.Outcome.next (s.expire s.silenceAt _) = _
      rw [h]
      rfl
    refine ⟨_, hexec, ?_, ?_, fun hi => ?_, fun hi => ?_⟩
    · simp [State.advanceTo_now]
    · simp
    · have := State.silence_isolates (s := s.advanceTo d) (by simpa using hi) (by simpa [State.mode] using hb) rfl
      simpa [State.phaseRecord, LinkUnit.sending] using this
    · rw [State.changeOutside, if_pos (by simpa [State.applying] using hi), State.defer]
      split
      · simp_all
      · simp

end Sys2Proof.Machine
end


section
/-! Entry into OFFLINE (R72, R118, R119), and clean completions that move another block (R56, R84, R102, R118). -/

namespace Sys2Proof.Machine

/-! OFFLINE. -/

/-- R122, R129: the tests queue nothing in a state that does not report. -/
theorem State.slotTests_of_not_reporting {s : State} (h : s.mode.reporting = false) : s.slotTests = s := by
  have hrelease (l : List SlotNo) : l.foldl State.releaseAgain s = s := by
    induction l with
    | nil => rfl
    | cons i l ih => rw [List.foldl_cons, State.releaseAgain, if_neg (by simp [h]), ih]
  have hclear (l : List SlotNo) : l.foldl State.testStuckClear s = s := by
    induction l with
    | nil => rfl
    | cons i l ih => rw [List.foldl_cons, State.testStuckClear, if_neg (by simp [h]), ih]
  rw [State.slotTests, State.releasesAgain, hrelease, State.testStuckClears, hclear]

/-- R72, R118, R119: entry into OFFLINE empties the lanes and ends the station's drive; nothing is tested or queued. -/
theorem State.changeState_offline (s : State) (cause : SyncCause) :
    s.changeState .offline cause = s.enterOnce .offline cause := by
  have henter : s.enter .offline cause = s.enterOnce .offline cause := by
    simp [State.enter]
  have hmode : (s.enterOnce .offline cause).mode = .offline := s.enterOnce_mode _ _
  rw [State.changeState, henter, State.slotTests_of_not_reporting (by rw [hmode]; rfl),
    State.checkLockout_of_mode (by rw [hmode]; decide)]

theorem State.enterOnce_offline (s : State) (cause : SyncCause) :
    s.enterOnce .offline cause =
      (allSlots.foldl State.dropCarry (s.moved .offline cause).stopMemberTimers.abandon).emptyLanes.endDrive.stopSlotTimers := by
  have hmode : (allSlots.foldl State.dropCarry (s.moved .offline cause).stopMemberTimers.abandon).mode = .offline := by
    simp [State.mode]
  rw [State.enterOnce_eq, State.onEntry_offline (by simp), State.silenceOffline, hmode]
  rfl

/-- What entry into OFFLINE leaves: no lane, no frame waiting, no drive. -/
theorem State.enterOnce_offline_leaves (s : State) (cause : SyncCause) :
    (s.enterOnce .offline cause).link.urgent = [] ∧ (s.enterOnce .offline cause).link.general = [] ∧
      (s.enterOnce .offline cause).link.tx = none ∧ (s.enterOnce .offline cause).link.inbound = [] ∧
      (s.enterOnce .offline cause).station = s.station.entered s.now .offline cause ∧
      (s.enterOnce .offline cause).crank.hold = false ∧
      (s.crank.state.underWay = true → (s.enterOnce .offline cause).crank = .reset) := by
  rw [State.enterOnce_offline]
  refine ⟨?_, ?_, ?_, ?_, ?_, ?_, fun h => ?_⟩
  · simp [State.emptyLanes]
  · simp [State.emptyLanes]
  · simp [State.emptyLanes]
  · simp [State.moved_inbound, admits]
  · simp
  · simp
  · simp [State.abandon_crank, h, CrankUnit.reset]

/-- R123: in a settled state that is not live every enable is off. -/
theorem State.dead_enable {s : State} (hs : s.Settled) (hm : s.mode.live = false) (i : SlotNo) :
    (s.slot i).enable = false := by
  rw [hs.enable i]
  simp [State.enableRule, hm]

/-! TAINTED. -/

theorem State.startSync_syncCount (s : State) : s.startSync.station.syncCount = 1 := rfl

/-- R93, R122, R129: entry into TAINTED where the station's own LEAVE does not wait. -/
theorem State.changeState_tainted {s : State} (h : s.ownLeaveWaits = false) (cause : SyncCause) :
    s.changeState .tainted cause =
      (((s.moved .tainted cause).withdrawGeneral Queued.isSnapshot).startSync).slotTests := by
  rw [State.changeState, State.enter_of_no_leave h, State.enterOnce_tainted,
    State.checkLockout_of_mode (by simp [State.mode, State.startSync])]

/-- What entry into TAINTED leaves of the sequencer, the line and the transmission, and the sync sequence it starts. -/
theorem State.changeState_tainted_leaves {s : State} (h : s.ownLeaveWaits = false) (cause : SyncCause) :
    (s.changeState .tainted cause).mode = .tainted ∧ (s.changeState .tainted cause).station.syncCount = 1 ∧
      (s.changeState .tainted cause).crank = s.crank ∧ (s.changeState .tainted cause).w0 = s.w0 ∧
      (s.changeState .tainted cause).w1 = s.w1 ∧ (s.changeState .tainted cause).link.tx = s.link.tx := by
  rw [State.changeState_tainted h]
  refine ⟨?_, ?_, ?_, ?_, ?_, ?_⟩
  · simp [State.mode, State.startSync]
  · simp [State.startSync_syncCount]
  · simp
  · simp
  · simp
  · simp

/-! Clean completions. -/

/-- R75: a clean completion up to what follows for the station state. -/
def State.completed (s : State) (tx : Transmission) : State :=
  ((s.leaveLane tx).beginHold tx.frame.body).admitOwn tx.frame

theorem State.completeClean_eq (s : State) (tx : Transmission) : s.completeClean tx =
    if s.mode = .tainted ∧ tx.frame.body = .leave then (s.completed tx).changeState .offline .leaveApplied
    else (s.completed tx).heardItself := rfl

/-- R71: the lane behind the frame that has been transmitted. -/
def State.behind (s : State) (tx : Transmission) : List Queued :=
  if tx.source = .urgent then s.link.urgent.tail else s.link.urgent

@[simp] theorem State.leaveLane_frame (s : State) (tx : Transmission) :
    KeptBase s (s.leaveLane tx) ∧ (s.leaveLane tx).now = s.now ∧ (s.leaveLane tx).station = s.station
      ∧ (s.leaveLane tx).members = s.members ∧ (s.leaveLane tx).crank = s.crank ∧ (s.leaveLane tx).slotUnit = s.slotUnit
      ∧ (s.leaveLane tx).w0 = s.w0 ∧ (s.leaveLane tx).w1 = s.w1 ∧ (s.leaveLane tx).link.tx = none
      ∧ (s.leaveLane tx).link.readback = 0 ∧ (s.leaveLane tx).link.inbound = s.link.inbound
      ∧ (s.leaveLane tx).link.late = s.link.late ∧ (s.leaveLane tx).link.urgent = s.behind tx := by
  simp only [State.leaveLane]
  split <;> simp [KeptBase, State.probeEnded, State.behind]

@[simp] theorem State.beginHold_frame (s : State) (b : Body) :
    KeptBase s (s.beginHold b) ∧ (s.beginHold b).now = s.now ∧ (s.beginHold b).station = s.station
      ∧ (s.beginHold b).members = s.members ∧ (s.beginHold b).link.tx = s.link.tx
      ∧ (s.beginHold b).link.readback = s.link.readback ∧ (s.beginHold b).link.inbound = s.link.inbound
      ∧ (s.beginHold b).link.late = s.link.late ∧ (s.beginHold b).link.probeDue = s.link.probeDue
      ∧ (s.beginHold b).link.probeTimer = s.link.probeTimer := by
  unfold State.beginHold
  split <;> simp [KeptBase]

@[simp] theorem State.admitOwn_frame (s : State) (f : Frame) :
    KeptBase s (s.admitOwn f) ∧ (s.admitOwn f).now = s.now ∧ (s.admitOwn f).station = s.station
      ∧ (s.admitOwn f).members = s.members ∧ (s.admitOwn f).crank = s.crank ∧ (s.admitOwn f).slotUnit = s.slotUnit
      ∧ (s.admitOwn f).w0 = s.w0 ∧ (s.admitOwn f).w1 = s.w1 ∧ (s.admitOwn f).link.tx = s.link.tx
      ∧ (s.admitOwn f).link.urgent = s.link.urgent ∧ (s.admitOwn f).link.general = s.link.general
      ∧ (s.admitOwn f).link.readback = s.link.readback ∧ (s.admitOwn f).link.late = s.link.late
      ∧ (s.admitOwn f).link.probeDue = s.link.probeDue ∧ (s.admitOwn f).link.probeTimer = s.link.probeTimer := by
  unfold State.admitOwn
  split <;> simp [KeptBase, State.pushInbound]

@[simp] theorem State.completed_frame (s : State) (tx : Transmission) :
    KeptBase s (s.completed tx) ∧ (s.completed tx).now = s.now ∧ (s.completed tx).station = s.station
      ∧ (s.completed tx).members = s.members ∧ (s.completed tx).link.tx = none ∧ (s.completed tx).link.readback = 0 := by
  simp [State.completed, KeptBase]

theorem State.inUrgent_isPhase {s : State} {p : Phase} :
    s.inUrgent (Queued.isPhase p) = false ↔ ∀ q ∈ s.link.urgent, q.isPhase p = false := by
  simp [State.inUrgent]

/-- R56: the request's own CRANK_PENDING begins the hold. -/
theorem State.completed_holds {s : State} {tx : Transmission} (hb : tx.frame.body.isPhase .crankPending = true)
    (hc : s.crank.state = .settling) (hq : ∀ q ∈ s.behind tx, q.isPhase .crankPending = false) :
    (s.completed tx).crank = { s.crank with hold := true } := by
  have hin : (s.leaveLane tx).inUrgent (Queued.isPhase .crankPending) = false :=
    State.inUrgent_isPhase.mpr (by simpa using hq)
  simp [State.completed, State.beginHold, hb, hc, hin]

/-- R56: one of an earlier request, with the request's own behind it, begins none. -/
theorem State.completed_keeps {s : State} {tx : Transmission}
    (hq : ∃ q ∈ s.behind tx, q.isPhase .crankPending = true) :
    (s.completed tx).crank = s.crank ∧ (s.completed tx).shedHigh = s.shedHigh := by
  have hin : (s.leaveLane tx).inUrgent (Queued.isPhase .crankPending) = true := by
    simpa [State.inUrgent] using hq
  have hnone : (s.leaveLane tx).beginHold tx.frame.body = s.leaveLane tx := by
    simp [State.beginHold, hin]
  rw [State.completed, hnone]
  exact ⟨by simp, State.shedHigh_congr (by simp) (by simp) (by simp) (by simp)⟩

/-- R78: in ISOLATED the completed frame is not admitted, so that none waits. -/
theorem State.completed_isolated {s : State} (hf : s.InboundFits) (hm : s.mode = .isolated) (tx : Transmission) :
    (s.completed tx).ownLeaveWaits = false := by
  have hadmits : admits ((s.leaveLane tx).beginHold tx.frame.body).mode
      ((s.leaveLane tx).beginHold tx.frame.body).self tx.frame = false := by
    have : ((s.leaveLane tx).beginHold tx.frame.body).mode = .isolated := by simpa [State.mode] using hm
    rw [this]
    rfl
  have hinbound : (s.completed tx).link.inbound = [] := by
    rw [State.completed, State.admitOwn, hadmits]
    simpa using hf.eq_nil (.inr (.inl hm))
  exact State.ownLeaveWaits_nil hinbound

/-- R102: the end of isolation by readback moves neither the sequencer nor the line nor the transmission. -/
theorem State.heardItself_leaves {s : State} (h : s.mode = .isolated → s.ownLeaveWaits = false) :
    s.heardItself.crank = s.crank ∧ s.heardItself.w0 = s.w0 ∧ s.heardItself.w1 = s.w1 ∧
      s.heardItself.link.tx = s.link.tx ∧ s.heardItself.link.readback = s.link.readback ∧ s.heardItself.pins = s.pins := by
  unfold State.heardItself
  split
  · rename_i hi
    split
    · exact ⟨rfl, rfl, rfl, rfl, rfl, rfl⟩
    · obtain ⟨-, -, hcrank, hw0, hw1, htx⟩ := State.changeState_tainted_leaves (h hi.1) .linkRestored
      exact ⟨hcrank, hw0, hw1, htx, by simp, by simp⟩
  · exact ⟨rfl, rfl, rfl, rfl, rfl, rfl⟩

/-- R84: a probe that completes is no longer due. -/
theorem State.completed_probe {s : State} {tx : Transmission} (hs : tx.source = .probe) :
    (s.completed tx).link.probeDue = false ∧ (s.completed tx).link.probeTimer = some (s.now + 100) := by
  simp [State.completed, State.leaveLane, hs, State.probeEnded, Config.probePeriod]

/-- Settles O29. -/
theorem cleanCompletionMoves : Obligations.CleanCompletionMoves := by
  intro s tx hs hf htx behind
  have hexec : exec .frameCompletedClean s = .next (s.completeClean tx).conclude := by
    show execFrameCompletedClean s = _
    simp only [execFrameCompletedClean, htx]
  have hmode : (s.completed tx).mode = s.mode := by simp [State.mode]
  have hwaits : (s.completed tx).mode = .isolated → (s.completed tx).ownLeaveWaits = false := fun hm =>
    State.completed_isolated hf (hmode ▸ hm) tx
  obtain ⟨hcrank, hw0, hw1, hheardTx, hheardReadback, hpins⟩ := State.heardItself_leaves hwaits
  obtain ⟨hurgent, hgeneral, hoffTx, -, hstation, -⟩ := (s.completed tx).enterOnce_offline_leaves .leaveApplied
  refine ⟨_, hexec, ?_⟩
  rw [State.completeClean_eq]
  by_cases hleave : s.mode = .tainted ∧ tx.frame.body = .leave
  · rw [if_pos hleave, State.changeState_offline]
    have hoffline : ((s.completed tx).enterOnce .offline .leaveApplied).conclude.mode = .offline := by
      simp [State.mode, hstation]
    refine ⟨by simp [hoffTx], by simp, by simp, fun hb => ?_, fun _ _ => ⟨hoffline, by simp [hstation]; rfl,
      by simp [hurgent], by simp [hgeneral], State.dead_enable (State.conclude_settled _) (by rw [hoffline]; rfl)⟩,
      fun hm => ?_, fun hm => ?_⟩
    · rw [hleave.2] at hb
      cases hb
    · rw [hleave.1] at hm
      cases hm
    · rw [hleave.1] at hm
      cases hm
  · rw [if_neg hleave]
    have hline : (s.completed tx).heardItself.conclude.shedHigh = (s.completed tx).shedHigh :=
      State.shedHigh_congr (by simp [hcrank]) (by simp [hw0]) (by simp [hw1]) (by simp [hpins])
    have hsame : (s.completed tx).silent = s.silent := by
      simp [State.silent, State.othersPresent, State.silenceDeadline, State.self] <;> rfl
    refine ⟨by simp [hheardTx], by simp [hheardReadback], by simp, fun hb hc => ⟨fun hq => ?_, fun hq => ?_⟩,
      fun hm hl => absurd ⟨hm, hl⟩ hleave, fun hm hr => ⟨fun hsilent => ?_, fun hsilent => ?_⟩, fun hm hr hp => ?_⟩
    · have hhold := State.completed_holds hb hc hq
      exact ⟨by simp [hcrank, hhold], by rw [hline]; simp [State.shedHigh, State.ownDrive, hhold]⟩
    · obtain ⟨hkeeps, hsame⟩ := State.completed_keeps hq
      exact ⟨by simp [hcrank, hkeeps], hline.trans hsame⟩
    · obtain ⟨hm', hsync, -⟩ := State.changeState_tainted_leaves (hwaits (hmode.trans hm)) .linkRestored
      rw [State.heardItself, if_pos (by simpa [hmode, hr] using hm), hsame, hsilent]
      exact ⟨by simpa [State.mode] using hm', by simpa using hsync⟩
    · rw [State.heardItself, if_pos (by simpa [hmode, hr] using hm), hsame, hsilent]
      exact ⟨by simpa [State.mode, State.setIsolation] using hm, by simp [State.setIsolation]⟩
    · obtain ⟨hdue, htimer⟩ := State.completed_probe (s := s) hp
      rw [State.heardItself, if_neg (by simp [hr])]
      exact ⟨by simpa [State.mode] using hm, by simp [hdue], by simp [htimer]⟩

end Sys2Proof.Machine
end


section
/-! A change of station state that discards the station's own LEAVE (R118), what an application leaves of the changes that
wait, and the good frames that move the station state (R79, R87, R101, R102, R119). -/

namespace Sys2Proof.Machine

/-! A change to TAINTED or ISOLATED. -/

theorem State.ownLeaveWaits_eq (s : State) : s.ownLeaveWaits = hasOwnLeave s.self s.link.inbound := rfl

/-- R78, R118: TAINTED and ISOLATED admit no LEAVE. -/
theorem State.enterOnce_discards_leave {s : State} {new : StationState} (hn : new = .tainted ∨ new = .isolated)
    (cause : SyncCause) : (s.enterOnce new cause).ownLeaveWaits = false := by
  rw [State.ownLeaveWaits_eq, State.enterOnce_inbound, hasOwnLeave, List.any_eq_false]
  intro f hf
  have hadmits := (List.mem_filter.mp hf).2
  intro hl
  simp only [Bool.and_eq_true, beq_iff_eq] at hl
  rcases hn with rfl | rfl <;> simp [admits, hl.2] at hadmits

/-- R87, R118: a change that discards the station's own completed LEAVE ends in OFFLINE. -/
theorem State.enter_discarding {s : State} {new : StationState} (hn : new = .tainted ∨ new = .isolated)
    (cause : SyncCause) : s.enter new cause = if s.ownLeaveWaits then
      (s.enterOnce new cause).enterOnce .offline .leaveApplied else s.enterOnce new cause := by
  have hoff : (new != .offline) = true := by rcases hn with rfl | rfl <;> rfl
  simp only [State.enter, State.enterOnce_discards_leave hn, hoff]
  cases s.ownLeaveWaits <;> rfl

theorem State.changeState_discarding {s : State} {new : StationState} (hn : new = .tainted ∨ new = .isolated)
    (cause : SyncCause) : s.changeState new cause = if s.ownLeaveWaits then
      (s.enterOnce new cause).enterOnce .offline .leaveApplied else (s.enterOnce new cause).slotTests := by
  rw [State.changeState, State.enter_discarding hn]
  split
  · have hmode := (s.enterOnce new cause).enterOnce_mode .offline .leaveApplied
    rw [State.slotTests_of_not_reporting (by rw [hmode]; rfl), State.checkLockout_of_mode (by rw [hmode]; decide)]
  · refine State.checkLockout_of_mode ?_
    have hmode : (s.enterOnce new cause).slotTests.mode = new := by
      rw [State.mode, State.slotTests_frame (s.enterOnce new cause) |>.2.2.1]
      exact s.enterOnce_mode new cause
    rw [hmode]
    rcases hn with rfl | rfl <;> decide

theorem State.changeState_discarding_mode {s : State} {new : StationState} (hn : new = .tainted ∨ new = .isolated)
    (cause : SyncCause) : (s.changeState new cause).mode = leavingFor s.ownLeaveWaits new := by
  rw [State.changeState_discarding hn, leavingFor]
  split
  · exact State.enterOnce_mode _ _ _
  · rw [State.mode, State.slotTests_frame (s.enterOnce new cause) |>.2.2.1]
    exact s.enterOnce_mode new cause

/-- R87 step 3: what is left in the inbound queue is what the state at the end admits. -/
theorem State.changeState_discarding_inbound {s : State} {new : StationState} (hn : new = .tainted ∨ new = .isolated)
    (cause : SyncCause) :
    (s.changeState new cause).link.inbound = s.link.inbound.filter (admits (s.changeState new cause).mode s.self) := by
  rw [State.changeState_discarding_mode hn, State.changeState_discarding hn, leavingFor]
  have hself : (s.enterOnce new cause).self = s.self := by simp [State.self]
  split
  · simp [State.enterOnce_inbound, admits, hself]
  · simp [State.enterOnce_inbound]

/-- R72: where it ends in OFFLINE, the lanes are empty and no frame waits. -/
theorem State.changeState_discarding_offline {s : State} {new : StationState} (hn : new = .tainted ∨ new = .isolated)
    {cause : SyncCause} (ho : (s.changeState new cause).mode = .offline) :
    (s.changeState new cause).link.urgent = [] ∧ (s.changeState new cause).link.general = [] ∧
      (s.changeState new cause).link.inbound = [] := by
  rw [State.changeState_discarding_mode hn, leavingFor] at ho
  rw [State.changeState_discarding hn]
  split at ho
  · rename_i hl
    rw [if_pos hl]
    obtain ⟨hurgent, hgeneral, -, hinbound, -⟩ := (s.enterOnce new cause).enterOnce_offline_leaves .leaveApplied
    exact ⟨hurgent, hgeneral, hinbound⟩
  · rcases hn with rfl | rfl <;> cases ho

theorem State.enterOnce_isolated_station (s : State) (cause : SyncCause) :
    (s.enterOnce .isolated cause).station = s.station.entered s.now .isolated cause := by
  rw [State.enterOnce_isolated]
  simp

/-! What an application leaves (R87). -/

@[simp] theorem State.takeOutcome_frame (s : State) (f : Frame) (a : Applied) :
    (s.takeOutcome f a).straps = s.straps ∧ (s.takeOutcome f a).config = s.config ∧ (s.takeOutcome f a).pins = s.pins
      ∧ (s.takeOutcome f a).now = s.now ∧ (s.takeOutcome f a).station = s.station
      ∧ (s.takeOutcome f a).link.tx = s.link.tx ∧ (s.takeOutcome f a).link.inbound = s.link.inbound
      ∧ (s.takeOutcome f a).link.late = s.link.late ∧ (s.takeOutcome f a).port.due = s.port.due := by
  unfold State.takeOutcome
  dsimp only
  split <;> simp

/-- The changes that wait and the straps stay. -/
structure KeepsLate (s t : State) : Prop where
  late : t.link.late = s.link.late
  straps : t.straps = s.straps

theorem KeepsLate.refl (s : State) : KeepsLate s s := ⟨rfl, rfl⟩

theorem KeepsLate.trans {a b c : State} (h : KeepsLate a b) (k : KeepsLate b c) : KeepsLate a c :=
  ⟨k.late.trans h.late, k.straps.trans h.straps⟩

theorem State.conclude_keepsLate (s : State) : KeepsLate s s.conclude := ⟨by simp, by simp⟩

theorem State.settleDown_keepsLate (s : State) (n : Nat) : KeepsLate s (s.settleDown n) := ⟨by simp, by simp⟩

theorem State.loadReplica_keepsLate (s : State) (r : Replica) : KeepsLate s (s.loadReplica r) :=
  ⟨by simp [State.loadReplica], by simp [State.loadReplica]⟩

theorem State.loadSnapshot_keepsLate (s : State) (epoch : Half) (image : List Byte) (f : Frame) :
    KeepsLate s (s.loadSnapshot epoch image f) := by
  unfold State.loadSnapshot
  split
  · exact s.loadReplica_keepsLate _
  · exact ⟨by simp, by simp⟩

theorem State.yieldTo_keepsLate (s : State) (n : Nat) (f : Frame) : KeepsLate s (s.yieldTo n f) := by
  have htainted : KeepsLate s ((s.capture .digestYield (.station f.sender) (some f.body.kind)).enter .tainted .digestYield) :=
    ⟨by simp, by simp⟩
  simp only [State.yieldTo]
  refine KeepsLate.trans ?_ (State.settleDown_keepsLate _ n)
  split
  · split
    · exact htainted.trans (State.loadSnapshot_keepsLate _ _ _ _)
    · exact htainted
  · exact htainted

theorem State.applyTable_keepsLate (s : State) (f : Frame) (effect : Frame → Replica → OwnEffect) (n : Nat) :
    KeepsLate s (s.applyTable f effect n) := by
  simp only [State.applyTable]
  (repeat' split) <;> exact ⟨by simp, by simp⟩

theorem State.applyFrame_keepsLate (s : State) (f : Frame) {steps : State → Nat → State}
    (hs : ∀ t n, KeepsLate t (steps t n)) : KeepsLate s (s.applyFrame f steps) := by
  simp only [State.applyFrame]
  split
  · exact hs _ _
  · exact KeepsLate.trans ⟨by simp, by simp⟩ (hs _ _)
  · exact s.yieldTo_keepsLate _ f

theorem State.applyHead_keepsLate (s : State) (kind : FrameKind) {act : Frame → State → State}
    (ha : ∀ f t, KeepsLate t (act f t)) : KeepsLate s (s.applyHead kind act) := by
  unfold State.applyHead
  split
  · rename_i f rest _
    have hrest : KeepsLate s (s.setLink { s.link with inbound := rest }) := ⟨rfl, rfl⟩
    split
    · exact (hrest.trans (ha f _)).trans (State.conclude_keepsLate _)
    · exact .refl s
  · exact .refl s

theorem State.plainFrame_keepsLate (s : State) (kind : FrameKind) {take : State → Frame → State}
    (ht : ∀ t f, KeepsLate t (take t f)) : KeepsLate s (s.plainFrame kind take) :=
  s.applyHead_keepsLate kind fun f t => t.applyFrame_keepsLate f fun u _ => (ht u f).trans ⟨by simp, by simp⟩

theorem State.takePresence_keepsLate (s : State) (f : Frame) : KeepsLate s (s.takePresence f) := by
  unfold State.takePresence
  (repeat' split) <;> exact ⟨by simp, by simp⟩

theorem State.takeSyncRequest_keepsLate (s : State) (f : Frame) : KeepsLate s (s.takeSyncRequest f) := by
  simp only [State.takeSyncRequest]
  (repeat' split) <;> exact ⟨by simp, by simp⟩

theorem State.takeSnapshot_keepsLate (s : State) (f : Frame) : KeepsLate s (s.takeSnapshot f) := by
  simp only [State.takeSnapshot]
  (repeat' split) <;> exact ⟨by simp, by simp⟩

/-- R87: an application begins no change that waits, and ends none. -/
theorem State.applyKind_keepsLate (s : State) (kind : FrameKind) : KeepsLate s (s.applyKind kind) := by
  cases kind
  case presence => exact s.plainFrame_keepsLate _ State.takePresence_keepsLate
  case syncRequest => exact s.plainFrame_keepsLate _ State.takeSyncRequest_keepsLate
  case snapshot =>
    unfold State.applyKind State.snapshotFrame
    refine s.applyHead_keepsLate .snapshot fun f t => ?_
    split
    case h_1 | h_2 => exact (t.loadSnapshot_keepsLate _ _ f).trans (State.settleDown_keepsLate _ _)
    · exact t.applyFrame_keepsLate f fun u _ => (u.takeSnapshot_keepsLate f).trans ⟨by simp, by simp⟩
  all_goals exact s.applyHead_keepsLate _ fun f t => t.applyFrame_keepsLate f fun u n => u.applyTable_keepsLate f _ n

/-! The changes that waited, in the order of their events (R87). -/

/-- The lanes and the inbound queue of a station that is OFFLINE are empty. -/
def State.OfflineEmpty (s : State) : Prop :=
  s.mode = .offline → s.link.urgent = [] ∧ s.link.general = [] ∧ s.link.inbound = []

/-- OFFLINE by DUPLICATE. -/
def State.OfflineByDuplicate (s : State) : Prop := s.mode = .offline ∧ s.station.offline = some .duplicate

theorem State.makeChange_offlineEmpty {s : State} (h : s.OfflineEmpty) (c : LateChange) : (s.makeChange c).OfflineEmpty := by
  cases c <;> simp only [State.makeChange] <;> split
  case overrun.isTrue => exact State.changeState_discarding_offline (.inl rfl)
  case silence.isTrue => exact State.changeState_discarding_offline (.inr rfl)
  case duplicate.isTrue hm => exact fun _ => h hm
  case duplicate.isFalse =>
    rw [State.changeState_offline]
    obtain ⟨hurgent, hgeneral, -, hinbound, -⟩ := s.enterOnce_offline_leaves .duplicateStation
    exact fun _ => ⟨hurgent, hgeneral, hinbound⟩
  all_goals exact h

theorem State.makeChange_duplicate (s : State) : (s.makeChange .duplicate).OfflineByDuplicate := by
  simp only [State.makeChange]
  split
  · rename_i hm
    exact ⟨hm, rfl⟩
  · rw [State.changeState_offline]
    obtain ⟨-, -, -, -, hstation, -⟩ := s.enterOnce_offline_leaves .duplicateStation
    exact ⟨State.enterOnce_mode _ _ _, by rw [hstation]; rfl⟩

theorem State.makeChange_silence (s : State) : (s.makeChange .silence).mode.beating = false := by
  simp only [State.makeChange]
  split
  · rw [State.changeState_discarding_mode (.inr rfl), leavingFor]
    split <;> rfl
  · rename_i h
    simpa using h

/-- A station without a heartbeat stays so: it does not overrun into TAINTED, and no silence isolates it. -/
theorem State.makeChange_not_beating {s : State} (h : s.mode.beating = false) (c : LateChange) :
    (s.makeChange c).mode.beating = false := by
  cases c
  case overrun =>
    rw [State.makeChange, if_neg (by rintro (hm | hm) <;> rw [hm] at h <;> cases h)]
    exact h
  case silence => exact s.makeChange_silence
  case duplicate =>
    rw [s.makeChange_duplicate.1]
    rfl

theorem State.makeChange_offlineByDuplicate {s : State} (h : s.OfflineByDuplicate) (c : LateChange) :
    (s.makeChange c).OfflineByDuplicate := by
  cases c
  case overrun =>
    rw [State.makeChange, if_neg (by rintro (hm | hm) <;> rw [h.1] at hm <;> cases hm)]
    exact h
  case silence =>
    rw [State.makeChange, if_neg (by rw [h.1]; decide)]
    exact h
  case duplicate => exact s.makeChange_duplicate

/-- What one change makes true and every change keeps is true behind a list that holds it. -/
theorem foldl_makeChange_of_mem {P : State → Prop} {c : LateChange} (hc : ∀ s : State, P (s.makeChange c))
    (hk : ∀ (s : State) (d : LateChange), P s → P (s.makeChange d)) {l : List LateChange} (h : c ∈ l) (s : State) :
    P (l.foldl State.makeChange s) := by
  induction l generalizing s with
  | nil => cases h
  | cons d l ih =>
    rw [List.foldl_cons]
    rcases List.mem_cons.mp h with rfl | h
    · exact foldl_keeps (f := State.makeChange) (fun u e hu => hk u e hu) l (hc s)
    · exact ih h _

/-! Reception. -/

/-- R78: ENTERING and MEMBER admit every frame of another station. -/
theorem admits_of_other {mode : StationState} (hm : mode = .member ∨ mode = .entering) {self : Station} {f : Frame}
    (hf : f.sender ≠ self) : admits mode self f = true := by
  rcases hm with rfl | rfl <;> unfold admits <;> dsimp only <;> split <;> simp [hf]

@[simp] theorem State.hear_frame (s : State) (n : Station) :
    KeptBase s (s.hear n) ∧ (s.hear n).now = s.now ∧ (s.hear n).station = s.station ∧ (s.hear n).link = s.link
      ∧ (s.hear n).crank = s.crank ∧ (s.hear n).slotUnit = s.slotUnit ∧ (s.hear n).w0 = s.w0 ∧ (s.hear n).w1 = s.w1
      ∧ (s.hear n).fault = s.fault ∧ (s.hear n).history = s.history ∧ (s.hear n).port = s.port := by
  simp [State.hear, KeptBase]

theorem State.defer_mem (s : State) (c : LateChange) : c ∈ (s.defer c).link.late := by
  unfold State.defer
  split
  · simpa using ‹s.link.late.contains c = true›
  · simp

@[simp] theorem State.defer_frame (s : State) (c : LateChange) :
    KeptBase s (s.defer c) ∧ (s.defer c).now = s.now ∧ (s.defer c).station = s.station ∧ (s.defer c).fault = s.fault
      ∧ (s.defer c).port = s.port ∧ (s.defer c).link.inbound = s.link.inbound := by
  unfold State.defer
  split <;> simp [KeptBase]

theorem State.changeOutside_waits {s : State} (h : s.link.inbound ≠ []) (c : LateChange) :
    s.changeOutside c = s.defer c := by
  rw [State.changeOutside, if_pos (by simpa [State.applying] using h)]

theorem State.changeOutside_acts {s : State} (h : s.link.inbound = []) (c : LateChange) :
    s.changeOutside c = s.makeChange c := by
  rw [State.changeOutside, if_neg (by simp [State.applying, h])]

theorem State.heardOther_of_mode {s : State} (h : s.mode ≠ .isolated) : s.heardOther = s := by
  simp [State.heardOther, h]

/-- R79, R87: a good frame that meets a full inbound queue. -/
theorem State.receive_overrun {s : State} {f : Frame} (hf : f.sender ≠ s.self) (hm : s.mode = .member ∨ s.mode = .entering)
    (hl : s.link.inbound.length = 8) (hk : f.body.kind.tableChanging = true) :
    ((s.hear f.sender).takeFrame f).heardOther =
      ((s.hear f.sender).capture .inboundOverrun (.station f.sender) (some f.body.kind)).defer .overrun := by
  have hadmits : admits (s.hear f.sender).mode (s.hear f.sender).self f = true :=
    admits_of_other (by simpa [State.mode] using hm) (by simpa [State.self] using hf)
  have hroom : (s.hear f.sender).inboundRoom = false := by simp [State.inboundRoom, hl, Config.inboundCapacity]
  have htaken : (s.hear f.sender).takeFrame f =
      ((s.hear f.sender).capture .inboundOverrun (.station f.sender) (some f.body.kind)).defer .overrun := by
    rw [State.takeFrame, if_pos hadmits, hroom, State.overrun, if_pos hk, State.changeOutside_waits]
    · rfl
    · intro hn
      simp only [State.capture_frame, State.hear_frame] at hn
      rw [hn] at hl
      cases hl
  rw [htaken, State.heardOther_of_mode]
  rcases hm with hm | hm <;> simp [State.mode] at hm <;> simp [State.mode, hm]

theorem State.receive_good {s : State} {w : WireFrame} {f : Frame} (hr : s.resetLow = false) (ht : s.link.tx = none)
    (hg : goodFrame w = some f) : s.receive w =
      if f.sender = s.self then s.duplicate f else ((s.hear f.sender).takeFrame f).heardOther := by
  simp only [State.receive, hr, ht, hg]
  rfl

/-- R79: what an overrun leaves. -/
theorem receptionMoves_overrun {s : State} {f : Frame} (hm : s.mode = .member ∨ s.mode = .entering) (hf : f.sender ≠ s.self)
    (hl : s.link.inbound.length = 8) (hk : f.body.kind.tableChanging = true) {t : State}
    (ht : t = ((s.hear f.sender).takeFrame f).heardOther.conclude) :
    Counted s t .inboundOverrun ∧ t.station = s.station ∧ t.link.inbound = s.link.inbound ∧
      .overrun ∈ t.link.late ∧ t.replica = s.replica := by
  rw [State.receive_overrun hf hm hl hk] at ht
  refine ⟨?_, by simp [ht], by simp [ht], ?_, by simp [ht]⟩
  · have hcounted : Counted s ((s.hear f.sender).capture .inboundOverrun (.station f.sender) (some f.body.kind))
        .inboundOverrun := by
      rw [Counted, State.capture_counter _ rfl]
      simp [State.counter]
    have hdeferred : Tells 0 ((s.hear f.sender).capture .inboundOverrun (.station f.sender) (some f.body.kind))
        (((s.hear f.sender).capture .inboundOverrun (.station f.sender) (some f.body.kind)).defer .overrun) :=
      .none (by simp) (by simp)
    exact ht ▸ hcounted.of_tells rfl (hdeferred.trans (State.conclude_tells _))
  · rw [ht]
    simpa using State.defer_mem _ .overrun

/-- R119: what a good frame with the station's own number leaves. -/
theorem receptionMoves_duplicate {s : State} {f : Frame} {t : State} (ht : t = (s.duplicate f).conclude) :
    Counted s t .duplicateStation ∧ t.replica = s.replica ∧
      (s.link.inbound = [] → t.mode = .offline ∧ t.station.offline = some .duplicate ∧
        (s.mode ≠ .offline → t.link.urgent = [] ∧ t.link.general = [] ∧ t.link.inbound = [] ∧
          t.crank.hold = false ∧ (s.crank.state.underWay = true → t.crank = .reset) ∧ ∀ i, (t.slot i).enable = false)) ∧
      (s.link.inbound ≠ [] → t.station = s.station ∧ t.link.inbound = s.link.inbound ∧ .duplicate ∈ t.link.late) := by
  have hcounted : Counted s (s.capture .duplicateStation .none (some f.body.kind)) .duplicateStation :=
    State.capture_counter s rfl _ _
  generalize hu : s.capture .duplicateStation .none (some f.body.kind) = u at hcounted
  have hcaptured : u.link = s.link ∧ u.mode = s.mode ∧ u.crank = s.crank ∧ u.station = s.station := by
    subst hu
    simp [State.mode]
  obtain ⟨hlink, hmode, hcrank, hstation⟩ := hcaptured
  have ht' : t = (u.changeOutside .duplicate).conclude := by rw [ht, State.duplicate, hu]
  have htells : ∃ n, Tells n u (u.changeOutside .duplicate) := by
    unfold State.changeOutside
    split
    · exact ⟨0, .none (by simp) (by simp)⟩
    · simp only [State.makeChange]
      split
      · exact ⟨0, .none rfl rfl⟩
      · exact ⟨21, u.changeState_tells _ _⟩
  refine ⟨?_, by rw [ht']; simp [← hu], fun hi => ?_, fun hi => ?_⟩
  · obtain ⟨n, hn⟩ := htells
    exact ht' ▸ hcounted.of_tells rfl (hn.trans (State.conclude_tells _))
  · rw [State.changeOutside_acts (by rw [hlink, hi])] at ht'
    obtain ⟨hoff, hcause⟩ := u.makeChange_duplicate
    have hoff' : t.mode = .offline := by
      rw [ht']
      simpa [State.mode] using hoff
    refine ⟨hoff', by rw [ht']; simpa using hcause, fun hm => ?_⟩
    rw [State.makeChange, if_neg (by rwa [hmode]), State.changeState_offline] at ht'
    obtain ⟨hurgent, hgeneral, -, hinbound, -, hhold, hreset⟩ := u.enterOnce_offline_leaves .duplicateStation
    exact ⟨by rw [ht']; simpa using hurgent, by rw [ht']; simpa using hgeneral, by rw [ht']; simpa using hinbound,
      by rw [ht']; simpa using hhold, fun hw => by rw [ht']; simpa using hreset (by rwa [hcrank]),
      State.dead_enable (ht' ▸ State.conclude_settled _) (by rw [hoff']; rfl)⟩
  · rw [State.changeOutside_waits (by rwa [hlink])] at ht'
    refine ⟨by rw [ht']; simp [hstation], by rw [ht']; simp [hlink], ?_⟩
    rw [ht']
    simpa using State.defer_mem u .duplicate

/-- R102: a good frame of another station ends isolation by silence. -/
theorem receptionMoves_heard {s : State} {f : Frame} (hf : s.InboundFits) (hm : s.mode = .isolated)
    (hc : s.station.isolation = some .silence) {t : State}
    (ht : t = ((s.hear f.sender).takeFrame f).heardOther.conclude) :
    (s.link.readback ≠ 3 → t.mode = .tainted ∧ t.station.syncCount = 1) ∧
      (s.link.readback = 3 → t.mode = .isolated ∧ t.station.isolation = some .readback) := by
  have hmode : (s.hear f.sender).mode = .isolated := by simpa [State.mode] using hm
  have hnone : (s.hear f.sender).takeFrame f = s.hear f.sender := by
    simp [State.takeFrame, hmode, admits]
  rw [hnone, State.heardOther, if_pos (by simp [hmode, hc])] at ht
  refine ⟨fun hr => ?_, fun hr => ?_⟩
  · rw [if_neg (by simpa [Config.readbackLimit] using hr)] at ht
    have hwaits : (s.hear f.sender).ownLeaveWaits = false :=
      State.ownLeaveWaits_nil (by simpa using hf.eq_nil (.inr (.inl hm)))
    obtain ⟨hm', hsync, -⟩ := State.changeState_tainted_leaves hwaits .linkRestored
    exact ⟨by rw [ht]; simpa [State.mode] using hm', by rw [ht]; simpa using hsync⟩
  · rw [if_pos (by simpa [Config.readbackLimit] using hr)] at ht
    exact ⟨by rw [ht]; simpa [State.mode, State.setIsolation] using hm, by rw [ht]; simp [State.setIsolation]⟩

/-- R118: a change that ends in the state it was made for discarded no LEAVE of the station's own. -/
theorem State.changeState_stays {s : State} {new : StationState} (hn : new = .tainted ∨ new = .isolated)
    {cause : SyncCause} (h : (s.changeState new cause).mode = new) : s.ownLeaveWaits = false := by
  rw [State.changeState_discarding_mode hn, leavingFor] at h
  split at h
  · rcases hn with rfl | rfl <;> cases h
  · rename_i hl
    simpa using hl

@[simp] theorem State.conclude_mode (s : State) : s.conclude.mode = s.mode := by simp [State.mode]

/-- R79, R87, R118: an overrun that has waited. -/
theorem State.overrun_late {v : State} (hm : v.mode = .member ∨ v.mode = .entering) :
    (v.makeChange .overrun).conclude.mode = leavingFor (hasOwnLeave v.self v.link.inbound) .tainted ∧
      (v.makeChange .overrun).conclude.link.inbound =
        v.link.inbound.filter (admits (v.makeChange .overrun).conclude.mode v.self) ∧
      ((v.makeChange .overrun).conclude.mode = .tainted → (v.makeChange .overrun).conclude.station.syncCount = 1) := by
  rw [State.makeChange, if_pos hm, State.conclude_mode]
  refine ⟨State.changeState_discarding_mode (.inl rfl) _, ?_, fun ht => ?_⟩
  · simp only [State.conclude_frame]
    exact State.changeState_discarding_inbound (.inl rfl) _
  · have := (State.changeState_tainted_leaves (State.changeState_stays (.inl rfl) ht) .overrun).2.1
    simpa using this

/-- R101, R87, R118: silence that has waited. -/
theorem State.silence_late {v : State} (hm : v.mode.beating = true) :
    (v.makeChange .silence).conclude.mode = leavingFor (hasOwnLeave v.self v.link.inbound) .isolated ∧
      (v.makeChange .silence).conclude.link.inbound = [] ∧
      ((v.makeChange .silence).conclude.mode = .isolated →
        (v.makeChange .silence).conclude.station.isolation = some .silence) := by
  rw [State.makeChange, if_pos hm, State.conclude_mode]
  refine ⟨State.changeState_discarding_mode (.inr rfl) _, ?_, fun ht => ?_⟩
  · simp only [State.conclude_frame]
    rw [State.changeState_discarding_inbound (.inr rfl), State.changeState_discarding_mode (.inr rfl), leavingFor]
    split <;> simp [admits]
  · have hstays := State.changeState_stays (.inr rfl) ht
    rw [State.changeState_discarding (.inr rfl), hstays]
    simp [State.enterOnce_isolated_station]
    rfl

/-- R119, R87: a duplicate among the changes that have waited. -/
theorem State.duplicate_late {late : List LateChange} (h : .duplicate ∈ late) {v t : State}
    (ht : t = (late.foldl State.makeChange v).conclude) :
    t.mode = .offline ∧ t.station.offline = some .duplicate ∧
      (v.mode ≠ .offline → t.link.urgent = [] ∧ t.link.general = [] ∧ t.link.inbound = [] ∧
        ∀ i, (t.slot i).enable = false) := by
  have hoff := foldl_makeChange_of_mem (P := State.OfflineByDuplicate) State.makeChange_duplicate
    (fun _ d hu => State.makeChange_offlineByDuplicate hu d) h v
  have hmode : t.mode = .offline := by rw [ht, State.conclude_mode, hoff.1]
  refine ⟨hmode, by rw [ht]; simpa using hoff.2, fun hm => ?_⟩
  have hfirst : v.OfflineEmpty := fun hv => absurd hv hm
  have hempty : (late.foldl State.makeChange v).OfflineEmpty :=
    foldl_keeps (P := State.OfflineEmpty) (f := State.makeChange) (fun _ d hu => State.makeChange_offlineEmpty hu d) late
      hfirst
  obtain ⟨hurgent, hgeneral, hinbound⟩ := hempty hoff.1
  exact ⟨by rw [ht]; simpa using hurgent, by rw [ht]; simpa using hgeneral, by rw [ht]; simpa using hinbound,
    State.dead_enable (ht ▸ State.conclude_settled _) (by rw [hmode]; rfl)⟩

/-- The station once its application has ended, with the changes that waited taken out of the list. -/
def State.freed (u : State) : State := u.setLink { u.link with late := [] }

theorem State.makeLate_eq (u : State) : u.makeLate = (u.link.late.foldl State.makeChange u.freed).conclude := rfl

theorem State.exec_frameRow_eq {s : State} {f : Frame} (hp : s.port.due = false) :
    exec (frameRow f.body.kind) s = .next (s.application f.body.kind) := by
  rw [← State.applyRow_alone s f.body.kind hp]
  cases f.body.kind <;> rfl

/-- Settles O31. -/
theorem receptionMoves : Obligations.ReceptionMoves := by
  refine ⟨fun s w f _ hr hf ht hg => ?_, fun s f rest hq hp => ?_⟩
  · refine ⟨(s.receive w).conclude, rfl, fun hs hm hl hk => ?_, fun hs => ?_, fun hs hm hc => ?_⟩ <;>
      rw [State.receive_good hr ht hg]
    · exact receptionMoves_overrun hm hs hl hk (by rw [if_neg hs])
    · exact receptionMoves_duplicate (by rw [if_pos hs])
    · exact receptionMoves_heard hf hm hc (by rw [if_neg hs])
  · intro u
    refine ⟨fun hl => by rw [State.exec_frameRow_eq hp, State.application_quiet s _ hl], ?_⟩
    obtain ⟨hlate, hstraps⟩ := s.applyKind_keepsLate f.body.kind
    rw [State.exec_frameRow_eq hp]
    by_cases hl : s.link.late = []
    · refine ⟨u, by rw [State.application_quiet s _ hl], hlate.trans hl, rfl, ?_⟩
      simp [hl]
    · have hhead : s.headIs f.body.kind = true := by simp [State.headIs, hq]
      refine ⟨u.makeLate, by rw [State.application_late s _ hhead hl], u.makeLate_late, by simp, ?_⟩
      have hself : u.freed.self = s.self := congrArg Straps.station hstraps
      have heq : u.makeLate = (s.link.late.foldl State.makeChange u.freed).conclude := by
        rw [State.makeLate_eq, hlate]
      refine ⟨fun hc => ⟨fun hm => ?_, fun hm he => ?_⟩, fun hc => ⟨fun hm => ?_, fun hm => ?_⟩, fun hc => ?_, fun hc => ?_⟩
      · rw [hc] at heq
        rw [heq, ← hself]
        exact State.overrun_late (v := u.freed) hm
      · rw [hc] at heq
        have hnone : u.freed.makeChange .overrun = u.freed := if_neg fun h => h.elim hm he
        rw [heq, List.foldl_cons, List.foldl_nil, hnone]
        simp [State.freed]
      · rw [hc] at heq
        rw [heq, ← hself]
        exact State.silence_late (v := u.freed) hm
      · rw [hc] at heq
        have hnone : u.freed.makeChange .silence = u.freed := if_neg (ne_true_of_eq_false hm)
        rw [heq, List.foldl_cons, List.foldl_nil, hnone]
        simp [State.freed]
      · rw [heq, State.conclude_mode]
        exact foldl_makeChange_of_mem (P := fun v => v.mode.beating = false) State.makeChange_silence
          (fun _ d hv => State.makeChange_not_beating hv d) hc _
      · exact State.duplicate_late (v := u.freed) hc heq

end Sys2Proof.Machine
end


section
/-! What a load makes of the slots (R98, R121, R125, R135), and what the end of an event leaves of them. -/

namespace Sys2Proof.Machine

/-! The local states, the claim values and the latches. -/

/-- The slots' local states, claim values and latches stay. -/
structure SameSlots (s t : State) : Prop where
  state : ∀ i, (t.slot i).state = (s.slot i).state
  values : ∀ i, (t.slot i).values = (s.slot i).values
  latch : ∀ i, (t.slot i).latch = (s.slot i).latch

theorem SameSlots.refl (s : State) : SameSlots s s := ⟨fun _ => rfl, fun _ => rfl, fun _ => rfl⟩

theorem SameSlots.trans {a b c : State} (h : SameSlots a b) (k : SameSlots b c) : SameSlots a c :=
  ⟨fun i => (k.state i).trans (h.state i), fun i => (k.values i).trans (h.values i),
    fun i => (k.latch i).trans (h.latch i)⟩

theorem SameSlots.of_slot {s t : State} (h : ∀ i, t.slot i = s.slot i) : SameSlots s t :=
  ⟨fun i => by rw [h i], fun i => by rw [h i], fun i => by rw [h i]⟩

theorem State.slot_of_slotUnit {s t : State} (h : t.slotUnit = s.slotUnit) (i : SlotNo) : t.slot i = s.slot i := by
  simp only [State.slot, h]

theorem SameSlots.of_slotUnit {s t : State} (h : t.slotUnit = s.slotUnit) : SameSlots s t :=
  .of_slot fun i => State.slot_of_slotUnit h i

theorem SameSlots.latchable {s t : State} (h : SameSlots s t) (i : SlotNo) :
    (t.slot i).latchable = (s.slot i).latchable := by
  simp only [SlotRecord.latchable, h.state, h.values]

theorem SameSlots.foldl {α : Type} {f : State → α → State} (hf : ∀ s a, SameSlots s (f s a)) (l : List α) (s : State) :
    SameSlots s (l.foldl f s) :=
  foldl_keeps (P := SameSlots s) (f := f) (fun u a h => h.trans (hf u a)) l (.refl s)

/-- A write that changes neither the local state, nor the claim values, nor the latch of one slot. -/
theorem SameSlots.putSlot {s : State} {i : SlotNo} {r : SlotRecord} (hs : r.state = (s.slot i).state)
    (hv : r.values = (s.slot i).values) (hl : r.latch = (s.slot i).latch) : SameSlots s (s.putSlot i r) := by
  constructor <;> intro j <;> rw [State.putSlot_slot] <;> split
  all_goals first
    | rfl
    | (subst j; assumption)

theorem SameSlots.setHistory (s : State) (h : History) : SameSlots s (s.setHistory h) := .of_slotUnit rfl

theorem State.releaseAgain_sameSlots (s : State) (i : SlotNo) : SameSlots s (s.releaseAgain i) := by
  unfold State.releaseAgain
  split
  · exact .of_slotUnit (by simp)
  · exact .refl s

theorem State.testStuckClear_sameSlots (s : State) (i : SlotNo) : SameSlots s (s.testStuckClear i) := by
  unfold State.testStuckClear
  split
  · split
    · exact SameSlots.trans (.of_slotUnit (t := s.pushGeneral _) rfl) (.putSlot rfl rfl rfl)
    · have hcaptured (j : SlotNo) : (s.capture .outboundFull .none (some .stuckClear)).slot j = s.slot j :=
        State.slot_of_slotUnit (by simp) j
      exact (SameSlots.of_slot hcaptured).trans
        (.putSlot (by rw [hcaptured]) (by rw [hcaptured]) (by rw [hcaptured]))
  · exact .refl s

theorem State.slotTests_sameSlots (s : State) : SameSlots s s.slotTests :=
  (SameSlots.foldl State.releaseAgain_sameSlots allSlots s).trans (SameSlots.foldl State.testStuckClear_sameSlots allSlots _)

theorem State.conclude_sameSlots (s : State) : SameSlots s s.conclude :=
  ⟨fun i => by rw [s.conclude_slot, s.refreshed_state], fun i => by rw [s.conclude_slot, s.refreshed_values],
    fun i => by rw [s.conclude_slot, s.refreshed_latch]⟩

theorem State.tidy_slot (s : State) (n : Nat) (i : SlotNo) : (s.tidy n).slot i = s.conclude.slot i :=
  State.slot_of_slotUnit (by simp [State.tidy, State.conclude]) i

theorem State.settleDown_sameSlots (s : State) (n : Nat) : SameSlots s (s.settleDown n) :=
  s.slotTests_sameSlots.trans
    (s.slotTests.conclude_sameSlots.trans (.of_slot fun i => s.slotTests.tidy_slot n i))

theorem State.gateTimers_sameSlots (s : State) (starts : Option Key) (period : Nat) :
    SameSlots s (s.gateTimers starts period) := by
  have hslot (i : SlotNo) : (s.gateTimers starts period).slot i =
      if s.mode.live then s.settleSlot starts i (s.slot i) else { s.slot i with settle := none } :=
    mapSlots_get _ _ i
  constructor <;> intro i <;> rw [hslot, State.settleSlot] <;> (repeat' split) <;> rfl

/-! Mirrors. -/

theorem SlotRecord.mirror_shows (r : SlotRecord) (claim : Option Claim) : (r.mirror claim).Shows claim := by
  cases claim <;> exact ⟨rfl, rfl⟩

theorem SlotRecord.Shows.of_same {r u : SlotRecord} {claim : Option Claim} (h : r.Shows claim) (hs : u.state = r.state)
    (hv : u.values = r.values) : u.Shows claim := by
  cases claim <;> exact ⟨hs.trans h.1, hv.trans h.2⟩

/-- R121: a slot that shows a record is no slot apart. -/
theorem SlotRecord.Shows.not_apart {r : SlotRecord} {claim : Option Claim} (h : r.Shows claim) :
    r.state.apart = false := by
  cases claim with
  | none =>
    rw [h.1]
    rfl
  | some c =>
    rw [h.1]
    cases c.state <;> rfl

/-- A slot that shows the record is, in state and values, its own mirror. -/
theorem SlotRecord.Shows.mirror_eq {r : SlotRecord} {claim : Option Claim} (h : r.Shows claim) :
    (r.mirror claim).state = r.state ∧ (r.mirror claim).values = r.values := by
  cases claim <;> exact ⟨h.1.symm, h.2.symm⟩

theorem State.mirrored_congr {s t : State} (hc : t.config = s.config) (hs : t.straps = s.straps)
    (hr : t.replica = s.replica) (i : SlotNo) : t.mirrored i = s.mirrored i := by
  simp only [State.mirrored, State.part, State.ownClaim, State.ownKey, State.self, hc, hs, hr]
  rfl

theorem State.loadSlot_mirrored (s : State) (i j : SlotNo) : (s.loadSlot i).mirrored j = s.mirrored j :=
  State.mirrored_congr (by simp) (by simp) (by simp) j

theorem State.endCarry_mirrored (s : State) (i j : SlotNo) : (s.endCarry i).mirrored j = s.mirrored j :=
  State.mirrored_congr (by simp) (by simp) (by simp) j

/-! R121: one slot at a load. -/

/-- R121: a slot that mirrors takes its record; its notice follows where that moves its local state or its values. -/
theorem State.loadSlot_of_mirroring {s : State} {i : SlotNo} (h : (s.slot i).state.apart = false) :
    s.loadSlot i = if ((s.slot i).mirror (s.mirrored i)).state = (s.slot i).state ∧
        ((s.slot i).mirror (s.mirrored i)).values = (s.slot i).values then s.mirrorSlot i
      else (s.mirrorSlot i).postCause i .loaded := by
  cases hs : (s.slot i).state
  case carried | sending | releasing =>
    rw [hs] at h
    cases h
  all_goals simp only [State.loadSlot, hs, State.mirrorSlot]

theorem State.loadSlot_slot_other (s : State) {i j : SlotNo} (h : j ≠ i) : (s.loadSlot i).slot j = s.slot j := by
  have hposted (u : State) (c : SlotCause) : (u.postCause i c).slot j = u.slot j :=
    State.slot_of_slotUnit (by simp) j
  simp only [State.loadSlot]
  (repeat' split) <;> simp [hposted, h]

theorem State.mirrorSlot_slot_same (s : State) (i : SlotNo) :
    (s.mirrorSlot i).slot i = (s.slot i).mirror (s.mirrored i) := by
  rw [State.mirrorSlot, State.putSlot_slot, if_pos rfl]

theorem State.loadSlot_slot_same {s : State} {i : SlotNo} (h : (s.slot i).state.apart = false) :
    (s.loadSlot i).slot i = (s.slot i).mirror (s.mirrored i) := by
  rw [State.loadSlot_of_mirroring h]
  split
  · exact s.mirrorSlot_slot_same i
  · rw [← s.mirrorSlot_slot_same i]
    exact State.slot_of_slotUnit (by simp) i

/-- The slot shows what it mirrors. -/
def State.inStep (s : State) (i : SlotNo) : Bool :=
  decide (((s.slot i).mirror (s.mirrored i)).state = (s.slot i).state ∧
    ((s.slot i).mirror (s.mirrored i)).values = (s.slot i).values)

theorem State.inStep_iff (s : State) (i : SlotNo) : s.inStep i = true ↔ (s.slot i).Shows (s.mirrored i) := by
  rw [State.inStep, decide_eq_true_iff]
  refine ⟨fun ⟨hs, hv⟩ => ?_, SlotRecord.Shows.mirror_eq⟩
  exact (SlotRecord.mirror_shows (s.slot i) (s.mirrored i)).of_same hs.symm hv.symm

theorem State.loadSlot_inStep {s : State} {i : SlotNo} (h : s.inStep i = true) (j : SlotNo) :
    (s.loadSlot j).inStep i = true := by
  rw [State.inStep_iff] at h ⊢
  rw [State.loadSlot_mirrored]
  by_cases hij : i = j
  · subst hij
    rw [State.loadSlot_slot_same h.not_apart]
    exact SlotRecord.mirror_shows _ _
  · rwa [State.loadSlot_slot_other s hij]

theorem State.countP_loadSlot_le (s : State) (i : SlotNo) (l : List SlotNo) :
    l.countP (fun j => !(s.loadSlot i).inStep j) ≤ l.countP fun j => !s.inStep j := by
  refine List.countP_mono_left fun j _ hj => ?_
  by_contra hin
  rw [State.loadSlot_inStep (by simpa using hin)] at hj
  cases hj

/-- R121: a slot that is in step posts nothing at a load. -/
theorem State.loadSlot_tells_of_inStep {s : State} {i : SlotNo} (h : s.inStep i = true) : Tells 0 s (s.loadSlot i) := by
  have hshows := (s.inStep_iff i).mp h
  rw [State.loadSlot_of_mirroring hshows.not_apart, if_pos hshows.mirror_eq]
  exact .of_same (by simp) (by simp)

/-- R121: a load posts at most one notice for each slot that is out of step. -/
theorem foldl_loadSlot_tells (l : List SlotNo) (s : State) :
    Tells (l.countP fun i => !s.inStep i) s (l.foldl State.loadSlot s) := by
  induction l generalizing s with
  | nil => exact .refl s
  | cons i l ih =>
    rw [List.foldl_cons, List.countP_cons, Nat.add_comm]
    have hrest := (ih (s.loadSlot i)).mono (State.countP_loadSlot_le s i l)
    split
    · exact (s.loadSlot_tells i).trans hrest
    · exact (State.loadSlot_tells_of_inStep (by simp_all)).trans hrest

/-- R121: where the queue has room for what the load posts, a slot whose local state moves is told of. -/
theorem foldl_loadSlot_posts {l : List SlotNo} {s : State} {i : SlotNo} (hi : i ∈ l)
    (ha : (s.slot i).state.apart = false) (hn : s.inStep i = false)
    (hroom : s.port.notices.length + l.countP (fun j => !s.inStep j) ≤ 16) :
    ∃ n ∈ (l.foldl State.loadSlot s).port.notices, n.content = .slot i none none .loaded := by
  induction l generalizing s with
  | nil => cases hi
  | cons j l ih =>
    rw [List.countP_cons] at hroom
    rw [List.foldl_cons]
    by_cases hij : i = j
    · subst hij
      have hout : ¬ (((s.slot i).mirror (s.mirrored i)).state = (s.slot i).state ∧
          ((s.slot i).mirror (s.mirrored i)).values = (s.slot i).values) := by simpa [State.inStep] using hn
      have hposts : s.loadSlot i = (s.mirrorSlot i).postCause i .loaded := by
        rw [State.loadSlot_of_mirroring ha, if_neg hout]
      have hlength : (s.mirrorSlot i).port.notices.length < 16 := by
        simp [hn] at hroom
        simp
        omega
      have hfirst : { stamp := (s.mirrorSlot i).stamp, epoch := (s.mirrorSlot i).epoch, content := .slot i none none .loaded }
          ∈ (s.loadSlot i).port.notices := by
        rw [hposts, State.postCause, State.post_notices hlength]
        simp
      exact ⟨_, (foldl_loadSlot_tells l _).prefix.subset hfirst, rfl⟩
    · have hother := State.loadSlot_slot_other s hij
      refine ih ?_ ?_ ?_ ?_
      · exact (List.mem_cons.mp hi).resolve_left hij
      · rwa [hother]
      · rw [State.inStep, hother, State.loadSlot_mirrored]
        exact hn
      · have hmono := State.countP_loadSlot_le s j l
        by_cases hj : s.inStep j = true
        · have := (State.loadSlot_tells_of_inStep hj).length_le
          simp [hj] at hroom
          omega
        · have := (s.loadSlot_tells j).length_le
          simp [hj] at hroom
          omega

theorem foldl_loadSlot_slot {l : List SlotNo} {s : State} {i : SlotNo} (ha : (s.slot i).state.apart = false) :
    ((l.foldl State.loadSlot s).slot i).state.apart = false ∧
      (i ∈ l → ((l.foldl State.loadSlot s).slot i).Shows (s.mirrored i)) := by
  have hkeeps (l : List SlotNo) {u : State} (h : u.inStep i = true) : (l.foldl State.loadSlot u).inStep i = true :=
    foldl_keeps (P := fun v => v.inStep i = true) (f := State.loadSlot) (fun _ j hv => State.loadSlot_inStep hv j) l h
  have hmirrored (l : List SlotNo) (u : State) : (l.foldl State.loadSlot u).mirrored i = u.mirrored i :=
    foldl_keeps (P := fun v => v.mirrored i = u.mirrored i) (f := State.loadSlot)
      (fun v j hv => (v.loadSlot_mirrored j i).trans hv) l rfl
  induction l generalizing s with
  | nil => exact ⟨ha, fun h => by cases h⟩
  | cons j l ih =>
    rw [List.foldl_cons]
    by_cases hij : i = j
    · subst hij
      have hin : (s.loadSlot i).inStep i = true := by
        rw [State.inStep_iff, State.loadSlot_slot_same ha, State.loadSlot_mirrored]
        exact SlotRecord.mirror_shows _ _
      have hshows := ((l.foldl State.loadSlot (s.loadSlot i)).inStep_iff i).mp (hkeeps l hin)
      rw [hmirrored, State.loadSlot_mirrored] at hshows
      exact ⟨hshows.not_apart, fun _ => hshows⟩
    · have hother := State.loadSlot_slot_other s hij
      obtain ⟨hapart, hshows⟩ := ih (s := s.loadSlot j) (by rwa [hother])
      rw [State.loadSlot_mirrored] at hshows
      exact ⟨hapart, fun h => hshows ((List.mem_cons.mp h).resolve_left hij)⟩

/-! R135: the carries that end at entry into MEMBER. -/

def State.isCarried (s : State) (i : SlotNo) : Bool := (s.slot i).state == .carried

theorem State.endCarry_of_carried {s : State} {i : SlotNo} (h : s.isCarried i = true) :
    s.endCarry i = (s.putSlot i { (s.slot i).mirror (s.mirrored i) with wasOn := false }).postCause i .carryEnded :=
  if_pos h

theorem State.endCarry_of_not_carried {s : State} {i : SlotNo} (h : s.isCarried i = false) : s.endCarry i = s :=
  if_neg (by rw [State.isCarried] at h; simp [h])

theorem State.endCarry_slot (s : State) (i j : SlotNo) : (s.endCarry i).slot j =
    if j = i ∧ s.isCarried i = true then { (s.slot i).mirror (s.mirrored i) with wasOn := false } else s.slot j := by
  cases h : s.isCarried i with
  | false => simp [State.endCarry_of_not_carried h]
  | true =>
    rw [State.endCarry_of_carried h, State.postCause, State.slot_of_slotUnit (State.post_frame _ _).2.2.2.2.2.2.1,
      State.putSlot_slot]
    simp

theorem State.endCarry_shows {s : State} {i : SlotNo} (h : s.isCarried i = true) :
    ((s.endCarry i).slot i).Shows (s.mirrored i) := by
  rw [State.endCarry_slot, if_pos ⟨rfl, h⟩]
  exact (SlotRecord.mirror_shows (s.slot i) (s.mirrored i)).of_same rfl rfl

/-- A slot that has been carried shows its record; any other stays. -/
structure CarriesEnd (s t : State) : Prop where
  mirrored : ∀ i, t.mirrored i = s.mirrored i
  slot : ∀ i, t.slot i = s.slot i ∨ (s.isCarried i = true ∧ (t.slot i).Shows (s.mirrored i))

theorem CarriesEnd.refl (s : State) : CarriesEnd s s := ⟨fun _ => rfl, fun _ => .inl rfl⟩

theorem CarriesEnd.endCarry {s t : State} (h : CarriesEnd s t) (j : SlotNo) : CarriesEnd s (t.endCarry j) := by
  refine ⟨fun i => (t.endCarry_mirrored j i).trans (h.mirrored i), fun i => ?_⟩
  by_cases hij : i = j ∧ t.isCarried j = true
  · obtain ⟨rfl, hc⟩ := hij
    have hshows : ((t.endCarry i).slot i).Shows (s.mirrored i) := h.mirrored i ▸ State.endCarry_shows hc
    rcases h.slot i with hslot | ⟨hcarried, -⟩
    · exact .inr ⟨by rwa [State.isCarried, ← hslot], hshows⟩
    · exact .inr ⟨hcarried, hshows⟩
  · rw [State.endCarry_slot, if_neg hij]
    exact h.slot i

theorem foldl_endCarry_carriesEnd (l : List SlotNo) (s : State) : CarriesEnd s (l.foldl State.endCarry s) :=
  foldl_keeps (P := CarriesEnd s) (f := State.endCarry) (fun _ j h => h.endCarry j) l (.refl s)

/-- R135: at entry into MEMBER every carry ends. -/
theorem foldl_endCarry_inStep {l : List SlotNo} {s : State} {i : SlotNo} (hi : i ∈ l) (hc : s.isCarried i = true) :
    (l.foldl State.endCarry s).inStep i = true := by
  have hends := foldl_endCarry_carriesEnd l s
  rw [State.inStep_iff, hends.mirrored i]
  induction l generalizing s with
  | nil => cases hi
  | cons j l ih =>
    by_cases hij : i = j
    · subst hij
      have hshows := State.endCarry_shows hc
      rcases (foldl_endCarry_carriesEnd l (s.endCarry i)).slot i with hslot | ⟨hcarried, -⟩
      · rw [List.foldl_cons, hslot]
        exact hshows
      · have := hshows.not_apart
        rw [State.isCarried, beq_iff_eq] at hcarried
        rw [hcarried] at this
        cases this
    · have hslot : (s.endCarry j).slot i = s.slot i := by rw [State.endCarry_slot, if_neg fun h => hij h.1]
      rw [List.foldl_cons, ← s.endCarry_mirrored j i]
      exact ih ((List.mem_cons.mp hi).resolve_left hij) (by rwa [State.isCarried, hslot])
        (foldl_endCarry_carriesEnd l _)

/-- R135: at most one notice for each slot that is carried. -/
theorem foldl_endCarry_tells (l : List SlotNo) (s : State) :
    Tells (l.countP s.isCarried) s (l.foldl State.endCarry s) := by
  induction l generalizing s with
  | nil => exact .refl s
  | cons i l ih =>
    rw [List.foldl_cons, List.countP_cons, Nat.add_comm]
    have hmono : l.countP (s.endCarry i).isCarried ≤ l.countP s.isCarried := by
      refine List.countP_mono_left fun j _ hj => ?_
      rcases ((CarriesEnd.refl s).endCarry i).slot j with hslot | ⟨hcarried, -⟩
      · rwa [State.isCarried, hslot] at hj
      · exact hcarried
    have hrest := (ih (s.endCarry i)).mono hmono
    split
    · exact (s.endCarry_tells i).trans hrest
    · rename_i hc
      rw [State.endCarry_of_not_carried (by simpa using hc)] at hrest ⊢
      exact (Tells.refl s).trans hrest

end Sys2Proof.Machine
end


section
/-! The load of a snapshot (R98, R172), at a JOINING or TAINTED station and at one that yields (R91). -/

namespace Sys2Proof.Machine

/-! Entering ENTERING and MEMBER: the station's own LEAVE stays (R78). -/

theorem hasOwnLeave_admitted {new : StationState} (hn : new = .entering ∨ new = .member) (self : Station) (l : List Frame) :
    hasOwnLeave self (l.filter (admits new self)) = hasOwnLeave self l := by
  have hadmits (f : Frame) (hf : f.body = .leave) : admits new self f = true := by
    rcases hn with rfl | rfl <;> simp [admits, hf]
  rw [hasOwnLeave, hasOwnLeave, List.any_filter]
  congr 1
  funext f
  by_cases hf : f.body = .leave
  · simp [hadmits f hf]
  · simp [hf]

/-- R118: a change to ENTERING or MEMBER discards no LEAVE. -/
theorem State.enter_admitting {new : StationState} (hn : new = .entering ∨ new = .member) (s : State) (cause : SyncCause) :
    s.enter new cause = s.enterOnce new cause := by
  have hself : (s.enterOnce new cause).self = s.self := by simp [State.self]
  have hleave : (s.enterOnce new cause).ownLeaveWaits = s.ownLeaveWaits := by
    rw [State.ownLeaveWaits_eq, State.ownLeaveWaits_eq, State.enterOnce_inbound, hself, hasOwnLeave_admitted hn]
  simp only [State.enter, hleave]
  cases s.ownLeaveWaits <;> rfl

theorem State.enterOnce_entering (s : State) (cause : SyncCause) : s.enterOnce .entering cause = s.moved .entering cause := by
  have hentry : (s.moved .entering cause).onEntry = s.moved .entering cause := by simp [State.onEntry]
  rw [State.enterOnce_eq, hentry, State.silenceOffline_of_mode (by simp)]

theorem State.enterOnce_member (s : State) (cause : SyncCause) :
    s.enterOnce .member cause = allSlots.foldl State.endCarry (s.moved .member cause) := by
  have hentry : (s.moved .member cause).onEntry = allSlots.foldl State.endCarry (s.moved .member cause) := by
    simp [State.onEntry]
  rw [State.enterOnce_eq, hentry, State.silenceOffline_of_mode (by simp [State.mode])]

/-! The records of the peers. -/

theorem allStations_get (n : Station) : allStations[n.val]? = some n := by
  revert n
  decide

theorem State.mapRecords_peer (s : State) (f : Station → PeerRecord → PeerRecord) (n : Station) :
    (s.mapRecords f).peer n = f n (s.peer n) := by
  have hget : allStations[n.val]'(by simp [allStations]) = n := List.getElem_eq_iff _ |>.mpr (allStations_get n)
  simp [State.peer, State.mapRecords, mapPeers, hget]

/-! Up to the change of station state. -/

theorem StationUnit.entered_sync (u : StationUnit) (now : Nat) (new : StationState) (cause : SyncCause) :
    (u.entered now new cause).syncCount = 0 ∧ (u.entered now new cause).syncTimer = none := ⟨rfl, rfl⟩

/-- R98: the state that a load takes the station to. -/
def State.loadedMode (s : State) (r : Replica) : StationState :=
  if s.mode = .tainted ∧ r.isPresent s.self = true then .member else .entering

theorem State.loadedMode_cases (s : State) (r : Replica) : s.loadedMode r = .entering ∨ s.loadedMode r = .member := by
  unfold State.loadedMode
  split
  · exact .inr rfl
  · exact .inl rfl

/-- What a load leaves as it was, up to the slots and the sequencer. -/
structure LoadTaken (s u : State) (r : Replica) : Prop where
  replica : u.replica = some r
  mode : u.mode = s.loadedMode r
  sync : u.station.syncCount = 0 ∧ u.station.syncTimer = none
  crank : u.crank = s.crank
  line : u.pins = s.pins ∧ u.w0 = s.w0 ∧ u.w1 = s.w1
  board : u.straps = s.straps ∧ u.config = s.config ∧ u.now = s.now ∧ u.members = s.members
  slot : ∀ i, (s.slot i).state.apart = false → u.slot i = s.slot i
  room : u.port.notices.length + allSlots.countP (fun i => !u.inStep i) ≤ s.port.notices.length + 6

theorem countP_inStep_le (s : State) : allSlots.countP (fun i => !s.inStep i) ≤ 4 := List.countP_le_length

theorem LoadTaken.of_member {s : State} {r : Replica} (hm : s.loadedMode r = .member) {u : State}
    (hu : u = allSlots.foldl State.endCarry
      ((s.setReplica (some r)).forgetIsolation.moved .member .snapshotLoaded)) : LoadTaken s u r := by
  generalize hv : (s.setReplica (some r)).forgetIsolation.moved .member .snapshotLoaded = v at hu
  have hslots : v.slotUnit = s.slotUnit := by simp [← hv]
  have hends := foldl_endCarry_carriesEnd allSlots v
  rw [← hu] at hends
  refine ⟨by simp [hu, ← hv], ?_, ?_, by simp [hu, ← hv], by simp [hu, ← hv], by simp [hu, ← hv], fun i hi => ?_, ?_⟩
  · rw [hm, hu, ← hv]
    simp [State.mode]
  · rw [hu, ← hv]
    simpa using StationUnit.entered_sync _ _ _ _
  · rw [← State.slot_of_slotUnit hslots i] at hi ⊢
    rcases hends.slot i with hslot | ⟨hcarried, -⟩
    · exact hslot
    · rw [State.isCarried, beq_iff_eq] at hcarried
      rw [hcarried] at hi
      cases hi
  · have hmoved : v.port.notices.length ≤ s.port.notices.length + 1 :=
      hv ▸ (State.moved_tells (s.setReplica (some r)).forgetIsolation .member .snapshotLoaded).length_le
    have hposted : u.port.notices.length ≤ v.port.notices.length + allSlots.countP v.isCarried :=
      hu ▸ (foldl_endCarry_tells allSlots v).length_le
    have hout : allSlots.countP (fun i => !u.inStep i) ≤ allSlots.countP fun i => ¬ v.isCarried i = true := by
      refine List.countP_mono_left fun i hi hstep => ?_
      simp only [decide_eq_true_eq]
      intro hc
      rw [hu, foldl_endCarry_inStep hi hc] at hstep
      cases hstep
    have hsum := List.length_eq_countP_add_countP v.isCarried (l := allSlots)
    have hfour : allSlots.length = 4 := rfl
    omega

theorem LoadTaken.of_entering {s : State} {r : Replica} (hm : s.loadedMode r = .entering) {join : Body} {u : State}
    (hu : u = ((s.setReplica (some r)).forgetIsolation.moved .entering .snapshotLoaded).queueJoin join) : LoadTaken s u r := by
  refine ⟨by simp [hu], ?_, ?_, by simp [hu], by simp [hu], by simp [hu], fun i _ => ?_, ?_⟩
  · rw [hm, hu]
    simp [State.mode]
  · rw [hu]
    simpa using StationUnit.entered_sync _ _ _ _
  · exact State.slot_of_slotUnit (by simp [hu]) i
  · have hposted := ((State.moved_tells (s.setReplica (some r)).forgetIsolation .entering .snapshotLoaded).trans
      (State.queueJoin_tells _ join)).length_le
    rw [← hu] at hposted
    have hlength : (s.setReplica (some r)).forgetIsolation.port.notices.length = s.port.notices.length := rfl
    have := countP_inStep_le u
    omega

/-- R98: a load takes the station to MEMBER or ENTERING. -/
theorem State.loadTaken_taken (s : State) (r : Replica) : LoadTaken s (s.loadTaken r) r := by
  have hmode : (s.setReplica (some r)).forgetIsolation.mode = s.mode := rfl
  by_cases h : s.mode = .tainted ∧ r.isPresent s.self = true
  · refine .of_member (if_pos h) ?_
    rw [State.loadTaken, State.enterLoaded, if_pos (by simp [hmode, h]), State.enter_admitting (.inr rfl),
      State.enterOnce_member]
  · refine .of_entering (if_neg h) (join := s.joinBody) ?_
    rw [State.loadTaken, State.enterLoaded, if_neg (by simpa [hmode] using h), State.enter_admitting (.inl rfl),
      State.enterOnce_entering]

/-! Up to the sequencer. -/

theorem State.mirrored_of_used {s : State} {r : Replica} (hr : s.replica = some r) {i : SlotNo}
    (hu : (s.part i).used = true) : s.mirrored i = r.find (s.ownKey i) := by
  simp [State.mirrored, hu, State.ownClaim, hr]

theorem LoadTaken.mirrored {s u : State} {r : Replica} (h : LoadTaken s u r) {i : SlotNo} (hu : (s.part i).used = true) :
    u.mirrored i = r.find (s.ownKey i) := by
  obtain ⟨hstraps, hconfig, -⟩ := h.board
  rw [State.mirrored_of_used h.replica (by rwa [State.part, hconfig])]
  simp only [State.ownKey, State.self, hstraps]

theorem State.loadTables_sameSlots (s : State) (r : Replica) : SameSlots (s.loadTaken r).loadSlots (s.loadTables r) :=
  have hgate : SameSlots (s.loadTaken r).loadSlots ((s.loadTaken r).loadSlots.gateLoaded r) :=
    State.gateTimers_sameSlots _ _ _
  hgate.trans (.of_slotUnit (by simp [State.loadTables]))

/-- What a load has done when the sequencer takes it. -/
structure TablesLoaded (s u : State) (r : Replica) : Prop where
  replica : u.replica = some r
  mode : u.mode = s.loadedMode r
  sync : u.station.syncCount = 0 ∧ u.station.syncTimer = none
  crank : u.crank = s.crank
  line : u.pins = s.pins ∧ u.w0 = s.w0 ∧ u.w1 = s.w1
  board : u.straps = s.straps ∧ u.config = s.config ∧ u.now = s.now
  shows : ∀ i, (s.part i).used = true → (s.slot i).state.apart = false → (u.slot i).Shows (r.find (s.ownKey i))
  told : s.port.notices.length ≤ 10 → ∀ i, (s.part i).used = true → (s.slot i).state.apart = false →
    (u.slot i).state ≠ (s.slot i).state → ∃ n ∈ u.port.notices, n.content = .slot i none none .loaded
  silence : ∀ n, (u.peer n).silence = (if n ≠ s.self ∧ r.isPresent n = true then some (s.now + 350) else none)
  orphanHold : ∀ n, (u.peer n).orphanHold =
    (if n ≠ s.self ∧ r.isPresent n = false ∧ r.hasReclaimable n = true then
      some (s.now + 1000 * s.config.general.orphanHold) else none)

theorem LoadTaken.tables {s u : State} {r : Replica} (h : LoadTaken s u r) {v : State}
    (hv : v = (u.loadSlots.gateLoaded r).membersLoaded r) (hsame : SameSlots u.loadSlots v) : TablesLoaded s v r := by
  obtain ⟨hstraps, hconfig, hnow, -⟩ := h.board
  have hshows (i : SlotNo) (hused : (s.part i).used = true) (ha : (s.slot i).state.apart = false) :
      (v.slot i).Shows (r.find (s.ownKey i)) := by
    have hloaded := (foldl_loadSlot_slot (l := allSlots) (s := u) (i := i) (by rwa [h.slot i ha])).2 (mem_allSlots i)
    rw [h.mirrored hused] at hloaded
    exact hloaded.of_same (hsame.state i) (hsame.values i)
  have hwatching : (u.loadSlots.gateLoaded r).mode.watching = true := by
    have hmode : (u.loadSlots.gateLoaded r).mode = s.loadedMode r := by rw [← h.mode]; simp [State.mode]
    rw [hmode]
    rcases s.loadedMode_cases r with hm | hm <;> rw [hm] <;> rfl
  have hself : (u.loadSlots.gateLoaded r).self = s.self := by simp [State.self, hstraps]
  refine ⟨by simp [hv, h.replica], ?_, by simpa [hv] using h.sync, by simp [hv, h.crank], by simpa [hv] using h.line,
    by simp [hv, hstraps, hconfig, hnow], hshows, fun hroom i hused ha hne => ?_, fun n => ?_, fun n => ?_⟩
  · rw [← h.mode, hv]
    simp [State.mode]
  · have hnotices : v.port.notices = (allSlots.foldl State.loadSlot u).port.notices := by
      rw [hv]
      simp [State.loadSlots]
    rw [hnotices]
    have hslot := h.slot i ha
    refine foldl_loadSlot_posts (mem_allSlots i) (by rwa [hslot]) ?_ ?_
    · rw [Bool.eq_false_iff]
      intro hstep
      have hold := (u.inStep_iff i).mp hstep
      rw [h.mirrored hused, hslot] at hold
      have hnew := hshows i hused ha
      cases hfind : r.find (s.ownKey i) <;> rw [hfind] at hold hnew <;> exact hne (hnew.1.trans hold.1.symm)
    · have := h.room
      omega
  all_goals
    rw [hv, State.membersLoaded, State.mapRecords_peer]
    simp [State.silenceWatched, State.orphanWatched, hwatching, hself, hnow, hconfig, Config.silencePeriod,
      State.orphanPeriod, and_assoc]

theorem State.loadTables_loaded (s : State) (r : Replica) : TablesLoaded s (s.loadTables r) r :=
  (s.loadTaken_taken r).tables rfl (s.loadTables_sameSlots r)

/-! R61: what the sequencer makes of a load. -/

theorem State.strays_congr {s t : State} (hc : t.crank.state = s.crank.state) (hs : t.straps = s.straps)
    (mode : StationState) (r : Replica) : t.Strays mode r ↔ s.Strays mode r := by
  simp only [State.Strays, State.self, hc, hs]

/-- R61: a station that is not ISOLATED has strayed where its crank is to be abandoned. -/
theorem State.strayed_iff {s : State} {r : Replica} (hr : s.replica = some r) (hm : s.mode ≠ .isolated)
    (hw : s.crank.state.underWay = true) : s.strayed = true ↔ s.Strays s.mode r := by
  have hnamed : s.namedCrank = true ↔ r.phase.crankStation = some s.self := by simp [State.namedCrank, hr]
  have hphase : s.phaseRecord = some r.phase := by simp [State.phaseRecord, hr]
  have hsequencer : s.crank.state.expects r.phase.phase = false ↔
      (s.crank.state = .settling ∧ r.phase.phase ≠ .stop ∧ r.phase.phase ≠ .crankPending) ∨
        (s.crank.state = .cranking ∧ r.phase.phase ≠ .crankPending ∧ r.phase.phase ≠ .crank) := by
    cases hcrank : s.crank.state
    case idle | lockout => simp [hcrank, CrankState.underWay] at hw
    all_goals cases r.phase.phase <;> simp [CrankState.expects]
  simp only [State.strayed, State.Strays, Bool.or_eq_true, beq_iff_eq, hm, false_or, hphase, Bool.not_eq_true', hsequencer,
    or_assoc, ← Bool.not_eq_true, hnamed]

theorem State.checkAbandon_of_strays {s : State} {r : Replica} (hr : s.replica = some r) (hm : s.mode ≠ .isolated)
    (hw : s.crank.state.underWay = true) (h : s.Strays s.mode r) : s.checkAbandon.crank = .reset := by
  rw [State.checkAbandon, if_pos ((State.strayed_iff hr hm hw).mpr h), State.abandon_crank, if_pos hw]

theorem State.checkAbandon_of_not_strays {s : State} {r : Replica} (hr : s.replica = some r) (hm : s.mode ≠ .isolated)
    (hw : s.crank.state.underWay = true) (h : ¬ s.Strays s.mode r) : s.checkAbandon = s :=
  if_neg fun hs => h ((State.strayed_iff hr hm hw).mp hs)

theorem State.crankLoaded_hold (s : State) :
    s.crankLoaded.crank.hold = s.crank.hold ∧ s.crankLoaded.crank.state = s.crank.state := by
  unfold State.crankLoaded
  (repeat' split) <;> simp [State.startSettle, State.postGo]

theorem State.checkLockout_crank (s : State) : s.checkLockout.crank = s.crank ∨ s.checkLockout.crank = s.lockedOut := by
  simp only [State.checkLockout]
  (repeat' split) <;> first
    | exact .inr s.startLockout_crank
    | exact .inl rfl

theorem State.checkLockout_of_state {s : State} (h : s.crank.state ≠ .idle) : s.checkLockout = s := by
  simp [State.checkLockout, h]

theorem State.checkLockout_hold {s : State} (h : s.crank.hold = false) : s.checkLockout.crank.hold = false := by
  rcases s.checkLockout_crank with hc | hc <;> rw [hc]
  · exact h
  · rfl

/-! R125: the latches. -/

theorem State.clearLatches_slot (s : State) (i : SlotNo) : s.clearLatches.slot i = { s.slot i with latch := false } :=
  mapSlots_get _ _ i

/-- R125: a load clears the latches, and a low line sets those of the slots it would latch. -/
theorem State.latchesLoaded_slot {s : State} (hm : s.mode.live = true) (i : SlotNo) :
    s.latchesLoaded.slot i = { s.slot i with latch := !s.shedHigh && (s.slot i).latchable } := by
  have hline : s.clearLatches.shedHigh = s.shedHigh := rfl
  have hlatchable : (s.clearLatches.slot i).latchable = (s.slot i).latchable := by
    rw [State.clearLatches_slot]
    rfl
  simp only [State.latchesLoaded, hline]
  split
  · rename_i h
    rw [State.clearLatches_slot, h]
    rfl
  · rename_i h
    rw [State.latchSlots_slot (by exact hm), hlatchable, State.clearLatches_slot, Bool.eq_false_iff.mpr h]
    cases (s.slot i).latchable <;> rfl

theorem State.latchesLoaded_latchLimit {s : State} (hm : s.mode.live = true) :
    s.latchesLoaded.slotUnit.latchLimit =
      if ∃ i, (s.latchesLoaded.slot i).latch = true then some (s.now + s.config.general.latchLimit) else none := by
  have hline : s.clearLatches.shedHigh = s.shedHigh := rfl
  have hlatch (i : SlotNo) : (s.latchesLoaded.slot i).latch = (!s.shedHigh && (s.slot i).latchable) := by
    rw [State.latchesLoaded_slot hm]
  simp only [hlatch]
  cases h : s.shedHigh
  · have hloaded : s.latchesLoaded = s.clearLatches.latchSlots := by simp [State.latchesLoaded, hline, h]
    have hany : s.clearLatches.latchesAny = true ↔ ∃ i, (s.slot i).latchable = true := by
      rw [State.latchesAny_iff]
      simp only [State.clearLatches_slot]
      exact ⟨fun ⟨i, hi, _⟩ => ⟨i, hi⟩, fun ⟨i, hi⟩ => ⟨i, hi, trivial⟩⟩
    rw [hloaded, State.latchSlots_latchLimit (by exact hm)]
    simp only [hany, Bool.not_false, Bool.true_and]
    rfl
  · have hloaded : s.latchesLoaded = s.clearLatches := by simp [State.latchesLoaded, hline, h]
    rw [hloaded]
    simp [State.clearLatches]

end Sys2Proof.Machine
end


section
/-! What a snapshot leaves: the load with the sequencer and the latches, the bad image, and the yield (R91, R98, R125, R172). -/

namespace Sys2Proof.Machine

/-- R98: the sequencer's part of a load. -/
def State.sequencerLoaded (u : State) : State := u.checkAbandon.crankLoaded.checkLockout

@[simp] theorem State.sequencerLoaded_frame (u : State) :
    KeptBase u u.sequencerLoaded ∧ u.sequencerLoaded.now = u.now ∧ u.sequencerLoaded.station = u.station
      ∧ u.sequencerLoaded.members = u.members ∧ u.sequencerLoaded.slotUnit = u.slotUnit
      ∧ u.sequencerLoaded.w0 = u.w0 ∧ u.sequencerLoaded.w1 = u.w1 := by
  simp [State.sequencerLoaded, KeptBase]

theorem State.sequencerLoaded_tells (u : State) : Tells 3 u u.sequencerLoaded :=
  (u.checkAbandon_tells.trans (State.crankLoaded_tells _)).trans (State.checkLockout_tells _)

theorem State.crankLoaded_of_state {s : State} (hs : s.crank.state ≠ .settling) (hc : s.crank.state ≠ .cranking) :
    s.crankLoaded = s := by
  unfold State.crankLoaded
  (repeat' split) <;> simp_all

/-- R54, R61: a crank that has strayed releases its hold at the load. -/
theorem State.sequencerLoaded_released {u : State} {r : Replica} (hr : u.replica = some r) (hm : u.mode ≠ .isolated)
    (hw : u.crank.state.underWay = true) (h : u.Strays u.mode r) : u.sequencerLoaded.crank.hold = false := by
  have hreset := State.checkAbandon_of_strays hr hm hw h
  have hloaded : u.checkAbandon.crankLoaded = u.checkAbandon :=
    State.crankLoaded_of_state (by rw [hreset]; decide) (by rw [hreset]; decide)
  rw [State.sequencerLoaded, hloaded]
  exact State.checkLockout_hold (by rw [hreset]; rfl)

/-- A crank under way that has not strayed keeps its hold at the load. -/
theorem State.sequencerLoaded_holds {u : State} {r : Replica} (hr : u.replica = some r) (hm : u.mode ≠ .isolated)
    (hw : u.crank.state.underWay = true) (h : ¬ u.Strays u.mode r) :
    u.sequencerLoaded = u.crankLoaded ∧ u.sequencerLoaded.crank.hold = u.crank.hold := by
  obtain ⟨hhold, hstate⟩ := u.crankLoaded_hold
  have hidle : u.crankLoaded.checkLockout = u.crankLoaded :=
    State.checkLockout_of_state (by rw [hstate]; rintro hi; rw [hi] at hw; cases hw)
  have hloaded : u.sequencerLoaded = u.crankLoaded := by
    rw [State.sequencerLoaded, State.checkAbandon_of_not_strays hr hm hw h, hidle]
  exact ⟨hloaded, by rw [hloaded, hhold]⟩

/-- A load at its end, behind the tests of the slot unit and the end of the event. -/
def State.loadEnds (s : State) (r : Replica) (n : Nat) : State := ((s.loadReplica r).settleDown n).conclude

theorem State.loadEnds_sameSlots (s : State) (r : Replica) (n : Nat) :
    SameSlots (s.loadTables r).sequencerLoaded.latchesLoaded (s.loadEnds r n) :=
  (State.settleDown_sameSlots _ n).trans (State.conclude_sameSlots _)

theorem State.loadEnds_frame (s : State) (r : Replica) (n : Nat) :
    (s.loadEnds r n).replica = (s.loadTables r).replica ∧ (s.loadEnds r n).station = (s.loadTables r).station ∧
      (s.loadEnds r n).pins = (s.loadTables r).pins ∧ (s.loadEnds r n).w0 = (s.loadTables r).w0 ∧
      (s.loadEnds r n).w1 = (s.loadTables r).w1 ∧ (s.loadEnds r n).members = (s.loadTables r).members ∧
      (s.loadEnds r n).crank = (s.loadTables r).sequencerLoaded.crank ∧
      (s.loadEnds r n).slotUnit.latchLimit = (s.loadTables r).sequencerLoaded.latchesLoaded.slotUnit.latchLimit := by
  simp [State.loadEnds, State.loadReplica_eq, State.sequencerLoaded]

theorem State.loadEnds_tells (s : State) (r : Replica) (n : Nat) : Tells 19 (s.loadTables r) (s.loadEnds r n) := by
  have hlatches : Tells 0 (s.loadTables r).sequencerLoaded (s.loadReplica r) := .of_same (by
    rw [State.loadReplica_eq]
    simp [State.sequencerLoaded]) (by
    rw [State.loadReplica_eq]
    simp [State.sequencerLoaded])
  exact (((s.loadTables r).sequencerLoaded_tells.trans hlatches).trans ((s.loadReplica r).settleDown_tells n)).trans
    (State.conclude_tells _)

theorem State.loadEnds_line (s : State) (r : Replica) (n : Nat) :
    (s.loadEnds r n).shedHigh = (s.loadTables r).sequencerLoaded.shedHigh := by
  obtain ⟨-, -, hpins, hw0, hw1, -, hcrank, -⟩ := s.loadEnds_frame r n
  exact State.shedHigh_congr (by rw [hcrank]) (by rw [hw0]; simp) (by rw [hw1]; simp) (by rw [hpins]; simp)

theorem State.loadTables_live (s : State) (r : Replica) : (s.loadTables r).sequencerLoaded.mode.live = true := by
  have hm : (s.loadTables r).sequencerLoaded.mode = s.loadedMode r := by
    rw [← (s.loadTables_loaded r).mode]
    simp [State.mode]
  rw [hm]
  rcases s.loadedMode_cases r with hm | hm <;> rw [hm] <;> rfl

theorem State.loadEnds_slot (s : State) (r : Replica) (n : Nat) (i : SlotNo) :
    ((s.loadEnds r n).slot i).state = ((s.loadTables r).slot i).state ∧
      ((s.loadEnds r n).slot i).values = ((s.loadTables r).slot i).values := by
  have hsame := s.loadEnds_sameSlots r n
  have hslot : (s.loadTables r).sequencerLoaded.slot i = (s.loadTables r).slot i := State.slot_of_slotUnit (by simp) i
  rw [hsame.state, hsame.values, State.latchesLoaded_slot (s.loadTables_live r), hslot]
  exact ⟨rfl, rfl⟩

/-- R121: the notices of a load stand at its end. -/
theorem State.loadEnds_told (s : State) (r : Replica) (n : Nat) (hroom : s.port.notices.length ≤ 10) (i : SlotNo)
    (hused : (s.part i).used = true) (ha : (s.slot i).state.apart = false)
    (hne : ((s.loadEnds r n).slot i).state ≠ (s.slot i).state) :
    ∃ m ∈ (s.loadEnds r n).port.notices, m.content = .slot i none none .loaded := by
  obtain ⟨m, hm, hcontent⟩ := (s.loadTables_loaded r).told hroom i hused ha (by rwa [← (s.loadEnds_slot r n i).1])
  exact ⟨m, (s.loadEnds_tells r n).prefix.subset hm, hcontent⟩

/-- R98, R121, R125: a load. -/
theorem State.loadEnds_loaded (s : State) (r : Replica) (n : Nat) : s.Loaded (s.loadEnds r n) r ∧
    (s.loadEnds r n).mode = s.loadedMode r := by
  have h := s.loadTables_loaded r
  have hsame := s.loadEnds_sameSlots r n
  obtain ⟨hreplica, hstation, hpins, hw0, hw1, hmembers, hcrank, hlimit⟩ := s.loadEnds_frame r n
  obtain ⟨hstraps, hconfig, hnow⟩ := h.board
  have hmode : (s.loadEnds r n).mode = s.loadedMode r := by
    rw [State.mode, hstation]
    exact h.mode
  have hlive := s.loadTables_live r
  have hlatch (i : SlotNo) := State.latchesLoaded_slot hlive i
  have hunisolated : (s.loadTables r).mode ≠ .isolated := by
    rw [h.mode]
    rcases s.loadedMode_cases r with hm | hm <;> rw [hm] <;> decide
  have hstrays : s.Strays (s.loadEnds r n).mode r ↔ (s.loadTables r).Strays (s.loadTables r).mode r := by
    rw [hmode, ← h.mode]
    exact (State.strays_congr (by rw [h.crank]) hstraps _ r).symm
  have hpeer (m : Station) : (s.loadEnds r n).peer m = (s.loadTables r).peer m := by rw [State.peer, hmembers, State.peer]
  refine ⟨⟨by rw [hreplica, h.replica], by rw [hstation]; exact h.sync, fun i hused ha => ?_, fun hroom i hused ha hne => ?_,
    ⟨by rw [hpins, h.line.1], by rw [hw0, h.line.2.1], by rw [hw1, h.line.2.2]⟩, fun hw hs => ?_, fun hw hs => ?_,
    fun i => ?_, ?_, fun m => ?_, fun m => ?_⟩, hmode⟩
  · obtain ⟨hstate, hvalues⟩ := s.loadEnds_slot r n i
    exact (h.shows i hused ha).of_same hstate hvalues
  · exact s.loadEnds_told r n (by omega) i hused ha hne
  · rw [hcrank]
    exact State.sequencerLoaded_released h.replica hunisolated (by rwa [h.crank]) (hstrays.mp hs)
  · rw [hcrank, (State.sequencerLoaded_holds h.replica hunisolated (by rwa [h.crank]) (mt hstrays.mpr hs)).2, h.crank]
  · have hlatchable : ((s.loadEnds r n).slot i).latchable = ((s.loadTables r).sequencerLoaded.slot i).latchable := by
      simp only [SlotRecord.latchable, hsame.state, hsame.values, hlatch]
    rw [hsame.latch, hlatch, s.loadEnds_line, hlatchable]
  · rw [hlimit, State.latchesLoaded_latchLimit hlive]
    have hnow' : (s.loadTables r).sequencerLoaded.now = s.now := by simp [hnow]
    have hconfig' : (s.loadTables r).sequencerLoaded.config = s.config := by simp [hconfig]
    simp only [hnow', hconfig', hsame.latch]
  · rw [hpeer]
    exact h.silence m
  · rw [hpeer]
    exact h.orphanHold m

end Sys2Proof.Machine
end


section
/-! The snapshot row (R80, R91, R98, R172). -/

namespace Sys2Proof.Machine

/-- What a load reads of the station is the same before and behind a change that only the link, the station state and the
notices have seen. -/
theorem State.Loaded.of_same {s u t : State} {r : Replica} (h : u.Loaded t r) (hslots : u.slotUnit = s.slotUnit)
    (hconfig : u.config = s.config) (hstraps : u.straps = s.straps) (hcrank : u.crank = s.crank) (hnow : u.now = s.now)
    (hline : u.pins = s.pins ∧ u.w0 = s.w0 ∧ u.w1 = s.w1)
    (htold : s.port.notices.length ≤ 6 → ∀ i, (s.part i).used = true → (s.slot i).state.apart = false →
      (t.slot i).state ≠ (s.slot i).state → ∃ n ∈ t.port.notices, n.content = .slot i none none .loaded) :
    s.Loaded t r := by
  have hslot (i : SlotNo) : u.slot i = s.slot i := State.slot_of_slotUnit hslots i
  have hpart (i : SlotNo) : u.part i = s.part i := by rw [State.part, hconfig, State.part]
  have hself : u.self = s.self := by rw [State.self, hstraps, State.self]
  have hstrays : u.Strays t.mode r ↔ s.Strays t.mode r := State.strays_congr (by rw [hcrank]) hstraps _ r
  obtain ⟨hpins, hw0, hw1⟩ := hline
  obtain ⟨hreplica, hsync, hshows, -, hlines, hreleased, hholds, hlatches, hlimit, hsilence, horphan⟩ := h
  refine ⟨hreplica, hsync, fun i hused ha => ?_, htold, ?_, fun hw hs => ?_, fun hw hs => ?_, hlatches, ?_, fun n => ?_,
    fun n => ?_⟩
  · rw [State.ownKey, ← hself]
    exact hshows i (by rwa [hpart]) (by rwa [hslot])
  · rwa [hpins, hw0, hw1] at hlines
  · exact hreleased (by rwa [hcrank]) (hstrays.mpr hs)
  · rw [← hcrank]
    exact hholds (by rwa [hcrank]) (mt hstrays.mp hs)
  · rwa [hnow, hconfig] at hlimit
  · rw [← hself, ← hnow]
    exact hsilence n
  · rw [← hself, ← hnow, ← hconfig]
    exact horphan n

/-! The row. -/

theorem State.exec_snapshot {s : State} (hp : s.port.due = false) (hl : s.link.late = []) :
    exec .snapshotFrame s = .next s.snapshotFrame := by
  have hrow : exec .snapshotFrame s = .next (s.applyRow .snapshot) := rfl
  rw [hrow, State.applyRow_alone s .snapshot hp, State.application_quiet s _ hl]
  rfl

/-- The station with the head frame of the inbound queue taken from it. -/
def State.withRest (s : State) (rest : List Frame) : State := s.setLink { s.link with inbound := rest }

theorem State.snapshotFrame_loads {s : State} {f : Frame} {rest : List Frame} {requester : Byte} {epoch : Half}
    {image : List Byte} (hq : s.link.inbound = f :: rest) (hb : f.body = .snapshot requester epoch image)
    (hm : s.mode = .joining ∨ s.mode = .tainted) :
    s.snapshotFrame = (((s.withRest rest).loadSnapshot epoch image f).settleDown s.history.entries.length).conclude := by
  have hmode : (s.setLink { s.link with inbound := rest }).mode = s.mode := rfl
  have hk : f.body.kind = .snapshot := by rw [hb]; rfl
  simp only [State.snapshotFrame, State.applyHead, hq, hk, if_true, hmode]
  rcases hm with hm | hm <;> rw [hm, hb] <;> rfl

theorem State.snapshotFrame_yields {s : State} {f : Frame} {rest : List Frame} {requester : Byte} {epoch : Half}
    {image : List Byte} {own : Replica} (hq : s.link.inbound = f :: rest) (hb : f.body = .snapshot requester epoch image)
    (hr : s.replica = some own) (hv : f.verdict s.mode s.self own = .yields) :
    s.snapshotFrame = ((s.withRest rest).yieldTo s.history.entries.length f).conclude := by
  have hm : s.mode = .entering ∨ s.mode = .member := by
    simp only [Frame.verdict] at hv
    split at hv
    · rename_i h
      exact h.2
    · cases hv
  have hmode : (s.setLink { s.link with inbound := rest }).mode = s.mode := rfl
  have hverdict : (s.setLink { s.link with inbound := rest }).verdict f = .yields := by
    have hreplica : (s.setLink { s.link with inbound := rest }).replica = some own := hr
    rw [State.verdict, hreplica]
    exact hv
  have hk : f.body.kind = .snapshot := by rw [hb]; rfl
  simp only [State.snapshotFrame, State.applyHead, hq, hk, if_true, hmode]
  rcases hm with hm | hm <;> rw [hm] <;> simp only [State.applyFrame, hverdict] <;> rfl

theorem State.badCheck_counter (s : State) : s.badCheck.counter .badCheck = Nat.min 255 (s.counter .badCheck + 1) := by
  rw [State.badCheck, State.capture_counter _ rfl]
  rfl

theorem State.badCheck_counter_other {k : FaultKind} (hk : k.routine = false) (h : k ≠ .badCheck) (s : State) :
    s.badCheck.counter k = s.counter k := by
  rw [State.badCheck, State.capture, (State.post_tells _ _).counters k hk, State.captureQuiet_counter, if_neg h]
  rfl

/-- R149, R172: an image that fails its checks. -/
theorem State.badSnapshot (s : State) (n : Nat) {t : State} (ht : t = ((s.badCheck).settleDown n).conclude) :
    t.replica = s.replica ∧ t.station = s.station ∧ t.fault.badChecks = Nat.min 65535 (s.fault.badChecks + 1) ∧
      Counted s t .badCheck ∧ t.counter .digestYield = s.counter .digestYield := by
  have htells : Tells (12 + 4) s.badCheck t := by
    rw [ht]
    exact (s.badCheck.settleDown_tells n).trans (State.conclude_tells _)
  refine ⟨by simp [ht], by simp [ht], ?_, ?_, ?_⟩
  · rw [htells.badChecks]
    have hcapture (u : State) : (u.capture .badCheck .none none).fault.badChecks = u.fault.badChecks := by
      rw [State.capture, (State.post_tells _ _).badChecks]
      exact FaultUnit.take_badChecks _ _
    rw [State.badCheck, hcapture]
    rfl
  · rw [Counted, htells.counters _ rfl]
    exact s.badCheck_counter
  · rw [htells.counters _ rfl, State.badCheck_counter_other rfl (by decide)]

/-- R91: the station that yields, TAINTED. -/
def State.yielded (s : State) (f : Frame) : State :=
  (s.capture .digestYield (.station f.sender) (some f.body.kind)).enterOnce .tainted .digestYield

theorem State.yielded_eq (s : State) (f : Frame) : s.yielded f =
    (((s.capture .digestYield (.station f.sender) (some f.body.kind)).moved .tainted .digestYield).withdrawGeneral
      Queued.isSnapshot).startSync := State.enterOnce_tainted _ _

theorem State.yielded_mode (s : State) (f : Frame) : (s.yielded f).mode = .tainted := State.enterOnce_mode _ _ _

/-- R91: the yield counts itself once, and no bad check. -/
theorem State.yielded_counted (s : State) (f : Frame) : Counted s (s.yielded f) .digestYield ∧
    (s.yielded f).fault.badChecks = s.fault.badChecks ∧ (s.yielded f).counter .badCheck = s.counter .badCheck := by
  have htells := State.enterOnce_tells (s.capture .digestYield (.station f.sender) (some f.body.kind)) .tainted .digestYield
  refine ⟨Counted.of_tells (State.capture_counter s rfl _ _) rfl htells, htells.badChecks.trans ?_,
    (htells.counters _ rfl).trans ?_⟩
  · rw [State.capture, (State.post_tells _ _).badChecks]
    exact FaultUnit.take_badChecks _ _
  · rw [State.capture, (State.post_tells _ _).counters _ rfl, State.captureQuiet_counter, if_neg (by decide)]

/-- R147: the capture's notice, the SYNC notice, and that of a SYNC_REQUEST that meets a full lane. -/
theorem State.yielded_notices (s : State) (f : Frame) :
    (s.yielded f).port.notices.length ≤ s.port.notices.length + 3 := by
  have hcapture : (s.capture .digestYield (.station f.sender) (some f.body.kind)).port.notices.length ≤
      s.port.notices.length + 1 := by
    rw [State.capture]
    refine (State.post_tells _ _).length_le.trans ?_
    simp
  rw [State.yielded_eq]
  generalize s.capture .digestYield (.station f.sender) (some f.body.kind) = u at hcapture ⊢
  have hmoved := (u.moved_tells .tainted .digestYield).length_le
  have hasked := (((u.moved .tainted .digestYield).withdrawGeneral Queued.isSnapshot).startSync_tells).length_le
  simp only [State.withdrawGeneral_frame] at hasked
  omega

theorem State.yielded_frame (s : State) (f : Frame) :
    (s.yielded f).replica = s.replica ∧ (s.yielded f).slotUnit = s.slotUnit ∧ (s.yielded f).config = s.config ∧
      (s.yielded f).straps = s.straps ∧ (s.yielded f).crank = s.crank ∧ (s.yielded f).now = s.now ∧
      (s.yielded f).pins = s.pins ∧ (s.yielded f).w0 = s.w0 ∧ (s.yielded f).w1 = s.w1 := by
  rw [State.yielded_eq]
  simp [State.startSync]

/-- R91: a yield at a snapshot addressed to the station loads it. -/
theorem State.yieldTo_snapshot {s : State} {f : Frame} {epoch : Half} {image : List Byte}
    (hb : f.body = .snapshot (byteOf s.self.val) epoch image) (hl : s.ownLeaveWaits = false) (n : Nat) :
    s.yieldTo n f = ((s.yielded f).loadSnapshot epoch image f).settleDown n := by
  have hleave : (s.capture .digestYield (.station f.sender) (some f.body.kind)).ownLeaveWaits = false := by
    rw [State.ownLeaveWaits_congr (s := s) (by simp) (by simp), hl]
  have htainted : (s.capture .digestYield (.station f.sender) (some f.body.kind)).enter .tainted .digestYield =
      s.yielded f := State.enter_of_no_leave hleave _ _
  have hmode := s.yielded_mode f
  simp only [State.yieldTo, htainted]
  rw [hb]
  simp [hmode]

/-- Settles O35. -/
theorem snapshotLoads : Obligations.SnapshotLoads := by
  refine ⟨fun s f rest epoch image hq hp hl hb hm => ⟨_, State.exec_snapshot hp hl, ?_⟩,
    fun s f rest own epoch image hq hp hl hb hr hv hleave => ⟨_, State.exec_snapshot hp hl, ?_⟩⟩
  · rw [State.snapshotFrame_loads hq hb hm]
    refine ⟨fun r hi => ?_, fun hi => ?_⟩
    · have hload : (s.withRest rest).loadSnapshot epoch image f = (s.withRest rest).loadReplica r := by
        simp only [State.loadSnapshot, hi]
      rw [hload]
      obtain ⟨hloaded, hmode⟩ := (s.withRest rest).loadEnds_loaded r s.history.entries.length
      exact ⟨hloaded.of_same rfl rfl rfl rfl rfl ⟨rfl, rfl, rfl⟩ hloaded.told, hmode⟩
    · have hload : (s.withRest rest).loadSnapshot epoch image f = (s.withRest rest).badCheck := by
        simp only [State.loadSnapshot, hi]
      rw [hload]
      obtain ⟨hreplica, hstation, hbad, hcount, -⟩ := (s.withRest rest).badSnapshot s.history.entries.length rfl
      exact ⟨hreplica, hstation, hbad, hcount⟩
  · have hself : (s.withRest rest).self = s.self := rfl
    have hstays : (s.withRest rest).ownLeaveWaits = false := hleave
    rw [State.snapshotFrame_yields hq hb hr hv, State.yieldTo_snapshot (by rw [hb, hself]) hstays]
    have hframe := (s.withRest rest).yielded_frame f
    have hcounts : Counted s ((s.withRest rest).yielded f) .digestYield ∧
        ((s.withRest rest).yielded f).fault.badChecks = s.fault.badChecks ∧
        ((s.withRest rest).yielded f).counter .badCheck = s.counter .badCheck := (s.withRest rest).yielded_counted f
    have hnotices : ((s.withRest rest).yielded f).port.notices.length ≤ s.port.notices.length + 3 :=
      (s.withRest rest).yielded_notices f
    have htainted := (s.withRest rest).yielded_mode f
    generalize (s.withRest rest).yielded f = u at hframe hcounts hnotices htainted ⊢
    obtain ⟨hreplica, hslots, hconfig, hstraps, hcrank, hnow, hline⟩ := hframe
    obtain ⟨hcounted, hbadChecks, hbadCount⟩ := hcounts
    have hcounts {t : State} {m : Nat} (h : Tells m u t) : Counted s t .digestYield := hcounted.of_tells rfl h
    cases hi : Replica.ofImage epoch image f.epoch f.digest with
    | some r =>
      have hload : u.loadSnapshot epoch image f = u.loadReplica r := by simp only [State.loadSnapshot, hi]
      rw [hload]
      refine ⟨hcounts (((u.loadReplica_tells r).trans (State.settleDown_tells _ _)).trans (State.conclude_tells _)), ?_, nofun⟩
      rintro r' ⟨⟩
      obtain ⟨hloaded, hmode⟩ := u.loadEnds_loaded r s.history.entries.length
      refine ⟨hloaded.of_same hslots hconfig hstraps hcrank hnow hline fun hroom i hused ha hne => ?_, ?_⟩
      · refine u.loadEnds_told r _ (by omega) i ?_ ?_ ?_
        · rwa [State.part, hconfig]
        · rwa [State.slot_of_slotUnit hslots]
        · rwa [State.slot_of_slotUnit hslots i]
      · refine hmode.trans ?_
        have hself' : u.self = s.self := by rw [State.self, hstraps]; rfl
        simp [State.loadedMode, htainted, hself']
    | none =>
      have hload : u.loadSnapshot epoch image f = u.badCheck := by simp only [State.loadSnapshot, hi]
      rw [hload]
      obtain ⟨hrep, hstation, hbad, hcount, hyield⟩ := u.badSnapshot s.history.entries.length rfl
      refine ⟨by rw [Counted, hyield]; exact hcounted, nofun, fun _ => ⟨?_, ?_, ?_, ?_⟩⟩
      · rw [hrep, hreplica]
        exact hr
      · rw [State.mode, hstation]
        exact htainted
      · rw [hbad, hbadChecks]
      · rw [Counted, hcount, hbadCount]

end Sys2Proof.Machine
end

section
/-! No lane and no queue passes its capacity (R70, R79, R153, R164): each operation keeps the lanes, the inbound queue and
the notices within theirs (Laws/Steady), and every event that is not idle ends with a trimmed history. -/

namespace Sys2Proof.Machine

/-- R70, R79, R164: the lanes, the inbound queue and the notices are within their capacities. -/
structure State.Fits (s : State) : Prop where
  urgent : s.link.urgent.length ≤ Config.urgentCapacity
  general : s.link.general.length ≤ Config.generalCapacity
  inbound : s.link.inbound.length ≤ Config.inboundCapacity
  notices : s.port.notices.length ≤ Config.noticeCapacity

theorem State.Bounded.fits {s : State} (h : s.Bounded) : s.Fits := by
  obtain ⟨hu, hg, hi, hn, _⟩ := h
  exact ⟨hu, hg, hi, hn⟩

theorem State.Bounded.history {s : State} (h : s.Bounded) : s.history.entries.length ≤ Config.historyCapacity := by
  obtain ⟨_, _, _, _, hh⟩ := h
  exact hh

theorem Steady.fits {b s : State} (h : Steady b s) (hb : b.Fits) : s.Fits :=
  ⟨h.urgent hb.urgent, h.general hb.general, h.inbound hb.inbound, h.notices hb.notices⟩

/-- R153: the end of an event trims the history. -/
theorem State.Fits.conclude {s : State} (h : s.Fits) : s.conclude.Bounded := by
  obtain ⟨hu, hg, hi, hn⟩ := (State.conclude_steady (Steady.refl s)).fits h
  exact ⟨hu, hg, hi, hn, s.conclude_settled.2⟩

theorem Steady.conclude_bounded {b s : State} (h : Steady b s) (hb : b.Bounded) : s.conclude.Bounded :=
  (h.fits hb.fits).conclude

/-! The mailbox. -/

theorem State.Fits.setPort {s : State} (h : s.Fits) {v : Port} (hv : v.notices = s.port.notices) : (s.setPort v).Fits :=
  ⟨h.urgent, h.general, h.inbound, by rw [State.setPort_port, hv]; exact h.notices⟩

theorem State.Fits.perform {s : State} (h : s.Fits) (c : Command) : (s.perform c).state.Fits := by
  obtain ⟨hu, hg, hi, hn⟩ := State.perform_bounds (Steady.refl s) c
  exact ⟨hu h.urgent, hg h.general, hi h.inbound, hn h.notices⟩

theorem State.Fits.takeCommand {s : State} (h : s.Fits) : s.takeCommand.Fits := by
  unfold State.takeCommand
  split
  · unfold State.runRecord
    split
    · exact (h.perform _).setPort rfl
    · exact h.setPort rfl
  · exact h

theorem State.Fits.takeAtRise {s : State} (h : s.Fits) (applying : Bool) : (s.takeAtRise applying).Fits := by
  unfold State.takeAtRise
  split
  · exact h.setPort rfl
  · exact h.takeCommand

theorem State.Fits.offerRecord {s : State} (h : s.Fits) (applying : Bool) (record : CommandRecord) :
    (s.offerRecord applying record).Fits := by
  unfold State.offerRecord
  split
  · exact h.setPort rfl
  · refine State.Fits.takeAtRise ?_ applying
    exact h.setPort rfl

theorem State.Bounded.give {s : State} (h : s.Bounded) (c : Command) : (s.give c).Bounded := by
  unfold State.give
  split
  · exact h
  · exact (h.fits.offerRecord false _).conclude

theorem State.Fits.shiftOut {s : State} (h : s.Fits) (o : Selected) (out : List Byte) : (s.shiftOut o out).Fits :=
  h.setPort rfl

theorem State.Fits.readRise {s : State} (h : s.Fits) (o : Selected) (count : Nat) (applying : Bool) :
    (s.readRise o count applying).Fits := by
  unfold State.readRise
  dsimp only
  split
  · rename_i bytes _ _
    have hout := h.shiftOut o (bytes.take count)
    split
    · refine State.Fits.takeAtRise ?_ applying
      exact hout.setPort rfl
    · exact hout
  · exact h.shiftOut o _

theorem State.Fits.rise {s : State} (h : s.Fits) (shifted : List Byte) (applying : Bool) : (s.rise shifted applying).Fits := by
  unfold State.rise
  split
  · exact h
  · exact h.setPort rfl
  split
  · exact h.shiftOut _ _
  · split
    · exact h.shiftOut _ _
    · exact (h.shiftOut _ _).offerRecord applying _
  · exact h.readRise _ _ applying

theorem State.Fits.transfer {s : State} (h : s.Fits) (span : Span) (shifted : List Byte) :
    (s.transfer span shifted).Fits := by
  have hselect : s.selectPort.Fits := h.setPort rfl
  unfold State.transfer
  split
  · exact h
  · split
    · exact hselect.rise shifted false
    · exact hselect
    · exact h.rise shifted _

/-! Applications and expiries. -/

/-- R80: an application whose head is of this kind ends as an event, and any other changes nothing. -/
theorem State.Bounded.applyHead {s : State} (h : s.Bounded) (kind : FrameKind) {act : Frame → State → State}
    (hact : ∀ f t, Steady s t → Steady s (act f t)) : (s.applyHead kind act).Bounded := by
  obtain ⟨hu, hg, hi, hn⟩ := (State.applyHead_steady (.refl s) kind hact).fits h.fits
  refine ⟨hu, hg, hi, hn, ?_⟩
  unfold State.applyHead
  split
  · split
    · exact (State.conclude_settled _).2
    · exact h.history
  · exact h.history

theorem State.Bounded.applyKind {s : State} (h : s.Bounded) (kind : FrameKind) : (s.applyKind kind).Bounded := by
  cases kind
  case presence =>
    exact h.applyHead _ fun _ _ ht => State.applyFrame_steady ht _ fun _ _ hu =>
      State.evaluated_steady (State.takePresence_steady hu _) _ _ _
  case syncRequest =>
    exact h.applyHead _ fun _ _ ht => State.applyFrame_steady ht _ fun _ _ hu =>
      State.evaluated_steady (State.takeSyncRequest_steady hu _) _ _ _
  case snapshot =>
    refine h.applyHead _ fun f t ht => ?_
    split
    case h_1 | h_2 => exact State.settleDown_steady (State.loadSnapshot_steady ht _ _ _) _
    case h_3 =>
      exact State.applyFrame_steady ht _ fun _ _ hu => State.evaluated_steady (State.takeSnapshot_steady hu _) _ _ _
  all_goals
    exact h.applyHead _ fun _ _ ht => State.applyFrame_steady ht _ fun _ _ hu => State.applyTable_steady hu _ _ _

theorem State.Bounded.application {s : State} (h : s.Bounded) (kind : FrameKind) : (s.application kind).Bounded := by
  unfold State.application
  split
  · obtain ⟨hu, hg, hi, hn⟩ := (State.makeLate_steady (Steady.refl (s.applyKind kind))).fits (h.applyKind kind).fits
    exact ⟨hu, hg, hi, hn, (State.conclude_settled _).2⟩
  · exact h.applyKind kind

theorem State.Bounded.applyRow {s : State} (h : s.Bounded) (kind : FrameKind) : (s.applyRow kind).Bounded := by
  unfold State.applyRow
  split
  · refine State.Fits.conclude (State.Fits.takeCommand ?_)
    exact (h.application kind).fits.setPort rfl
  · exact h.application kind

theorem State.Bounded.expire {s : State} (h : s.Bounded) (deadline : Option Nat) {act : State → State}
    (hact : ∀ t, Steady s t → Steady s (act t)) : (s.expire deadline act).Bounded := by
  unfold State.expire
  split
  · exact (hact _ (State.advanceTo_steady (.refl s) _)).conclude_bounded h
  · exact h

theorem State.pinReset_bounded (s : State) (edge : ResetEdge) (pins : StrapPins) : (s.pinReset edge pins).Bounded := by
  cases edge <;> exact ⟨Nat.zero_le _, Nat.zero_le _, Nat.zero_le _, Nat.zero_le _, Nat.zero_le _⟩

/-! The step. -/

/-- R70, R79, R153, R164: every row keeps every capacity. -/
theorem exec_bounded {c : Instr} {s t : State} (h : s.Bounded) (he : exec c s = .next t) : t.Bounded := by
  have hnext {u : State} (hu : u.Bounded) (e : Host.Outcome.next u = (.next t : Host.Outcome State Fault Refusal)) :
      t.Bounded := by
    cases e
    exact hu
  have hsteady {u : State} (hu : Steady s u)
      (e : Host.Outcome.next u.conclude = (.next t : Host.Outcome State Fault Refusal)) : t.Bounded :=
    hnext (hu.conclude_bounded h) e
  have hexpire {d : Option Nat} {act : State → State} (hact : ∀ u, Steady s u → Steady s (act u))
      (e : Host.Outcome.next (s.expire d act) = (.next t : Host.Outcome State Fault Refusal)) : t.Bounded :=
    hnext (h.expire d hact) e
  have hs : Steady s s := .refl s
  cases c
  case pinReset edge straps => exact hnext (s.pinReset_bounded edge straps) he
  case spiStatusTransfer | spiWriteTransfer | spiReadTransfer => exact hnext (h.fits.transfer _ _).conclude he
  case presenceFrame | syncRequestFrame | snapshotFrame | joinFrame | leaveFrame | claimFrame | releaseFrame |
      settledFrame | phaseFrame | budgetFrame | shedRequestFrame | liftFrame | shedFaultFrame | stuckClearFrame |
      absenceFrame | reclaimFrame =>
    exact hnext (h.applyRow _) he
  case startBit => exact hsteady (State.takeStartBit_steady hs) he
  case lostContention => exact hsteady (State.endTransmission_steady hs) he
  case frameReceived w => exact hsteady (State.receive_steady hs w) he
  case shedFallingEdge | shedRisingEdge => exact hsteady (State.peerDrive_steady hs _) he
  case feedbackChange i drawing => exact hsteady (State.feedback_steady hs i drawing) he
  case readbackFailure =>
    unfold exec execReadbackFailure at he
    dsimp only at he
    split at he
    · exact hsteady (State.failReadback_steady hs _) he
    · exact hnext h he
  case frameCompletedClean =>
    unfold exec execFrameCompletedClean at he
    dsimp only at he
    split at he
    · exact hsteady (State.completeClean_steady hs _) he
    · exact hnext h he
  case gateTimeoutExpiry =>
    unfold exec execGateTimeoutExpiry at he
    dsimp only at he
    split at he
    · exact hexpire (fun _ hu => State.gateExpires_steady hu _) he
    · exact hnext h he
  case heartbeatExpiry => exact hexpire (fun _ hu => State.beat_steady hu) he
  case probeDue => exact hexpire (fun _ hu => State.probeFalls_steady hu) he
  case syncTimeout => exact hexpire (fun _ hu => State.syncExpires_steady hu) he
  case isolationBySilence => exact hexpire (fun _ hu => State.changeOutside_steady hu _) he
  case silenceTimerExpiry p => exact hexpire (fun _ hu => State.peerSilent_steady hu p) he
  case orphanHoldExpiry p => exact hexpire (fun _ hu => State.orphansDue_steady hu p) he
  case crankSettleExpiry => exact hexpire (fun _ hu => State.settleExpires_steady hu) he
  case lockoutExpiry => exact hexpire (fun _ hu => State.lockoutExpires_steady hu) he
  case latchLimitExpiry => exact hexpire (fun _ hu => State.latchExpires_steady hu) he
  case offDeadlineExpiry i => exact hexpire (fun _ hu => State.offExpires_steady hu i) he
  case stuckClearRetry i => exact hexpire (fun _ hu => State.retryClear_steady hu i) he
  case settleTimerExpiry i => exact hexpire (fun _ hu => State.slotSettled_steady hu i) he
  case holdLimit i => exact hexpire (fun _ hu => State.holdReached_steady hu i) he
  case vsenseSample v => exact hexpire (fun _ hu => State.sample_steady hu v) he
  case watchPulseExpiry second => exact hexpire (fun _ hu => State.endPulse_steady hu second) he
  all_goals exact hnext (h.give _) he

theorem State.Bounded.tick {s : State} (h : s.Bounded) : s.tick.Bounded := by
  simpa [State.Bounded, State.tick] using h

/-- Settles O8, row by row. -/
theorem stepKeepsBounds : Obligations.StepKeepsBounds := by
  intro s t h he
  unfold step at he
  split at he
  · cases he
    exact h.tick
  · refine exec_bounded ?_ he
    exact h

end Sys2Proof.Machine
end

section
/-! A frame as its sender drives it passes a receiver's check and is read back (R77, R170, R171). -/

namespace Sys2Proof.Machine

/-! Fields that share a byte (R170, 11.3). -/

theorem usedClassByte (used : Bool) (cls : BitVec 3) :
    (BitVec.ofBool used ++ 0#4 ++ cls).getLsbD 7 = used ∧ (BitVec.ofBool used ++ 0#4 ++ cls).extractLsb' 0 3 = cls := by
  revert used cls
  decide

theorem entryByte (slot : SlotNo) (cls : BitVec 3) (wasOn : Bool) :
    let b : Byte := BitVec.ofNat 2 slot.val ++ cls ++ 0#2 ++ BitVec.ofBool wasOn
    (b.extractLsb' 6 2).toFin = slot ∧ b.extractLsb' 3 3 = cls ∧ b.getLsbD 0 = wasOn := by
  revert slot cls wasOn
  decide

theorem claimByte (slot : SlotNo) (cls : BitVec 3) :
    let b : Byte := BitVec.ofNat 2 slot.val ++ 0#3 ++ cls
    (b.extractLsb' 6 2).toFin = slot ∧ b.extractLsb' 0 3 = cls := by
  revert slot cls
  decide

theorem phaseByte (code : BitVec 3) (attempts : BitVec 2) :
    (code ++ attempts ++ 0#3).extractLsb' 5 3 = code ∧ (code ++ attempts ++ 0#3).extractLsb' 3 2 = attempts := by
  revert code attempts
  decide

theorem settledByte (key : Key) (byOwner : Bool) :
    let b : Byte := 0#1 ++ BitVec.ofBool byOwner ++ BitVec.ofNat 6 key.code
    settledKey b = key ∧ b.getLsbD 6 = byOwner := by
  obtain ⟨station, slot⟩ := key
  revert station slot byOwner
  decide

/-! Payloads (R170). -/

theorem CapabilityField.ofBytes_bytes (c : CapabilityField) :
    CapabilityField.ofBytes (BitVec.ofBool c.used ++ 0#4 ++ c.cls) c.maxAmps c.settle = c := by
  obtain ⟨hused, hcls⟩ := usedClassByte c.used c.cls
  rw [CapabilityField.ofBytes, hused, hcls]

theorem entriesOf_bytes (entries : List EntryField) : entriesOf (entries.flatMap EntryField.bytes) = some entries := by
  induction entries with
  | nil => rfl
  | cons e entries ih =>
    obtain ⟨hslot, hcls, hon⟩ := entryByte e.slot e.cls e.wasOn
    simp only [List.flatMap_cons, EntryField.bytes, List.cons_append, List.nil_append, entriesOf, ih, Option.map_some,
      EntryField.ofBytes, hslot, hcls, hon]

theorem entries_length (entries : List EntryField) : (entries.flatMap EntryField.bytes).length = 3 * entries.length := by
  induction entries with
  | nil => rfl
  | cons e entries ih =>
    rw [List.flatMap_cons, List.length_append, ih, List.length_cons, EntryField.bytes]
    simp only [List.length_cons, List.length_nil]
    omega

/-- R170, R172: what a payload can carry: at most 4 JOIN entries, and a SNAPSHOT image of the length that its count of
records gives. -/
def Body.Carried : Body → Prop
  | .join _ _ _ _ _ entries => entries.length ≤ 4
  | .snapshot _ _ image => ∃ n : Byte, image[220]? = some n ∧ n.toNat ≤ 64 ∧ image.length = 221 + 10 * n.toNat
  | _ => True

/-- R170: the longest payload is that of a SNAPSHOT with 64 records. -/
theorem Body.Carried.length_le {b : Body} (h : b.Carried) : b.bytes.length ≤ 864 := by
  cases b with
  | snapshot requester epoch image =>
    obtain ⟨n, _, hn, hl⟩ := h
    simp only [Body.bytes, halfBytes, List.length_cons, List.length_append, List.length_nil, hl]
    omega
  | join role c0 c1 c2 c3 entries =>
    have h4 : entries.length ≤ 4 := h
    simp only [Body.bytes, CapabilityField.bytes, List.length_cons, List.length_append, List.length_nil, entries_length]
    omega
  | _ => simp [Body.bytes, halfBytes]

theorem Body.ofBytes_syncRequest (hi lo : Byte) :
    Body.ofBytes .syncRequest [hi, lo] = some (.syncRequest (halfOf hi lo)) := rfl

theorem Body.ofBytes_snapshot (requester hi lo : Byte) (image : List Byte) :
    Body.ofBytes .snapshot (requester :: hi :: lo :: image) =
      if image.length = 221 + 10 * ((image[220]?).getD 0xFF).toNat ∧ ((image[220]?).getD 0xFF).toNat ≤ 64 then
        some (.snapshot requester (halfOf hi lo) image) else none := rfl

theorem Body.ofBytes_join (role a0 a1 a2 b0 b1 b2 c0 c1 c2 d0 d1 d2 count : Byte) (rest : List Byte) :
    Body.ofBytes .join (role :: a0 :: a1 :: a2 :: b0 :: b1 :: b2 :: c0 :: c1 :: c2 :: d0 :: d1 :: d2 :: count :: rest) =
      if rest.length = 3 * count.toNat then
        (entriesOf rest).map fun entries =>
          .join role (.ofBytes a0 a1 a2) (.ofBytes b0 b1 b2) (.ofBytes c0 c1 c2) (.ofBytes d0 d1 d2) entries
      else none := rfl

theorem Body.ofBytes_claim (b0 requested minimum : Byte) :
    Body.ofBytes .claim [b0, requested, minimum] =
      some (.claim (b0.extractLsb' 6 2).toFin (b0.extractLsb' 0 3) requested minimum) := rfl

theorem Body.ofBytes_settled (b : Byte) :
    Body.ofBytes .settled [b] = some (.settled (settledKey b) (b.getLsbD 6)) := rfl

theorem Body.ofBytes_phase (b : Byte) :
    Body.ofBytes .phase [b] = some (.phase (b.extractLsb' 5 3) (b.extractLsb' 3 2)) := rfl

theorem Body.ofBytes_budget (s1 s0 r1 r0 : Byte) :
    Body.ofBytes .budget [s1, s0, r1, r0] = some (.budget (halfOf s1 s0) (halfOf r1 r0)) := rfl

/-- R170: a payload is read back as it was sent. -/
theorem Body.Carried.ofBytes_bytes {b : Body} (h : b.Carried) : Body.ofBytes b.kind b.bytes = some b := by
  cases b with
  | syncRequest epoch =>
    exact (Body.ofBytes_syncRequest _ _).trans (by rw [halfOf_halfBytes])
  | snapshot requester epoch image =>
    obtain ⟨n, hcount, hn, hl⟩ := h
    refine (Body.ofBytes_snapshot requester _ _ image).trans ?_
    rw [hcount, Option.getD_some, if_pos ⟨hl, hn⟩, halfOf_halfBytes]
  | join role c0 c1 c2 c3 entries =>
    have h4 : entries.length ≤ 4 := h
    have hcount : (byteOf entries.length).toNat = entries.length := by
      simp only [byteOf, BitVec.toNat_ofNat]
      omega
    refine (Body.ofBytes_join role _ _ _ _ _ _ _ _ _ _ _ _ (byteOf entries.length) _).trans ?_
    rw [entries_length, hcount, if_pos rfl, entriesOf_bytes]
    simp only [CapabilityField.ofBytes_bytes, Option.map_some]
  | claim slot cls requested minimum =>
    obtain ⟨hslot, hcls⟩ := claimByte slot cls
    exact (Body.ofBytes_claim _ _ _).trans (by rw [hslot, hcls])
  | settled key byOwner =>
    obtain ⟨hkey, howner⟩ := settledByte key byOwner
    exact (Body.ofBytes_settled _).trans (by rw [hkey, howner])
  | phase code attempts =>
    obtain ⟨hcode, hattempts⟩ := phaseByte code attempts
    exact (Body.ofBytes_phase _).trans (by rw [hcode, hattempts])
  | budget ceiling reserve =>
    exact (Body.ofBytes_budget _ _ _ _).trans (by rw [halfOf_halfBytes, halfOf_halfBytes])
  | _ => rfl

/-! Headers (R169, R171). -/

theorem FrameKind.ofCode_code (k : FrameKind) : FrameKind.ofCode (BitVec.ofNat 4 k.code).toNat = some k := by
  cases k <;> rfl

theorem SyncState.ofCode_code (s : SyncState) : SyncState.ofCode (BitVec.ofNat 2 s.code).toNat = some s := by
  cases s <;> rfl

/-- R77, R171: what passes the frame check. -/
theorem goodFrame_of_checks {w : WireFrame} {kind : FrameKind} {sync : SyncState}
    (hkind : FrameKind.ofCode w.kind.toNat = some kind) (hsync : SyncState.ofCode w.sync.toNat = some sync)
    (hlength : w.payload.length = w.length.toNat) (hle : w.payload.length ≤ 864) (hcheck : w.check = computedCheck w)
    (hlane : w.lane = kind.laneCode) (hcontender : w.contender = w.sender) :
    goodFrame w = (Body.ofBytes kind w.payload).map fun body =>
      { sender := w.sender, sync := sync, epoch := w.epoch, digest := w.digest, body := body } := by
  unfold goodFrame
  rw [hkind, hsync]
  exact if_pos ⟨hlength, hle, hcheck, hlane, hcontender⟩

def withCheck (w : WireFrame) (check : Half) : WireFrame := { w with check := check }

/-- R171: the check field does not cover itself. -/
theorem computedCheck_withCheck (w : WireFrame) (check : Half) : computedCheck (withCheck w check) = computedCheck w := by
  unfold computedCheck coveredBits
  rfl

/-- R170: a frame on the wires before its check is computed. -/
def Frame.unchecked (f : Frame) : WireFrame :=
  { lane := f.body.kind.laneCode, contender := f.sender, kind := BitVec.ofNat 4 f.body.kind.code,
    sender := f.sender, sync := BitVec.ofNat 2 f.sync.code, length := BitVec.ofNat 10 f.body.bytes.length,
    payload := f.body.bytes, epoch := f.epoch, digest := f.digest, check := 0 }

theorem Frame.toWire_eq (f : Frame) : f.toWire = withCheck f.unchecked (computedCheck f.unchecked) := rfl

theorem Frame.toWire_check (f : Frame) : f.toWire.check = computedCheck f.toWire := by
  rw [Frame.toWire_eq, computedCheck_withCheck, withCheck]

/-- R77, R171: a sent frame passes the frame check. -/
theorem goodFrame_toWire {f : Frame} (h : f.body.Carried) : goodFrame f.toWire = some f := by
  have hle : f.toWire.payload.length ≤ 864 := h.length_le
  have hlength : f.toWire.payload.length = f.toWire.length.toNat := by
    have hmod : f.toWire.length.toNat = f.toWire.payload.length % 2 ^ 10 := BitVec.toNat_ofNat _ _
    omega
  refine (goodFrame_of_checks (FrameKind.ofCode_code _) (SyncState.ofCode_code _) hlength hle f.toWire_check rfl
    rfl).trans ?_
  exact (congrArg _ h.ofBytes_bytes).trans rfl

/-- Settles O59: what each field's encoder writes its decoder reads back. -/
theorem frameRoundTrip : Obligations.FrameRoundTrip := by
  intro f hjoin hsnapshot
  refine goodFrame_toWire ?_
  cases hb : f.body with
  | join role c0 c1 c2 c3 entries => exact hjoin _ _ _ _ _ _ hb
  | snapshot requester epoch image => exact hsnapshot _ _ _ hb
  | _ => trivial

end Sys2Proof.Machine
end

section
/-! What one capture makes of the fault unit (R147 to R149, R151), and what the end of an event leaves of it. -/

namespace Sys2Proof.Machine

/-- R151: a notice can count NOTICE_LOST alone. -/
theorem State.post_counter (s : State) (c : NoticeContent) {k : FaultKind} (hk : k ≠ .noticeLost) :
    (s.post c).counter k = s.counter k := by
  unfold State.post
  split
  · rfl
  · rw [State.captureQuiet_counter, if_neg hk]
    rfl

/-- R147, R151: a capture counts its own kind, and its notice can count NOTICE_LOST alone. -/
theorem State.capture_counter_at (s : State) (kind : FaultKind) (u : Subject) (f : Option FrameKind) {k : FaultKind}
    (hk : k ≠ .noticeLost) :
    (s.capture kind u f).counter k = if k = kind then Nat.min 255 (s.counter k + 1) else s.counter k := by
  rw [State.capture, State.post_counter _ _ hk, State.captureQuiet_counter]

/-- R148: a capture fills and locks a record that is not locked. -/
theorem State.capture_record {s : State} (h : s.fault.lock = false) (kind : FaultKind) (u : Subject)
    (f : Option FrameKind) :
    (s.capture kind u f).fault.lock = true ∧ (s.capture kind u f).fault.record =
      some { kind := kind, subject := u, frame := f, epoch := s.epoch, stamp := s.stamp } := by
  have hquiet : (s.captureQuiet kind u f).fault.lock = true ∧ (s.captureQuiet kind u f).fault.record =
      some { kind := kind, subject := u, frame := f, epoch := s.epoch, stamp := s.stamp } := by
    simp [State.captureQuiet, State.record, FaultUnit.take, h]
  obtain ⟨hlock, hrecord⟩ := (State.post_steady (Steady.refl (s.captureQuiet kind u f))
    (.fault kind u f (!s.fault.lock))).fault hquiet.1
  exact ⟨hlock, hrecord.trans hquiet.2⟩

/-- R148: what filled the record stays in it. -/
theorem State.capture_record_kept {s t : State} {kind : FaultKind} {u : Subject} {f : Option FrameKind}
    (h : s.fault.lock = false) (ht : Steady (s.capture kind u f) t) :
    t.fault.record = some { kind := kind, subject := u, frame := f, epoch := s.epoch, stamp := s.stamp } := by
  obtain ⟨hlock, hrecord⟩ := State.capture_record h kind u f
  rw [(ht.fault hlock).2, hrecord]

/-- R70: a frame dropped at a full lane. -/
theorem State.capture_drops {b s : State} (hf : s.fault = b.fault) (he : s.epoch = b.epoch) (kind : FrameKind) :
    Drops b (s.capture .outboundFull .none (some kind)) s.stamp kind := by
  refine ⟨?_, fun hlock => ?_⟩
  · rw [Counted, State.capture_counter_at _ _ _ _ (by decide), if_pos rfl, State.counter, hf]
    rfl
  · rw [← he]
    exact (State.capture_record (by rw [hf, hlock]) _ _ _).2

/-- What leaves the fault unit alone leaves a drop as it was. -/
theorem Drops.of_fault {s t u : State} {stamp : Half} {kind : FrameKind} (h : Drops s t stamp kind)
    (hf : u.fault = t.fault) : Drops s u stamp kind := by
  obtain ⟨hcount, hrecord⟩ := h
  exact ⟨by rw [Counted, State.counter, hf]; exact hcount, fun hl => by rw [hf]; exact hrecord hl⟩

/-- A later capture of another kind leaves a drop as it was. -/
theorem Drops.capture {s t : State} {stamp : Half} {frame : FrameKind} (h : Drops s t stamp frame) (hl : t.fault.lock = true)
    {kind : FaultKind} (hk : kind ≠ .outboundFull) (u : Subject) (f : Option FrameKind) :
    Drops s (t.capture kind u f) stamp frame := by
  obtain ⟨hcount, hrecord⟩ := h
  refine ⟨?_, fun hs => ?_⟩
  · rw [Counted, State.capture_counter_at _ _ _ _ (by decide), if_neg (Ne.symm hk)]
    exact hcount
  · rw [((State.capture_steady (Steady.refl t) kind u f).fault hl).2, hrecord hs]

/-- R148: after a capture the record is locked. -/
theorem State.capture_locks (s : State) (kind : FaultKind) (u : Subject) (f : Option FrameKind) :
    (s.capture kind u f).fault.lock = true := by
  cases hl : s.fault.lock with
  | false => exact (State.capture_record hl kind u f).1
  | true => exact ((State.capture_steady (Steady.refl s) kind u f).fault hl).1

end Sys2Proof.Machine
end

section
/-! Start bits, lost contention, clean completions, failed readbacks and receptions (R66 to R69, R73 to R79, R83, R84,
R101, R104, R105, R149). -/

namespace Sys2Proof.Machine

/-! Start bits and lost contention (R66 to R69, R73). -/

theorem State.clearToSend_iff (s : State) :
    s.clearToSend = true ↔ s.mode.live = true ∧ s.link.inbound = [] ∧ s.link.tx = none := by
  simp [State.clearToSend, and_assoc]

/-- R68, R73: a ready station begins the frame it offers. -/
theorem State.takeStartBit_of_offered {s : State} (hc : s.clearToSend = true) {source : Source} {q : Queued}
    (ho : s.offered = some (source, q)) :
    s.takeStartBit = s.setLink { s.link with tx := some { source := source, frame := s.frameOf q } } := by
  rw [State.takeStartBit, hc, ho]

/-- R73: a station that is not ready, or offers nothing, lets the start bit pass. -/
theorem State.takeStartBit_of_idle {s : State} (h : s.clearToSend = false ∨ s.offered = none) : s.takeStartBit = s := by
  unfold State.takeStartBit
  split
  · rename_i hc ho
    rcases h with h | h
    · rw [h] at hc
      cases hc
    · rw [h] at ho
      cases ho
  · rfl

theorem State.offered_isolated {s : State} (h : s.mode = .isolated) :
    s.offered = if s.link.probeDue then some (.probe, .presence) else none := by
  rw [State.offered, if_pos h]

/-- R68: the urgent lane goes before the general one. -/
theorem State.offered_urgent {s : State} (h : s.mode ≠ .isolated) {q : Queued} {rest : List Queued}
    (hu : s.link.urgent = q :: rest) : s.offered = some (.urgent, q) := by
  rw [State.offered, if_neg h, hu]

theorem State.offered_general {s : State} (h : s.mode ≠ .isolated) (hu : s.link.urgent = []) {q : Queued}
    {rest : List Queued} (hg : s.link.general = q :: rest) : s.offered = some (.general, q) := by
  rw [State.offered, if_neg h, hu, hg]

theorem State.offered_none {s : State} (h : s.mode ≠ .isolated) (hu : s.link.urgent = []) (hg : s.link.general = []) :
    s.offered = none := by
  rw [State.offered, if_neg h, hu, hg]

/-- Settles O26: what a start bit does is read off the frame that is offered, and a settled state stays settled. -/
theorem startBitAndContention : Obligations.StartBitAndContention := by
  intro s hs
  have hbegins {source : Source} {q : Queued} (hr : s.mode.live = true ∧ s.link.inbound = [] ∧ s.link.tx = none)
      (ho : s.offered = some (source, q)) :
      exec .startBit s =
        .next (s.setLink { s.link with tx := some { source := source, frame := s.frameOf q } }) := by
    have hstart := State.takeStartBit_of_offered (s.clearToSend_iff.mpr hr) ho
    exact congrArg Host.Outcome.next (by rw [hstart, (hs.setLink _).conclude])
  refine ⟨fun hr hm hp => ?_, fun q rest hr hm hu => ?_, fun q rest hr hm hu hg => ?_, fun h => ?_, ?_⟩
  · rw [hbegins hr (by rw [State.offered_isolated hm, if_pos hp]), State.frameOf, State.bodyOf]
    simp only [hm]
  · exact hbegins hr (State.offered_urgent hm hu)
  · exact hbegins hr (State.offered_general hm hu hg)
  · have hidle : s.takeStartBit = s := by
      refine State.takeStartBit_of_idle ?_
      rcases h with hr | ⟨hm, hp⟩ | ⟨hm, hu, hg⟩
      · exact .inl (Bool.eq_false_iff.mpr fun hc => hr (s.clearToSend_iff.mp hc))
      · exact .inr (by rw [State.offered_isolated hm, hp]; rfl)
      · exact .inr (State.offered_none hm hu hg)
    exact congrArg Host.Outcome.next (by rw [hidle, hs.conclude])
  · exact congrArg Host.Outcome.next (hs.setLink _).conclude

/-! Clean completions (R75, R78, R83). -/

/-- R56: only a CRANK_PENDING that completes while SETTLING can begin the hold. -/
theorem State.beginHold_of_not {s : State} {b : Body} (h : ¬ (b.isPhase .crankPending = true ∧ s.crank.state = .settling)) :
    s.beginHold b = s := by
  unfold State.beginHold
  rw [if_neg]
  simp only [Bool.and_eq_true, beq_iff_eq]
  exact fun hc => h hc.1

theorem State.heardItself_of_mode {s : State} (h : s.mode ≠ .isolated) : s.heardItself = s := by
  simp [State.heardItself, h]

/-- R75, R78: the station's own clean frame joins the inbound queue. -/
theorem State.admitOwn_eq (s : State) (f : Frame) : s.admitOwn f = s.setLink { s.link with
    inbound := if admits s.mode s.self f = true ∧ s.link.inbound.length < 8 then s.link.inbound ++ [f]
      else s.link.inbound } := by
  have hroom : (admits s.mode s.self f && s.inboundRoom) = true ↔
      admits s.mode s.self f = true ∧ s.link.inbound.length < 8 := by
    simp only [State.inboundRoom, Bool.and_eq_true, decide_eq_true_eq]
    rfl
  unfold State.admitOwn
  by_cases h : admits s.mode s.self f = true ∧ s.link.inbound.length < 8
  · rw [if_pos (hroom.mpr h), if_pos h]
    rfl
  · rw [if_neg (mt hroom.mp h), if_neg h]
    rfl

/-- Settles O28: the steps of a clean completion, each rewriting the lane, the inbound queue or the hold alone. -/
theorem cleanCompletion : Obligations.CleanCompletion := by
  intro s tx hs ht hm hp hc hl
  have hlane : s.leaveLane tx = s.setLink { s.link with
      urgent := if tx.source = .urgent then s.link.urgent.tail else s.link.urgent
      general := if tx.source = .general then s.link.general.tail else s.link.general
      tx := none
      readback := 0
      heartbeat := if s.mode.beating then some (s.now + 100) else s.link.heartbeat } := by
    rw [State.leaveLane, if_neg hp]
    rfl
  have hdone : s.completeClean tx = (s.leaveLane tx).admitOwn tx.frame := by
    rw [State.completeClean, if_neg hl, State.beginHold_of_not (by rw [hlane]; exact hc), State.heardItself_of_mode]
    rw [State.admitOwn_eq, hlane]
    exact hm
  simp only [exec, execFrameCompletedClean, ht]
  rw [hdone, State.admitOwn_eq, hlane, State.Settled.conclude]
  · rfl
  · exact (hs.setLink _).setLink _

/-! Failed readbacks (R74, R76, R84, R101). -/

/-- R74, R76, R84: a failed readback takes the frame off the wires and raises the count. -/
def State.readbackCounted (s : State) (t : Transmission) : State :=
  let probed := if t.source = .probe then s.endTransmission.probeEnded else s.endTransmission
  probed.setLink { probed.link with readback := Nat.min 3 (probed.link.readback + 1) }

/-- R74: a failed readback up to what follows for the station state. -/
def State.readbackCaptured (s : State) (t : Transmission) : State :=
  (s.readbackCounted t).capture .readback .none (some t.frame.body.kind)

@[simp] theorem State.readbackCounted_frame (s : State) (t : Transmission) :
    KeptBase s (s.readbackCounted t) ∧ (s.readbackCounted t).now = s.now
      ∧ (s.readbackCounted t).station = s.station ∧ (s.readbackCounted t).crank = s.crank
      ∧ (s.readbackCounted t).fault = s.fault
      ∧ (s.readbackCounted t).link.urgent = s.link.urgent ∧ (s.readbackCounted t).link.general = s.link.general
      ∧ (s.readbackCounted t).link.inbound = s.link.inbound ∧ (s.readbackCounted t).link.tx = none
      ∧ (s.readbackCounted t).link.readback = Nat.min 3 (s.link.readback + 1) := by
  simp only [State.readbackCounted]
  split <;> simp [State.endTransmission, State.probeEnded, KeptBase]

theorem State.readbackCounted_probe (s : State) {t : Transmission} (h : t.source = .probe) :
    (s.readbackCounted t).link.probeDue = false ∧ (s.readbackCounted t).link.probeTimer = some (s.now + 100) := by
  simp only [State.readbackCounted, if_pos h, State.setLink_link]
  exact ⟨rfl, rfl⟩

@[simp] theorem State.readbackCaptured_frame (s : State) (t : Transmission) :
    KeptBase s (s.readbackCaptured t) ∧ (s.readbackCaptured t).now = s.now
      ∧ (s.readbackCaptured t).station = s.station ∧ (s.readbackCaptured t).crank = s.crank
      ∧ (s.readbackCaptured t).link = (s.readbackCounted t).link := by
  simp [State.readbackCaptured, KeptBase]

/-- R147, R148: what a failed readback tells. -/
theorem State.readbackCaptured_fault (s : State) (t : Transmission) :
    Counted s (s.readbackCaptured t) .readback ∧ ∀ u, Steady (s.readbackCaptured t) u → s.fault.lock = false →
      u.fault.record = some
        { kind := .readback, subject := .none, frame := some t.frame.body.kind, epoch := s.epoch, stamp := s.stamp } := by
  have hepoch : (s.readbackCounted t).epoch = s.epoch := by simp [State.epoch]
  have hstamp : (s.readbackCounted t).stamp = s.stamp := by simp [State.stamp]
  refine ⟨?_, fun u hu hl => ?_⟩
  · rw [Counted, State.readbackCaptured, State.capture_counter _ rfl]
    simp [State.counter]
  · rw [State.capture_record_kept (by simpa using hl) hu, hepoch, hstamp]

theorem State.failReadback_eq (s : State) (t : Transmission) :
    s.failReadback t =
      if (s.readbackCaptured t).link.readback = 3 ∧ s.mode.beating = true then
        (s.readbackCaptured t).changeState .isolated .readback
      else s.readbackCaptured t := rfl

/-- R101, R118: a count of 3 isolates a station that runs its heartbeat. -/
theorem State.readback_isolates (u : State) {v : State} (hv : v = (u.changeState .isolated .readback).conclude) :
    v.mode = leavingFor (hasOwnLeave u.self u.link.inbound) .isolated ∧ v.link.inbound = [] ∧ v.link.heartbeat = none ∧
      (v.mode = .isolated → v.station.isolation = some .readback) ∧ (u.link.tx = none → v.link.tx = none) := by
  have hn : StationState.isolated = .tainted ∨ StationState.isolated = .isolated := .inr rfl
  have hmode : v.mode = leavingFor u.ownLeaveWaits .isolated := by
    rw [hv, State.conclude_mode, State.changeState_discarding_mode hn]
  have hinbound := State.changeState_discarding_inbound (s := u) hn .readback
  have hdead : (u.changeState .isolated .readback).mode = .isolated ∨ (u.changeState .isolated .readback).mode = .offline := by
    rw [State.changeState_discarding_mode hn, leavingFor]
    split
    · exact .inr rfl
    · exact .inl rfl
  have hempty : (u.changeState .isolated .readback).link.inbound = [] := by
    rw [hinbound]
    rcases hdead with h | h <;> simp [h, admits]
  refine ⟨hmode, by rw [hv]; simpa using hempty, ?_, fun hi => ?_, fun ht => ?_⟩
  · rw [hv, State.conclude_frame _ |>.2.2.2.1, State.changeState_discarding hn]
    split
    · simp [State.enterOnce_offline, StationState.beating]
    · simp [State.enterOnce_isolated, StationState.beating]
  · have hleave : u.ownLeaveWaits = false := State.changeState_stays (cause := .readback) hn (by
      rw [hv, State.conclude_mode] at hi
      exact hi)
    rw [hv, State.conclude_frame _ |>.2.2.1, State.changeState_discarding hn, hleave]
    simp only [Bool.false_eq_true, if_false, State.slotTests_frame, State.enterOnce_isolated_station]
    rfl
  · rw [hv, State.conclude_frame _ |>.2.2.2.1, State.changeState_discarding hn]
    split
    · exact (State.enterOnce_offline_leaves _ _).2.2.1
    · simp [State.enterOnce_isolated, ht]

/-- Settles O27: a capture, and an isolation where the count of a station on the link is 3. -/
theorem readbackFails : Obligations.ReadbackFails := by
  intro s hs
  refine ⟨fun ht => by simp only [exec, execReadbackFailure, ht], fun tx ht => ?_⟩
  have hexec : exec .readbackFailure s = .next (s.failReadback tx).conclude := by
    simp only [exec, execReadbackFailure, ht]
  obtain ⟨hcounted, hrecord⟩ := s.readbackCaptured_fault tx
  refine ⟨_, hexec, ?_⟩
  rw [State.failReadback_eq]
  by_cases hc : (s.readbackCaptured tx).link.readback = 3 ∧ s.mode.beating = true
  · rw [if_pos hc]
    obtain ⟨hcount, hbeating⟩ := hc
    have hlimit : Nat.min 3 (s.link.readback + 1) = 3 := by simpa using hcount
    have hisolated : s.mode ≠ .isolated := by
      intro hm
      rw [hm] at hbeating
      cases hbeating
    obtain ⟨hmode, hinbound, hheart, hcause, htx⟩ := State.readback_isolates (s.readbackCaptured tx) rfl
    refine ⟨htx (by simp), by simp, hcounted.of_tells rfl ((State.changeState_tells _ _ _).trans (State.conclude_tells _)),
      hrecord _ (State.conclude_steady (State.changeState_steady (.refl _) _ _)), ?_, fun _ _ => ?_,
      fun _ hm => absurd hm hisolated⟩
    · rintro (h | h)
      · rw [hlimit] at h
        exact absurd h (by decide)
      · rw [hbeating] at h
        cases h
    · refine ⟨?_, hinbound, hheart, hcause, by simp⟩
      rw [hmode]
      simp [State.self]
  · rw [if_neg hc]
    have hlimit : Nat.min 3 (s.link.readback + 1) = 3 → s.mode.beating = true → False := by
      simpa using hc
    refine ⟨by simp, by simp, hcounted.of_tells rfl (State.conclude_tells _), hrecord _ (State.conclude_steady (.refl _)),
      fun _ => by simp, fun h hb => (hlimit h hb).elim, fun hp hm => ?_⟩
    obtain ⟨hdue, htimer⟩ := s.readbackCounted_probe hp
    exact ⟨by simpa [State.mode] using hm, by simpa using hdue, by simpa using htimer⟩

end Sys2Proof.Machine
end

section
/-! The reception of a frame (R77 to R79, R101, R104, R105, R149). -/

namespace Sys2Proof.Machine

/-- R104: one record changes. -/
theorem State.changePeer_peer (s : State) (n m : Station) (f : PeerRecord → PeerRecord) :
    (s.changePeer n f).peer m = if m = n then f (s.peer m) else s.peer m := by
  rw [State.changePeer, State.mapRecords_peer]

theorem State.peer_of_members {s t : State} (h : t.members = s.members) (n : Station) : t.peer n = s.peer n := by
  simp only [State.peer, h]

/-- R101, R104, R105: what hearing a peer makes of its record. -/
def PeerRecord.heard (now : Nat) (p : PeerRecord) : PeerRecord :=
  { p with lastValid := some now, silence := p.silence.map fun _ => now + 350 }

theorem State.hear_eq (s : State) (n : Station) :
    s.hear n = (s.changePeer n (PeerRecord.heard s.now)).setMembers
      { (s.changePeer n (PeerRecord.heard s.now)).members with lastGood := some s.now } := rfl

theorem State.hear_peer (s : State) (n m : Station) :
    (s.hear n).peer m = if m = n then (s.peer m).heard s.now else s.peer m := by
  rw [State.hear_eq]
  exact s.changePeer_peer n m _

/-- R78: ISOLATED admits no frame. -/
theorem State.takeFrame_isolated {s : State} (h : s.mode = .isolated) (f : Frame) : s.takeFrame f = s := by
  simp [State.takeFrame, h, admits]

/-- R78, R79: a frame that finds room, or is not admitted, or changes no table, is queued or dropped in silence. -/
theorem State.takeFrame_eq {s : State} {f : Frame} (h : admits s.mode s.self f = true →
    s.link.inbound.length < 8 ∨ f.body.kind.tableChanging = false) :
    s.takeFrame f = s.setLink { s.link with
      inbound := if admits s.mode s.self f = true ∧ s.link.inbound.length < 8 then s.link.inbound ++ [f]
        else s.link.inbound } := by
  unfold State.takeFrame
  by_cases ha : admits s.mode s.self f = true
  · rw [if_pos ha]
    by_cases hl : s.link.inbound.length < 8
    · have hr : s.inboundRoom = true := decide_eq_true hl
      rw [if_pos hr, if_pos ⟨ha, hl⟩]
      rfl
    · have hk : f.body.kind.tableChanging = false := (h ha).resolve_left hl
      have hr : ¬ s.inboundRoom = true := fun hc => hl (of_decide_eq_true hc)
      rw [if_neg hr, if_neg (fun hc => hl hc.2), State.overrun, hk]
      rfl
  · rw [if_neg ha, if_neg (fun hc => ha hc.1)]
    rfl

/-- R93, R102: entry into TAINTED leaves the peers' records alone. -/
theorem State.changeState_tainted_members {s : State} (h : s.ownLeaveWaits = false) (cause : SyncCause) :
    (s.changeState .tainted cause).members = s.members := by
  rw [State.changeState_tainted h]
  simp

/-- R102: what a good frame makes of the isolation leaves the records and the empty inbound queue alone. -/
theorem State.heardOther_leaves {s : State} (h : s.link.inbound = []) :
    s.heardOther.members = s.members ∧ s.heardOther.link.inbound = [] := by
  unfold State.heardOther
  split
  · split
    · exact ⟨rfl, h⟩
    · refine ⟨State.changeState_tainted_members (State.ownLeaveWaits_nil h) _, ?_⟩
      rw [State.changeState_discarding_inbound (.inl rfl), h]
      rfl
  · exact ⟨rfl, h⟩

theorem State.capture_badChecks (s : State) (kind : FaultKind) (u : Subject) (f : Option FrameKind) :
    (s.capture kind u f).fault.badChecks = s.fault.badChecks := by
  rw [State.capture, (State.post_tells _ _).badChecks]
  exact FaultUnit.take_badChecks _ _

theorem State.badCheck_badChecks (s : State) : s.badCheck.fault.badChecks = Nat.min 65535 (s.fault.badChecks + 1) := by
  rw [State.badCheck, State.capture_badChecks]
  rfl

/-- R149: a frame that fails its check. -/
theorem State.receive_bad {s : State} {w : WireFrame} (hr : s.resetLow = false) (ht : s.link.tx = none)
    (hg : goodFrame w = none) : s.receive w = s.badCheck := by
  simp only [State.receive, hr, ht, hg]
  rfl

/-- R104: the end of an event leaves the slot unit of a settled state that only captured. -/
theorem State.Settled.conclude_slotUnit {s u : State} (hs : s.Settled) (hin : SameSlotInputs s u)
    (hu : u.slotUnit = s.slotUnit) : u.conclude.slotUnit = s.slotUnit := by
  have hslots : u.conclude.slotUnit.slots = s.slotUnit.slots :=
    slotVector_ext fun i => hs.conclude_slot hin (State.slot_of_slotUnit hu i)
  calc u.conclude.slotUnit = { u.slotUnit with slots := u.conclude.slotUnit.slots } := by
        obtain ⟨-, -, -, -, -, -, -, -, hlimit, hgate, hleave⟩ := u.conclude_frame
        cases hc : u.conclude.slotUnit
        simp_all
    _ = s.slotUnit := by rw [hslots, hu]

/-- Settles O30: the three things a reception comes to here, a bad check, isolation, and a frame that is queued. -/
theorem frameReceived : Obligations.FrameReceived := by
  intro s w hs hr ht
  have hexec : exec (.frameReceived w) s = .next (s.receive w).conclude := rfl
  refine ⟨fun hg => ?_, fun f hg hf hm hi => ?_, fun f hg hf hm hroom => ?_⟩
  · rw [State.receive_bad hr ht hg] at hexec
    refine ⟨_, hexec, ?_, ?_, by simp, by simp, by simp, by simp, ?_, by simp⟩
    · have htells : Tells 4 s.badCheck s.badCheck.conclude := State.conclude_tells _
      rw [htells.badChecks, State.badCheck_badChecks]
    · exact Counted.of_tells (u := s.badCheck) s.badCheck_counter rfl (State.conclude_tells _)
    · refine hs.conclude_slotUnit ?_ (by simp)
      constructor <;> simp [State.shedHigh, State.ownDrive]
  · have hempty : s.link.inbound = [] := hi.eq_nil (.inr (.inl hm))
    have hheard : ((s.hear f.sender).takeFrame f) = s.hear f.sender :=
      State.takeFrame_isolated (by simpa [State.mode] using hm) f
    rw [State.receive_good hr ht hg, if_neg hf, hheard] at hexec
    obtain ⟨hmembers, hinbound⟩ := State.heardOther_leaves (s := s.hear f.sender) (by simpa using hempty)
    have hconcluded : (s.hear f.sender).heardOther.conclude.members = (s.hear f.sender).members := by
      simpa using hmembers
    refine ⟨_, hexec, by simp, by simpa using hinbound, by rw [hconcluded]; rfl, ?_, fun n hn => ?_⟩
    · rw [State.peer_of_members hconcluded, State.hear_peer, if_pos rfl]
      rfl
    · rw [State.peer_of_members hconcluded, State.hear_peer, if_neg hn]
  · have hkept : (s.hear f.sender).mode = s.mode ∧ (s.hear f.sender).self = s.self ∧
        (s.hear f.sender).link = s.link := by
      simp [State.mode, State.self]
    obtain ⟨hmode, hself, hlink⟩ := hkept
    have htaken := State.takeFrame_eq (s := s.hear f.sender) (f := f) (by rwa [hmode, hself, hlink])
    rw [hmode, hself, hlink] at htaken
    have hother : ((s.hear f.sender).takeFrame f).heardOther = (s.hear f.sender).takeFrame f :=
      State.heardOther_of_mode (by rw [htaken]; exact hm)
    have hsettled : ((s.hear f.sender).takeFrame f).Settled := by
      rw [htaken]
      exact (hs.setMembers _).setLink _
    rw [hexec, State.receive_good hr ht hg, if_neg hf, hother, hsettled.conclude, htaken]
    rfl

end Sys2Proof.Machine
end

section
/-! An expiry on the lanes (R70): a frame is queued where there is room, and a full lane drops it with OUTBOUND_FULL. Then
the heartbeat, the probe and the timers of the peers (R83, R84, R100, R106, R110). -/

namespace Sys2Proof.Machine

/-! Lanes (R70). -/

theorem State.autoGeneral_room {s : State} (h : s.link.general.length < 6) (q : Queued) :
    s.autoGeneral q = s.setLink { s.link with general := s.link.general ++ [q] } :=
  if_pos (decide_eq_true h)

theorem State.autoGeneral_full {s : State} (h : s.link.general.length = 6) (q : Queued) :
    s.autoGeneral q = s.capture .outboundFull .none (some q.kind) :=
  if_neg (fun hc => absurd (of_decide_eq_true hc) (by rw [h]; decide))

theorem State.autoUrgent_room {s : State} (h : s.link.urgent.length < 3) (b : Body) :
    s.autoUrgent b = s.setLink { s.link with urgent := s.link.urgent ++ [.fixed b] } :=
  if_pos (decide_eq_true h)

theorem State.autoUrgent_full {s : State} (h : s.link.urgent.length = 3) (b : Body) :
    s.autoUrgent b = s.capture .outboundFull .none (some b.kind) :=
  if_neg (fun hc => absurd (of_decide_eq_true hc) (by rw [h]; decide))

/-- R147: a capture in a settled state ends the event with nothing more told. -/
theorem State.Settled.capture_conclude_fault {s : State} (hs : s.Settled) (kind : FaultKind) (u : Subject)
    (f : Option FrameKind) : (s.capture kind u f).conclude.fault = (s.capture kind u f).fault :=
  (State.conclude_quiet (hs.quiet (by simp) (by simp) (by simp) (by simp))).2

/-- R70: a frame dropped in a settled state. -/
theorem State.Settled.drops {b s : State} (hs : s.Settled) (hf : s.fault = b.fault) (he : s.epoch = b.epoch)
    (kind : FrameKind) : Drops b (s.capture .outboundFull .none (some kind)).conclude s.stamp kind :=
  (State.capture_drops hf he kind).of_fault (hs.capture_conclude_fault _ _ _)

/-! Time (log entry 3). -/

theorem State.expire_some (s : State) {deadline : Option Nat} {d : Nat} (h : deadline = some d) (act : State → State) :
    s.expire deadline act = (act (s.advanceTo d)).conclude := by
  subst h
  rfl

@[simp] theorem State.advanceTo_mode (s : State) (d : Nat) : (s.advanceTo d).mode = s.mode := by simp [State.mode]
@[simp] theorem State.advanceTo_epoch (s : State) (d : Nat) : (s.advanceTo d).epoch = s.epoch := by simp [State.epoch]
@[simp] theorem State.advanceTo_self (s : State) (d : Nat) : (s.advanceTo d).self = s.self := by simp [State.self]
@[simp] theorem State.advanceTo_part (s : State) (d : Nat) (i : SlotNo) : (s.advanceTo d).part i = s.part i := by
  simp [State.part]
@[simp] theorem State.advanceTo_peer (s : State) (d : Nat) (n : Station) : (s.advanceTo d).peer n = s.peer n := by
  simp [State.peer]
@[simp] theorem State.advanceTo_counter (s : State) (d : Nat) (k : FaultKind) :
    (s.advanceTo d).counter k = s.counter k := by simp [State.counter]
@[simp] theorem State.advanceTo_inGeneral (s : State) (d : Nat) (p : Queued → Bool) :
    (s.advanceTo d).inGeneral p = s.inGeneral p := by simp [State.inGeneral]
@[simp] theorem State.advanceTo_inUrgent (s : State) (d : Nat) (p : Queued → Bool) :
    (s.advanceTo d).inUrgent p = s.inUrgent p := by simp [State.inUrgent]

theorem State.advanceTo_link (s : State) (d : Nat) : (s.advanceTo d).link = s.link := by simp
theorem State.advanceTo_station (s : State) (d : Nat) : (s.advanceTo d).station = s.station := by simp

/-- R112: what a JOIN is built from. -/
theorem State.joinBody_congr {s t : State} (hr : t.straps = s.straps) (hc : t.config = s.config)
    (hi : ∀ i, (t.slot i).state = (s.slot i).state ∧ (t.slot i).values = (s.slot i).values ∧
      (t.slot i).enable = (s.slot i).enable) : t.joinBody = s.joinBody := by
  have hfield (i : SlotNo) : t.capabilityField i = s.capabilityField i := by
    simp only [State.capabilityField, State.part, hc]
  have hentry : t.joinEntry = s.joinEntry := by
    funext i
    obtain ⟨hstate, hvalues, henable⟩ := hi i
    simp only [State.joinEntry, hstate, hvalues, henable]
  simp only [State.joinBody, hr, hfield, hentry]

/-- R112: the passing of time does not change the JOIN. -/
@[simp] theorem State.advanceTo_joinBody (s : State) (d : Nat) : (s.advanceTo d).joinBody = s.joinBody :=
  State.joinBody_congr (by simp) (by simp) fun i => by rw [s.advanceTo_slot d i]; exact ⟨rfl, rfl, rfl⟩

/-! The heartbeat (R83, R100). -/

/-- R83: at the heartbeat's expiry, with these frames in the general lane. -/
def State.beaten (s : State) (d : Nat) (general : List Queued) : State :=
  (s.advanceTo d).setLink { s.link with general := general, heartbeat := some (max s.now d + 100) }

theorem State.Settled.beaten {s : State} (hs : s.Settled) (d : Nat) (general : List Queued) : (s.beaten d general).Settled :=
  (hs.advanceTo d).setLink _

@[simp] theorem State.beaten_mode (s : State) (d : Nat) (l : List Queued) : (s.beaten d l).mode = s.mode :=
  s.advanceTo_mode d
@[simp] theorem State.beaten_joinBody (s : State) (d : Nat) (l : List Queued) : (s.beaten d l).joinBody = s.joinBody :=
  s.advanceTo_joinBody d
@[simp] theorem State.beaten_fault (s : State) (d : Nat) (l : List Queued) : (s.beaten d l).fault = s.fault := by
  simp [State.beaten]
@[simp] theorem State.beaten_epoch (s : State) (d : Nat) (l : List Queued) : (s.beaten d l).epoch = s.epoch :=
  s.advanceTo_epoch d
@[simp] theorem State.beaten_stamp (s : State) (d : Nat) (l : List Queued) :
    (s.beaten d l).stamp = (s.advanceTo d).stamp := rfl
@[simp] theorem State.beaten_inGeneral (s : State) (d : Nat) (l : List Queued) (p : Queued → Bool) :
    (s.beaten d l).inGeneral p = l.any p := rfl

theorem State.beaten_untouched (s : State) (d : Nat) (l : List Queued) :
    Untouched s (s.beaten d l) ∧ (s.beaten d l).members = s.members ∧ (s.beaten d l).crank = s.crank := by
  simp [Untouched, State.beaten]

/-- R70: a frame joins a general lane with room. -/
theorem State.beaten_auto {s : State} {d : Nat} {l : List Queued} (h : l.length < 6) (q : Queued) :
    (s.beaten d l).autoGeneral q = s.beaten d (l ++ [q]) :=
  State.autoGeneral_room (s := s.beaten d l) h q

theorem State.beaten_join {s : State} {d : Nat} {l : List Queued} (h : l.length < 6) (hj : l.any Queued.isJoin = false)
    (j : Body) : (s.beaten d l).queueJoin j = s.beaten d (l ++ [.fixed j]) := by
  rw [State.queueJoin, State.beaten_inGeneral, hj]
  exact State.beaten_auto h _

/-- R83: the PRESENCE that a heartbeat queues, unless one stands in the general lane. -/
def State.said (s : State) (d : Nat) : State :=
  if s.inGeneral Queued.isPresence then s.beaten d s.link.general else (s.beaten d s.link.general).autoGeneral .presence

/-- R83, R100: the heartbeat expires. -/
theorem State.beat_eq (s : State) (d : Nat) :
    (s.advanceTo d).beat = if s.mode = .entering then (s.said d).queueJoin (s.said d).joinBody else s.said d := by
  have hrestarted : (s.advanceTo d).setLink { (s.advanceTo d).link with
      heartbeat := some ((s.advanceTo d).now + Config.heartbeatPeriod) } = s.beaten d s.link.general := by
    rw [s.advanceTo_now, State.beaten]
    simp only [State.advanceTo_frame]
    rfl
  unfold State.beat
  dsimp only
  rw [hrestarted, State.advanceTo_mode]
  rfl

theorem State.said_there {s : State} (d : Nat) (h : s.inGeneral Queued.isPresence = true) :
    s.said d = s.beaten d s.link.general := if_pos h

theorem State.said_room {s : State} (d : Nat) (h : s.inGeneral Queued.isPresence = false)
    (hl : s.link.general.length < 6) : s.said d = s.beaten d (s.link.general ++ [.presence]) := by
  rw [State.said, h]
  exact State.beaten_auto hl _

theorem State.said_full {s : State} (d : Nat) (h : s.inGeneral Queued.isPresence = false)
    (hl : s.link.general.length = 6) :
    s.said d = (s.beaten d s.link.general).capture .outboundFull .none (some .presence) := by
  rw [State.said, h]
  exact State.autoGeneral_full (s := s.beaten d s.link.general) hl _

theorem Untouched.trans {a b c : State} (h : Untouched a b) (k : Untouched b c) : Untouched a c := by
  obtain ⟨hreplica, hstation, hw0, hw1, hpins, hconfig⟩ := h
  obtain ⟨kreplica, kstation, kw0, kw1, kpins, kconfig⟩ := k
  exact ⟨kreplica.trans hreplica, kstation.trans hstation, kw0.trans hw0, kw1.trans hw1, kpins.trans hpins,
    kconfig.trans hconfig⟩

/-- What a capture behind a heartbeat leaves. -/
theorem State.beaten_capture (s : State) (d : Nat) (l : List Queued) (k : FrameKind) {t : State}
    (ht : t = ((s.beaten d l).capture .outboundFull .none (some k)).conclude) :
    t.link = (s.beaten d l).link ∧ Untouched s t ∧ t.members = s.members ∧ t.crank = s.crank := by
  obtain ⟨huntouched, hmembers, hcrank⟩ := s.beaten_untouched d l
  exact ⟨by simp [ht], huntouched.trans (by simp [ht, Untouched]), by simp [ht, hmembers], by simp [ht, hcrank]⟩

/-- What two captures behind a heartbeat leave. -/
theorem State.beaten_captures (s : State) (hs : s.Settled) (d : Nat) (l : List Queued) (k k' : FrameKind) {t : State}
    (ht : t = (((s.beaten d l).capture .outboundFull .none (some k)).capture .outboundFull .none (some k')).conclude) :
    t.link = (s.beaten d l).link ∧ Untouched s t ∧ t.members = s.members ∧ t.crank = s.crank ∧
      t.counter .outboundFull = Nat.min 255 (s.counter .outboundFull + 2) := by
  obtain ⟨huntouched, hmembers, hcrank⟩ := s.beaten_untouched d l
  have hfault := (State.conclude_quiet ((hs.beaten d l).quiet
    (u := ((s.beaten d l).capture .outboundFull .none (some k)).capture .outboundFull .none (some k'))
    (by simp) (by simp) (by simp) (by simp))).2
  have hbase : (s.beaten d l).counter .outboundFull = s.counter .outboundFull := by
    rw [State.counter, State.beaten_fault, State.counter]
  have hcount : t.counter .outboundFull = Nat.min 255 (s.counter .outboundFull + 2) := by
    rw [ht, State.counter, hfault, ← State.counter, State.capture_counter_at _ _ _ _ (by decide), if_pos rfl,
      State.capture_counter_at _ _ _ _ (by decide), if_pos rfl, hbase]
    change min 255 (min 255 (_ + 1) + 1) = min 255 (_ + 2)
    omega
  exact ⟨by simp [ht], huntouched.trans (by simp [ht, Untouched]), by simp [ht, hmembers], by simp [ht, hcrank], hcount⟩

theorem State.exec_heartbeat {s : State} {d : Nat} (h : s.link.heartbeat = some d) :
    exec .heartbeatExpiry s =
      .next (if s.mode = .entering then (s.said d).queueJoin (s.said d).joinBody else s.said d).conclude := by
  rw [← State.beat_eq, ← s.expire_some h State.beat]
  rfl

theorem heartbeatExpires {s : State} {d : Nat} (hs : s.Settled) (h : s.link.heartbeat = some d) :
    (s.mode ≠ .entering → s.inGeneral Queued.isPresence = true →
      exec .heartbeatExpiry s = .next (s.beaten d s.link.general)) ∧
    (s.mode ≠ .entering → s.inGeneral Queued.isPresence = false → s.link.general.length < 6 →
      exec .heartbeatExpiry s = .next (s.beaten d (s.link.general ++ [.presence]))) ∧
    (s.mode = .entering → s.inGeneral Queued.isPresence = false → s.inGeneral Queued.isJoin = false →
      s.link.general.length < 5 →
      exec .heartbeatExpiry s = .next (s.beaten d (s.link.general ++ [.presence, .fixed s.joinBody]))) ∧
    (s.mode = .entering → s.inGeneral Queued.isPresence = true → s.inGeneral Queued.isJoin = false →
      s.link.general.length < 6 →
      exec .heartbeatExpiry s = .next (s.beaten d (s.link.general ++ [.fixed s.joinBody]))) ∧
    (s.mode = .entering → s.inGeneral Queued.isPresence = false → s.inGeneral Queued.isJoin = true →
      s.link.general.length < 6 →
      exec .heartbeatExpiry s = .next (s.beaten d (s.link.general ++ [.presence]))) ∧
    (s.mode = .entering → s.inGeneral Queued.isPresence = true → s.inGeneral Queued.isJoin = true →
      exec .heartbeatExpiry s = .next (s.beaten d s.link.general)) := by
  have hset (l : List Queued) : (s.beaten d l).conclude = s.beaten d l := (hs.beaten d l).conclude
  rw [State.exec_heartbeat h]
  refine ⟨fun hm hp => ?_, fun hm hp hl => ?_, fun hm hp hj hl => ?_, fun hm hp hj hl => ?_, fun hm hp hj hl => ?_,
    fun hm hp hj => ?_⟩
  · rw [if_neg hm, State.said_there d hp, hset]
  · rw [if_neg hm, State.said_room d hp hl, hset]
  · have hany : (s.link.general ++ [Queued.presence]).any Queued.isJoin = false := by
      rw [List.any_append]
      exact (Bool.or_false _).trans hj
    rw [if_pos hm, State.said_room d hp (by omega), State.beaten_joinBody,
      State.beaten_join (by rw [List.length_append, List.length_singleton]; omega) hany, hset, List.append_assoc]
    rfl
  · rw [if_pos hm, State.said_there d hp, State.beaten_joinBody, State.beaten_join hl hj, hset]
  · have hany : (s.beaten d (s.link.general ++ [.presence])).inGeneral Queued.isJoin = true := by
      rw [State.beaten_inGeneral, List.any_append]
      exact (Bool.or_false _).trans hj
    rw [if_pos hm, State.said_room d hp hl, State.queueJoin, if_pos hany, hset]
  · have hany : (s.beaten d s.link.general).inGeneral Queued.isJoin = true := hj
    rw [if_pos hm, State.said_there d hp, State.queueJoin, if_pos hany, hset]

/-- R70: the PRESENCE finds the last place of the lane, and the JOIN none. -/
theorem heartbeatDropsJoin {s : State} {d : Nat} (hs : s.Settled) (h : s.link.heartbeat = some d)
    (hm : s.mode = .entering) (hp : s.inGeneral Queued.isPresence = false) (hj : s.inGeneral Queued.isJoin = false)
    (hl : s.link.general.length = 5) :
    ∃ t, exec .heartbeatExpiry s = .next t ∧ t.link = (s.beaten d (s.link.general ++ [.presence])).link ∧
      Untouched s t ∧ t.members = s.members ∧ t.crank = s.crank ∧ Drops s t (s.advanceTo d).stamp .join := by
  have hany : (s.beaten d (s.link.general ++ [.presence])).inGeneral Queued.isJoin = false := by
    rw [State.beaten_inGeneral, List.any_append]
    exact (Bool.or_false _).trans hj
  have hfull : (s.beaten d (s.link.general ++ [.presence])).link.general.length = 6 := by
    simp [State.beaten, hl]
  rw [State.exec_heartbeat h, if_pos hm, State.said_room d hp (by omega), State.beaten_joinBody, State.queueJoin,
    if_neg (by rw [hany]; decide), State.autoGeneral_full hfull]
  obtain ⟨hlink, huntouched, hmembers, hcrank⟩ := s.beaten_capture d (s.link.general ++ [.presence]) .join rfl
  exact ⟨_, rfl, hlink, huntouched, hmembers, hcrank, (hs.beaten d _).drops (by simp) (by simp) .join⟩

/-- R70: a full lane drops each frame that the heartbeat would queue. -/
theorem heartbeatDropsAtFullLane {s : State} {d : Nat} (hs : s.Settled) (h : s.link.heartbeat = some d)
    (hl : s.link.general.length = 6)
    (hw : s.inGeneral Queued.isPresence = false ∨ (s.mode = .entering ∧ s.inGeneral Queued.isJoin = false)) :
    ∃ t, exec .heartbeatExpiry s = .next t ∧ t.link = (s.beaten d s.link.general).link ∧ Untouched s t ∧
      t.members = s.members ∧ t.crank = s.crank ∧
      (s.inGeneral Queued.isPresence = false → ¬ (s.mode = .entering ∧ s.inGeneral Queued.isJoin = false) →
        Drops s t (s.advanceTo d).stamp .presence) ∧
      (¬ s.inGeneral Queued.isPresence = false → s.mode = .entering ∧ s.inGeneral Queued.isJoin = false →
        Drops s t (s.advanceTo d).stamp .join) ∧
      (s.inGeneral Queued.isPresence = false → s.mode = .entering ∧ s.inGeneral Queued.isJoin = false →
        t.counter .outboundFull = Nat.min 255 (s.counter .outboundFull + 2)) := by
  have hb : (s.beaten d s.link.general).Settled := hs.beaten d _
  rw [State.exec_heartbeat h]
  cases hp : s.inGeneral Queued.isPresence with
  | true =>
    obtain ⟨hm, hj⟩ := hw.resolve_left (by rw [hp]; decide)
    have hany : (s.beaten d s.link.general).inGeneral Queued.isJoin = false := hj
    rw [if_pos hm, State.said_there d hp, State.beaten_joinBody, State.queueJoin, if_neg (by rw [hany]; decide),
      State.autoGeneral_full (s := s.beaten d s.link.general) hl]
    obtain ⟨hlink, huntouched, hmembers, hcrank⟩ := s.beaten_capture d s.link.general .join rfl
    exact ⟨_, rfl, hlink, huntouched, hmembers, hcrank, nofun, fun _ _ => hb.drops (by simp) (by simp) .join, nofun⟩
  | false =>
    rw [State.said_full d hp hl]
    by_cases hj : s.mode = .entering ∧ s.inGeneral Queued.isJoin = false
    · obtain ⟨hm, hj⟩ := hj
      have hany : ((s.beaten d s.link.general).capture .outboundFull .none (some .presence)).inGeneral Queued.isJoin =
          false := by
        simpa [State.inGeneral, State.beaten] using hj
      rw [if_pos hm, State.queueJoin, if_neg (by rw [hany]; decide), State.autoGeneral_full
        (by simpa [State.beaten] using hl)]
      obtain ⟨hlink, huntouched, hmembers, hcrank, hcount⟩ := s.beaten_captures hs d s.link.general .presence
        (((s.beaten d s.link.general).capture .outboundFull .none (some .presence)).joinBody).kind rfl
      exact ⟨_, rfl, hlink, huntouched, hmembers, hcrank, fun _ hc => absurd ⟨hm, hj⟩ hc, fun hc => absurd rfl hc,
        fun _ _ => hcount⟩
    · have hquiet : (if s.mode = .entering then
          ((s.beaten d s.link.general).capture .outboundFull .none (some .presence)).queueJoin
            ((s.beaten d s.link.general).capture .outboundFull .none (some .presence)).joinBody
          else (s.beaten d s.link.general).capture .outboundFull .none (some .presence)) =
          (s.beaten d s.link.general).capture .outboundFull .none (some .presence) := by
        split
        · rename_i hm
          rw [State.queueJoin, if_pos]
          have hthere : s.inGeneral Queued.isJoin = true := by simpa [hm] using hj
          simpa [State.inGeneral, State.beaten] using hthere
        · rfl
      rw [hquiet]
      obtain ⟨hlink, huntouched, hmembers, hcrank⟩ := s.beaten_capture d s.link.general .presence rfl
      exact ⟨_, rfl, hlink, huntouched, hmembers, hcrank, fun _ _ => hb.drops (by simp) (by simp) .presence, nofun,
        fun _ hc => absurd hc hj⟩

/-! The timers of the peers (R106, R110). -/

/-- R106, R110: the timer of a peer restarts, and a MEMBER queues a frame unless its own stands in the lane. -/
def State.askAbout (s : State) (p : Station) (mine : Queued → Bool) (frame : Body) (restart : PeerRecord → PeerRecord) :
    State :=
  (if s.mode == .member && !s.inGeneral mine then s.autoGeneral (.fixed frame) else s).changePeer p restart

theorem State.peerSilent_eq (s : State) (p : Station) :
    s.peerSilent p = s.askAbout p (Queued.isAbsence p) (.absence (byteOf p.val))
      fun r => { r with silence := some (s.now + 350) } := rfl

theorem State.orphansDue_eq (s : State) (p : Station) :
    s.orphansDue p = s.askAbout p (Queued.isReclaim p) (.reclaim (byteOf p.val))
      fun r => { r with orphanHold := some (s.now + 1000 * s.config.general.orphanHold) } := rfl

theorem State.Settled.changePeer {s : State} (hs : s.Settled) (p : Station) (f : PeerRecord → PeerRecord) :
    (s.changePeer p f).Settled := hs.setMembers _

/-- R70, R106, R110: the three things such an expiry comes to. -/
theorem State.Settled.askAbout {s : State} (hs : s.Settled) (d : Nat) (p : Station) (mine : Queued → Bool) (frame : Body)
    (restart : PeerRecord → PeerRecord) :
    (s.mode = .member → s.inGeneral mine = false → s.link.general.length < 6 →
      ((s.advanceTo d).askAbout p mine frame restart).conclude = ((s.advanceTo d).setLink
        { s.link with general := s.link.general ++ [.fixed frame] }).changePeer p restart) ∧
    (s.mode ≠ .member ∨ s.inGeneral mine = true →
      ((s.advanceTo d).askAbout p mine frame restart).conclude = (s.advanceTo d).changePeer p restart) ∧
    (s.mode = .member → s.inGeneral mine = false → s.link.general.length = 6 →
      ∃ t, ((s.advanceTo d).askAbout p mine frame restart).conclude = t ∧
        t.members = ((s.advanceTo d).changePeer p restart).members ∧ t.link = s.link ∧ t.crank = s.crank ∧
        Untouched s t ∧ Drops s t (s.advanceTo d).stamp frame.kind) := by
  have hu := hs.advanceTo d
  have hasks : ((s.advanceTo d).mode == .member && !(s.advanceTo d).inGeneral mine) = true ↔
      s.mode = .member ∧ s.inGeneral mine = false := by simp
  refine ⟨fun hm hi hl => ?_, fun h => ?_, fun hm hi hl => ?_⟩
  · have hroom : (s.advanceTo d).link.general.length < 6 := by simpa using hl
    rw [State.askAbout, if_pos (hasks.mpr ⟨hm, hi⟩), State.autoGeneral_room hroom,
      ((hu.setLink _).changePeer p restart).conclude]
    simp only [State.advanceTo_frame]
  · have hnot : ¬ (s.mode = .member ∧ s.inGeneral mine = false) := fun hc => by
      rcases h with h | h
      · exact h hc.1
      · rw [hc.2] at h
        cases h
    rw [State.askAbout, if_neg (mt hasks.mp hnot), (hu.changePeer p restart).conclude]
  · have hfull : (s.advanceTo d).link.general.length = 6 := by simpa using hl
    rw [State.askAbout, if_pos (hasks.mpr ⟨hm, hi⟩), State.autoGeneral_full hfull]
    refine ⟨_, rfl, ?_, by simp, by simp, by simp [Untouched], ?_⟩
    · simp [State.changePeer, State.mapRecords]
    · have hquiet := State.conclude_quiet (u := ((s.advanceTo d).capture .outboundFull .none
        (some frame.kind)).changePeer p restart) (hu.quiet (by simp) (by simp) (by simp) (by simp))
      refine (State.capture_drops (by simp) (by simp) frame.kind).of_fault (hquiet.2.trans ?_)
      simp

/-- Settles O49: each expiry rewrites the link or one peer's record in a settled state, or captures behind it. -/
theorem heartbeatAndPeerTimers : Obligations.HeartbeatAndPeerTimers := by
  refine ⟨fun s d hs => ⟨fun h => ?_, fun h => ?_⟩, fun s p d hs => ⟨fun h => ?_, fun h => ?_⟩⟩
  · obtain ⟨h1, h2, h3, h4, h5, h6⟩ := heartbeatExpires hs h
    exact ⟨h1, h2, h3, h4, h5, h6, heartbeatDropsJoin hs h, heartbeatDropsAtFullLane hs h⟩
  · have hexec : exec .probeDue s = .next (s.advanceTo d).probeFalls.conclude := by
      rw [← s.expire_some h State.probeFalls]
      rfl
    rw [hexec, State.probeFalls, State.Settled.conclude ((hs.advanceTo d).setLink _)]
    simp only [State.advanceTo_frame]
  · have hexec : exec (.silenceTimerExpiry p) s = .next ((s.advanceTo d).peerSilent p).conclude := by
      rw [← s.expire_some h fun t => t.peerSilent p]
      rfl
    rw [hexec, State.peerSilent_eq, s.advanceTo_now]
    obtain ⟨hasks, hstays, hdrops⟩ := hs.askAbout d p (Queued.isAbsence p) (.absence (byteOf p.val))
      fun r => { r with silence := some (max s.now d + 350) }
    refine ⟨fun hm hi hl => by rw [hasks hm hi hl], fun hn => by rw [hstays hn], fun hm hi hl => ?_⟩
    obtain ⟨t, ht, hrest⟩ := hdrops hm hi hl
    exact ⟨t, by rw [ht], hrest⟩
  · have hexec : exec (.orphanHoldExpiry p) s = .next ((s.advanceTo d).orphansDue p).conclude := by
      rw [← s.expire_some h fun t => t.orphansDue p]
      rfl
    have hconfig : (s.advanceTo d).config = s.config := by simp
    rw [hexec, State.orphansDue_eq, s.advanceTo_now, hconfig]
    obtain ⟨hasks, hstays, hdrops⟩ := hs.askAbout d p (Queued.isReclaim p) (.reclaim (byteOf p.val))
      fun r => { r with orphanHold := some (max s.now d + 1000 * s.config.general.orphanHold) }
    refine ⟨fun hm hi hl => by rw [hasks hm hi hl], fun hn => by rw [hstays hn], fun hm hi hl => ?_⟩
    obtain ⟨t, ht, hrest⟩ := hdrops hm hi hl
    exact ⟨t, by rw [ht], hrest⟩

end Sys2Proof.Machine
end

section
/-! The sync timer's expiry (R94, R95, R99, R100). -/

namespace Sys2Proof.Machine

/-- R94: one more attempt is made, and the timer restarts. -/
def StationUnit.attempted (u : StationUnit) (now : Nat) : StationUnit :=
  { u with syncCount := u.syncCount + 1, syncTimer := some (now + 250) }

/-- R120: an attempt moves nothing that the slot unit reads. -/
theorem State.Settled.attempted {s : State} (hs : s.Settled) (now : Nat) :
    (s.setStation (s.station.attempted now)).Settled :=
  hs.of_same ⟨rfl, rfl, rfl, rfl, rfl, rfl, rfl, rfl, rfl⟩ rfl hs.2

theorem State.exec_syncTimeout {s : State} {d : Nat} (h : s.station.syncTimer = some d) :
    exec .syncTimeout s = .next (s.advanceTo d).syncExpires.conclude := by
  rw [← s.expire_some h State.syncExpires]
  rfl

theorem State.exec_syncTimeout_again {s : State} {d : Nat} (h : s.station.syncTimer = some d)
    (hc : s.station.syncCount < 3) : exec .syncTimeout s = .next (s.advanceTo d).askAgain.conclude := by
  have hcount : (s.advanceTo d).station.syncCount < Config.syncAttempts := by rwa [s.advanceTo_station d]
  rw [State.exec_syncTimeout h, State.syncExpires, if_pos hcount]

/-- R94: a further request, where the lane has room for it. -/
theorem State.askAgain_room {s : State} {d : Nat} (hq : s.inGeneral Queued.isSyncRequest = false)
    (hl : s.link.general.length < 6) :
    (s.advanceTo d).askAgain = ((s.advanceTo d).setLink { s.link with
      general := s.link.general ++ [.fixed (.syncRequest (s.epoch.getD 0))] }).setStation
        (s.station.attempted (max s.now d)) := by
  have hroom : (s.advanceTo d).link.general.length < 6 := by simpa using hl
  simp only [State.askAgain, State.advanceTo_inGeneral, hq, Bool.false_eq_true, if_false, State.requestSync,
    State.autoGeneral_room hroom, State.setLink_station, State.advanceTo_frame, State.advanceTo_now,
    State.advanceTo_epoch]
  rfl

/-- R94: with a request in the lane. -/
theorem State.askAgain_there {s : State} {d : Nat} (hq : s.inGeneral Queued.isSyncRequest = true) :
    (s.advanceTo d).askAgain = (s.advanceTo d).setStation (s.station.attempted (max s.now d)) := by
  simp only [State.askAgain, State.advanceTo_inGeneral, hq, if_true, State.advanceTo_frame, State.advanceTo_now]
  rfl

/-- R70, R94: a full lane drops the request. -/
theorem State.askAgain_full {s : State} {d : Nat} (hq : s.inGeneral Queued.isSyncRequest = false)
    (hl : s.link.general.length = 6) :
    (s.advanceTo d).askAgain = ((s.advanceTo d).capture .outboundFull .none (some .syncRequest)).setStation
      (s.station.attempted (max s.now d)) := by
  have hfull : (s.advanceTo d).link.general.length = 6 := by simpa using hl
  simp only [State.askAgain, State.advanceTo_inGeneral, hq, Bool.false_eq_true, if_false, State.requestSync,
    State.autoGeneral_full hfull, State.capture_frame, State.advanceTo_frame, State.advanceTo_now]
  rfl

/-- R70: the request that a full lane drops. -/
theorem syncRequestDropped {s : State} {d : Nat} (hs : s.Settled) (h : s.station.syncTimer = some d)
    (hc : s.station.syncCount < 3) (hq : s.inGeneral Queued.isSyncRequest = false) (hl : s.link.general.length = 6) :
    ∃ t, exec .syncTimeout s = .next t ∧ t.link = s.link ∧ t.replica = s.replica ∧ t.members = s.members ∧
      t.crank = s.crank ∧ Drops s t (s.advanceTo d).stamp .syncRequest ∧
      t.station = s.station.attempted (max s.now d) := by
  rw [State.exec_syncTimeout_again h hc, State.askAgain_full hq hl]
  generalize hu : ((s.advanceTo d).capture .outboundFull .none (some .syncRequest)).setStation
    (s.station.attempted (max s.now d)) = u
  have hquiet : u.episodes = [] :=
    hs.no_episodes (by rw [← hu]; rfl) (by simp [← hu]) (by simp [← hu])
      (fun i => by
        rw [show u.slot i = (s.advanceTo d).slot i from State.slot_of_slotUnit (by simp [← hu]) i, s.advanceTo_slot])
      (fun i => by
        rw [show u.slot i = (s.advanceTo d).slot i from State.slot_of_slotUnit (by simp [← hu]) i, s.advanceTo_slot])
  have hdrops : Drops s ((s.advanceTo d).capture .outboundFull .none (some .syncRequest)) (s.advanceTo d).stamp
      .syncRequest := State.capture_drops (by simp) (by simp) _
  refine ⟨u.conclude, rfl, ?_, ?_, ?_, ?_, hdrops.of_fault ((State.conclude_quiet hquiet).2.trans ?_), ?_⟩ <;>
    simp [← hu]

/-! Entry into ENTERING and MEMBER. -/

theorem State.enter_admitting_station {new : StationState} (hn : new = .entering ∨ new = .member) (s : State)
    (cause : SyncCause) : (s.enter new cause).station = s.station.entered s.now new cause := by
  rw [State.enter_admitting hn]
  rcases hn with rfl | rfl
  · rw [State.enterOnce_entering]
    simp
  · rw [State.enterOnce_member]
    simp

theorem State.changeState_admitting_station {new : StationState} (hn : new = .entering ∨ new = .member) (s : State)
    (cause : SyncCause) : (s.changeState new cause).station = s.station.entered s.now new cause := by
  rw [← State.enter_admitting_station hn, State.changeState]
  simp

/-- R95, R99, R100: a JOINING station adopts the start replica. -/
theorem State.adoptStart_leaves {s : State} (hm : s.mode = .joining) :
    s.adoptStart.replica = some .start ∧ s.adoptStart.mode = .entering ∧ s.adoptStart.station.syncTimer = none ∧
      s.adoptStart.link.heartbeat = some (s.now + 100) := by
  generalize hv : (s.setReplica (some .start)).forgetIsolation = v
  have hmode : v.mode = .joining := by rw [← hm, ← hv]; rfl
  have hadopt : s.adoptStart = ((v.moved .entering .startAdopted).queueJoin s.joinBody).loadSlots := by
    rw [State.adoptStart, hv, State.enterLoaded, if_neg (by simp), State.enter_admitting (.inl rfl),
      State.enterOnce_entering]
  have hnow : v.now = s.now := by simp [← hv]
  rw [hadopt]
  refine ⟨by simp [← hv], ?_, ?_, ?_⟩
  · simp [State.mode]
  · simp
    rfl
  · rw [hnow.symm]
    simp [hmode]
    exact ⟨rfl, rfl⟩

/-- R95: a TAINTED station keeps its replica: MEMBER, where its roster shows it present. -/
theorem State.keepReplica_present {s : State} (h : ∃ r, s.replica = some r ∧ r.isPresent s.self = true) :
    s.keepReplica = (s.capture .syncUnanswered .none none).changeState .member .syncUnanswered := by
  obtain ⟨r, hr, hp⟩ := h
  simp [State.keepReplica, hr, hp]

/-- R95: else ENTERING, with a JOIN. -/
theorem State.keepReplica_absent {s : State} (h : ¬ ∃ r, s.replica = some r ∧ r.isPresent s.self = true) :
    ∃ join, s.keepReplica =
      ((s.capture .syncUnanswered .none none).changeState .entering .syncUnanswered).queueJoin join := by
  unfold State.keepReplica
  cases hr : s.replica with
  | none => exact ⟨_, rfl⟩
  | some r =>
    cases hp : r.isPresent s.self with
    | true => exact absurd ⟨r, hr, hp⟩ h
    | false => exact ⟨_, if_neg (by simp [hp])⟩

theorem State.keepReplica_leaves (s : State) :
    Counted s s.keepReplica .syncUnanswered ∧ s.keepReplica.station.syncTimer = none ∧
      s.keepReplica.mode =
        (if (∃ r, s.replica = some r ∧ r.isPresent s.self = true) then .member else .entering) := by
  have hcounted : Counted s (s.capture .syncUnanswered .none none) .syncUnanswered := s.capture_counter rfl _ _
  have hentered {new : StationState} (hn : new = .entering ∨ new = .member) {t : State}
      (ht : t.station = ((s.capture .syncUnanswered .none none).changeState new .syncUnanswered).station) :
      t.station.syncTimer = none ∧ t.mode = new := by
    rw [State.mode, ht, State.changeState_admitting_station hn]
    exact ⟨rfl, rfl⟩
  by_cases hp : ∃ r, s.replica = some r ∧ r.isPresent s.self = true
  · rw [State.keepReplica_present hp, if_pos hp]
    exact ⟨hcounted.of_tells rfl (State.changeState_tells _ _ _), hentered (.inr rfl) rfl⟩
  · obtain ⟨join, hkept⟩ := State.keepReplica_absent hp
    rw [hkept, if_neg hp]
    exact ⟨hcounted.of_tells rfl ((State.changeState_tells _ _ _).trans (State.queueJoin_tells _ _)),
      hentered (.inl rfl) (by simp)⟩

/-- R95, R99: the attempts are spent, and a JOINING station adopts the start replica. -/
theorem syncStartAdopted {s : State} {d : Nat} (h : s.station.syncTimer = some d) (hc : 3 ≤ s.station.syncCount)
    (hm : s.mode = .joining) :
    ∃ t, exec .syncTimeout s = .next t ∧ t.replica = some .start ∧ t.mode = .entering ∧ t.station.syncTimer = none ∧
      t.link.heartbeat = some (max s.now d + 100) := by
  have hcount : ¬ (s.advanceTo d).station.syncCount < Config.syncAttempts := by rw [s.advanceTo_station d]; exact Nat.not_lt.mpr hc
  have hmode : (s.advanceTo d).mode = .joining := (s.advanceTo_mode d).trans hm
  obtain ⟨hreplica, hentering, htimer, hbeat⟩ := State.adoptStart_leaves hmode
  rw [State.exec_syncTimeout h, State.syncExpires, if_neg hcount, hmode]
  refine ⟨_, rfl, by simpa using hreplica, by simpa [State.mode] using hentering, by simpa using htimer, ?_⟩
  rw [← s.advanceTo_now d]
  simpa using hbeat

/-- R95: the attempts are spent, and a TAINTED station keeps its replica. -/
theorem syncReplicaKept {s : State} {d : Nat} (h : s.station.syncTimer = some d) (hc : 3 ≤ s.station.syncCount)
    (hm : s.mode = .tainted) :
    ∃ t, exec .syncTimeout s = .next t ∧ t.replica = s.replica ∧ Counted s t .syncUnanswered ∧
      t.station.syncTimer = none ∧
      t.mode = (if (∃ r, s.replica = some r ∧ r.isPresent s.self = true) then .member else .entering) := by
  have hcount : ¬ (s.advanceTo d).station.syncCount < Config.syncAttempts := by rw [s.advanceTo_station d]; exact Nat.not_lt.mpr hc
  have hmode : (s.advanceTo d).mode = .tainted := (s.advanceTo_mode d).trans hm
  obtain ⟨hcounted, htimer, hentered⟩ := (s.advanceTo d).keepReplica_leaves
  have hbase : Counted s (s.advanceTo d).keepReplica .syncUnanswered := by
    rw [Counted, ← s.advanceTo_counter d]
    exact hcounted
  rw [State.exec_syncTimeout h, State.syncExpires, if_neg hcount, hmode]
  exact ⟨_, rfl, by simp, hbase.of_tells rfl (State.conclude_tells _), by simpa using htimer,
    by simpa [State.mode] using hentered⟩

/-- Settles O50: a further attempt, or at the third the adoption or the replica kept. -/
theorem syncTimerExpires : Obligations.SyncTimerExpires := by
  intro s d hs h
  refine ⟨fun hc hq hl => ?_, fun hc hq => ?_, fun hc hq hl => syncRequestDropped hs h hc hq hl,
    fun hc hm => syncStartAdopted h hc hm, fun hc hm => syncReplicaKept h hc hm⟩
  · rw [State.exec_syncTimeout_again h hc, State.askAgain_room hq hl]
    have hset : (((s.advanceTo d).setLink { s.link with
        general := s.link.general ++ [.fixed (.syncRequest (s.epoch.getD 0))] }).setStation
          (s.station.attempted (max s.now d))).Settled := by
      have h := ((hs.advanceTo d).setLink { s.link with
        general := s.link.general ++ [.fixed (.syncRequest (s.epoch.getD 0))] }).attempted (max s.now d)
      simpa using h
    rw [hset.conclude]
    rfl
  · rw [State.exec_syncTimeout_again h hc, State.askAgain_there hq]
    have hset : ((s.advanceTo d).setStation (s.station.attempted (max s.now d))).Settled := by
      have h := (hs.advanceTo d).attempted (max s.now d)
      simpa using h
    rw [hset.conclude]
    rfl

end Sys2Proof.Machine
end

section
/-! The latch limit and the off deadlines of the slots (R126, R127). -/

namespace Sys2Proof.Machine

/-! An event that captures and queues, and whose slot unit is that of a settled state. -/

/-- R120, R131, R147: its end moves neither the slot unit nor the fault unit. -/
theorem State.Settled.conclude_beside {w u : State} (hw : w.Settled) (hin : SameSlotInputs w u)
    (hu : u.slotUnit = w.slotUnit) : u.conclude.slotUnit = w.slotUnit ∧ u.conclude.fault = u.fault := by
  refine ⟨hw.conclude_slotUnit hin hu, (State.conclude_quiet ?_).2⟩
  exact hw.no_episodes hin.mode hin.config hin.feedback (fun i => by rw [State.slot_of_slotUnit hu])
    fun i => by rw [State.slot_of_slotUnit hu]

/-- R147: a capture counts. -/
theorem Counted.capture {b s : State} {kind : FaultKind} (hk : kind ≠ .noticeLost) (h : s.counter kind = b.counter kind)
    (u : Subject) (f : Option FrameKind) : Counted b (s.capture kind u f) kind := by
  rw [Counted, State.capture_counter_at _ _ _ _ hk, if_pos rfl, h]

/-- What leaves the fault unit alone leaves a count as it was. -/
theorem Counted.of_fault {b s t : State} {kind : FaultKind} (h : Counted b s kind) (hf : t.fault = s.fault) :
    Counted b t kind := by
  rw [Counted, State.counter, hf]
  exact h

theorem State.capture_counter_other (s : State) {kind k : FaultKind} (hk : k ≠ .noticeLost) (hne : k ≠ kind) (u : Subject)
    (f : Option FrameKind) : (s.capture kind u f).counter k = s.counter k := by
  rw [State.capture_counter_at _ _ _ _ hk, if_neg hne]

theorem State.putSlot_slotUnit_congr {s t : State} (h : t.slotUnit = s.slotUnit) (i : SlotNo) (r : SlotRecord) :
    (t.putSlot i r).slotUnit = (s.putSlot i r).slotUnit := by
  simp only [State.putSlot, State.setSlots, State.setSlotUnit, h]

/-! The latch limit (R126). -/

/-- R126: the timer of the latch limit restarts. -/
def State.latchRestarted (s : State) (d : Nat) : State :=
  (s.advanceTo d).setSlotUnit { (s.advanceTo d).slotUnit with latchLimit := some (max s.now d + s.config.general.latchLimit) }

theorem State.Settled.latchRestarted {s : State} (hs : s.Settled) (d : Nat) : (s.latchRestarted d).Settled :=
  (hs.advanceTo d).of_same ⟨rfl, rfl, rfl, rfl, rfl, rfl, rfl, rfl, rfl⟩ rfl (hs.advanceTo d).2

theorem State.latchRestarted_latch (s : State) (d : Nat) (i : SlotNo) :
    ((s.latchRestarted d).slot i).latch = (s.slot i).latch := by
  rw [show (s.latchRestarted d).slot i = (s.advanceTo d).slot i from rfl, s.advanceTo_slot]

@[simp] theorem State.latchRestarted_counter (s : State) (d : Nat) (k : FaultKind) :
    (s.latchRestarted d).counter k = s.counter k := s.advanceTo_counter d k
@[simp] theorem State.latchRestarted_link (s : State) (d : Nat) : (s.latchRestarted d).link = s.link :=
  s.advanceTo_link d
@[simp] theorem State.latchRestarted_stamp (s : State) (d : Nat) :
    (s.latchRestarted d).stamp = (s.advanceTo d).stamp := rfl

theorem State.latchExpires_other {s : State} (d : Nat) (hm : s.mode ≠ .member) (ht : s.mode ≠ .tainted) :
    (s.advanceTo d).latchExpires = s.latchRestarted d := by
  have hconfig : (s.advanceTo d).config = s.config := by simp
  have hmode : ¬ ((s.advanceTo d).mode = .member ∨ (s.advanceTo d).mode = .tainted) := by simp [hm, ht]
  simp only [State.latchExpires, if_neg hmode, s.advanceTo_now, hconfig]
  rfl

/-- R126: in MEMBER and TAINTED the station asks, unless it has asked. -/
def State.asksLine (s : State) : State :=
  if s.inUrgent (Queued.isShedRequest none) then s else s.autoUrgent (.shedRequest causeLine s.pins.vsense)

theorem State.latchExpires_asks {s : State} (d : Nat) (hm : s.mode = .member ∨ s.mode = .tainted) :
    (s.advanceTo d).latchExpires = (s.latchRestarted d).asksLine.capture .lineUnexplained .none none := by
  have hconfig : (s.advanceTo d).config = s.config := by simp
  have hpins : (s.advanceTo d).pins = (s.latchRestarted d).pins := rfl
  have hmode : (s.advanceTo d).mode = .member ∨ (s.advanceTo d).mode = .tainted := by simpa using hm
  simp only [State.latchExpires, if_pos hmode, s.advanceTo_now, hconfig, hpins]
  rfl

theorem State.asksLine_there {s : State} (h : s.inUrgent (Queued.isShedRequest none) = true) : s.asksLine = s := if_pos h

theorem State.asksLine_room {s : State} (h : s.inUrgent (Queued.isShedRequest none) = false)
    (hl : s.link.urgent.length < 3) : s.asksLine = s.setLink { s.link with
      urgent := s.link.urgent ++ [.fixed (.shedRequest 1 s.pins.vsense)] } := by
  rw [State.asksLine, h]
  exact State.autoUrgent_room hl _

theorem State.asksLine_full {s : State} (h : s.inUrgent (Queued.isShedRequest none) = false)
    (hl : s.link.urgent.length = 3) : s.asksLine = s.capture .outboundFull .none (some .shedRequest) := by
  rw [State.asksLine, h]
  exact State.autoUrgent_full hl _

/-- R126: asking moves nothing but the lane, and what a drop counts. -/
theorem State.asksLine_beside (s : State) :
    SameSlotInputs s s.asksLine ∧ s.asksLine.slotUnit = s.slotUnit ∧
      s.asksLine.counter .lineUnexplained = s.counter .lineUnexplained := by
  rw [State.asksLine, State.autoUrgent]
  split
  · exact ⟨.refl s, rfl, rfl⟩
  · split
    · exact ⟨⟨rfl, rfl, rfl, rfl, rfl, rfl, rfl, rfl, rfl⟩, rfl, rfl⟩
    · exact ⟨by constructor <;> simp [State.shedHigh, State.ownDrive], by simp,
        s.capture_counter_other (by decide) (by decide) _ _⟩

theorem State.exec_latchLimit {s : State} {d : Nat} (h : s.slotUnit.latchLimit = some d) :
    exec .latchLimitExpiry s = .next (s.advanceTo d).latchExpires.conclude := by
  rw [← s.expire_some h State.latchExpires]
  rfl

theorem latchLimitAsks {s : State} {d : Nat} (hs : s.Settled) (h : s.slotUnit.latchLimit = some d)
    (hm : s.mode = .member ∨ s.mode = .tainted) :
    ∃ t, exec .latchLimitExpiry s = .next t ∧
      t.slotUnit.latchLimit = some (max s.now d + s.config.general.latchLimit) ∧ Counted s t .lineUnexplained ∧
      (∀ i, (t.slot i).latch = (s.slot i).latch) ∧
      (s.inUrgent (Queued.isShedRequest none) = true → t.link = s.link) ∧
      (s.inUrgent (Queued.isShedRequest none) = false → s.link.urgent.length < 3 → t.link = { s.link with
        urgent := s.link.urgent ++ [.fixed (.shedRequest 1 s.pins.vsense)] }) ∧
      (s.inUrgent (Queued.isShedRequest none) = false → s.link.urgent.length = 3 → t.link = s.link ∧
        Drops s t (s.advanceTo d).stamp .shedRequest) := by
  rw [State.exec_latchLimit h, State.latchExpires_asks d hm]
  have hw : (s.latchRestarted d).Settled := hs.latchRestarted d
  have hlink : (s.latchRestarted d).link = s.link := s.latchRestarted_link d
  have hurgent : (s.latchRestarted d).inUrgent (Queued.isShedRequest none) = s.inUrgent (Queued.isShedRequest none) := by
    rw [State.inUrgent, hlink, State.inUrgent]
  have hpins : (s.latchRestarted d).pins = s.pins := by simp [State.latchRestarted]
  obtain ⟨hin, hunit, hcounter⟩ := (s.latchRestarted d).asksLine_beside
  generalize hu : (s.latchRestarted d).asksLine.capture .lineUnexplained .none none = u
  have hinputs : SameSlotInputs (s.latchRestarted d) u := by
    obtain ⟨h1, h2, h3, h4, h5, h6, h7, h8, h9⟩ := hin
    subst hu
    constructor <;> simp_all [State.shedHigh, State.ownDrive]
  obtain ⟨hslots, hfault⟩ := hw.conclude_beside hinputs (by simpa [← hu] using hunit)
  have hlinked : u.conclude.link = (s.latchRestarted d).asksLine.link := by simp [← hu]
  refine ⟨u.conclude, rfl, by rw [hslots]; rfl, ?_, fun i => ?_, fun hq => ?_, fun hq hl => ?_, fun hq hl => ?_⟩
  · refine Counted.of_fault ?_ hfault
    rw [← hu]
    exact Counted.capture (by decide) (by rw [hcounter, State.latchRestarted_counter]) _ _
  · rw [State.slot_of_slotUnit hslots, s.latchRestarted_latch]
  · rw [hlinked, State.asksLine_there (hurgent.trans hq), hlink]
  · rw [hlinked, State.asksLine_room (hurgent.trans hq) (by rwa [hlink]), hlink, hpins]
    rfl
  · rw [hlinked]
    rw [State.asksLine_full (hurgent.trans hq) (by rwa [hlink])] at hu ⊢
    refine ⟨by simp, Drops.of_fault (t := u) ?_ hfault⟩
    have hdrops : Drops s ((s.latchRestarted d).capture .outboundFull .none (some .shedRequest)) (s.advanceTo d).stamp
        .shedRequest := State.capture_drops (s := s.latchRestarted d)
        (by simp [State.latchRestarted]) (s.advanceTo_epoch d) .shedRequest
    rw [← hu]
    exact hdrops.capture (State.capture_locks _ _ _ _) (by decide) _ _

/-! The off deadline of a slot (R127). -/

/-- R127: a deadline runs for a slot that draws while it is ordered off, in a live station. -/
theorem State.Settled.offDeadline_runs {s : State} (hs : s.Settled) {i : SlotNo} {d : Nat}
    (h : (s.slot i).offDeadline = some d) :
    s.mode.live = true ∧ s.offConditions i = true ∧ (s.slot i).offWatch = true := by
  have hr := hs.1 i
  cases hl : s.mode.live with
  | false =>
    rw [State.refreshed_dead _ _ _ hl] at hr
    rw [← hr] at h
    cases h
  | true =>
    rw [State.refreshed_live _ _ _ hl] at hr
    have hdeadline := congrArg SlotRecord.offDeadline hr
    have hwatch := congrArg SlotRecord.offWatch hr
    cases ho : s.offConditions i with
    | false =>
      rw [ho, h] at hdeadline
      cases hdeadline
    | true => exact ⟨rfl, rfl, hwatch.symm.trans ho⟩

/-- R127: a deadline that runs may run anew or stop. -/
theorem State.Settled.setOffDeadline {s : State} (hs : s.Settled) {i : SlotNo} {d : Nat}
    (h : (s.slot i).offDeadline = some d) (x : Option Nat) : (s.setOffDeadline i x).Settled := by
  obtain ⟨hl, ho, hw⟩ := hs.offDeadline_runs h
  have hrecord : s.refreshed i { s.slot i with offDeadline := x } = { s.slot i with offDeadline := x } :=
    calc s.refreshed i { s.slot i with offDeadline := x } = { s.refreshed i (s.slot i) with offDeadline := x } := by
          rw [State.refreshed_live _ _ _ hl, State.refreshed_live _ _ _ hl, ho, if_pos rfl, if_pos hw]
      _ = { s.slot i with offDeadline := x } := by rw [hs.1 i]
  exact State.Settled.putSlot hs i (SameSlotInputs.refreshed_self (s := s)
    (t := s.putSlot i { s.slot i with offDeadline := x }) ⟨rfl, rfl, rfl, rfl, rfl, rfl, rfl, rfl, rfl⟩ i _ (by simp)
    (by simp) (by simp) hrecord)

theorem State.exec_offDeadline {s : State} {i : SlotNo} {d : Nat} (h : (s.slot i).offDeadline = some d) :
    exec (.offDeadlineExpiry i) s = .next ((s.advanceTo d).offExpires i).conclude := by
  rw [← s.expire_some h fun t => t.offExpires i]
  rfl

theorem State.advanceTo_offDeadline (s : State) (d : Nat) (i : SlotNo) :
    ((s.advanceTo d).slot i).offDeadline = (s.slot i).offDeadline := by rw [s.advanceTo_slot]

/-- R127: the end of an expiry that moves the off deadline of a slot, and captures STUCK_LOAD behind `v`. -/
theorem offDeadlineCaptures {s v : State} {i : SlotNo} {d : Nat} (hs : s.Settled) (h : (s.slot i).offDeadline = some d)
    (hin : SameSlotInputs (s.advanceTo d) v) (hunit : v.slotUnit = (s.advanceTo d).slotUnit) (x : Option Nat) {t : State}
    (ht : t = ((v.capture .stuckLoad (.slot i) none).setOffDeadline i x).conclude) :
    t.fault = (v.capture .stuckLoad (.slot i) none).fault ∧
      t.slot i = { (s.advanceTo d).slot i with offDeadline := x } ∧ t.link = v.link := by
  have hw := (hs.advanceTo d).setOffDeadline ((s.advanceTo_offDeadline d i).trans h) x
  have hslot : (v.capture .stuckLoad (.slot i) none).slot i = (s.advanceTo d).slot i :=
    State.slot_of_slotUnit (by simpa using hunit) i
  have hinputs : SameSlotInputs ((s.advanceTo d).setOffDeadline i x)
      ((v.capture .stuckLoad (.slot i) none).setOffDeadline i x) := by
    obtain ⟨h1, h2, h3, h4, h5, h6, h7, h8, h9⟩ := hin
    constructor <;> simp_all [State.setOffDeadline, State.shedHigh, State.ownDrive]
  have hsame : ((v.capture .stuckLoad (.slot i) none).setOffDeadline i x).slotUnit =
      ((s.advanceTo d).setOffDeadline i x).slotUnit := by
    rw [State.setOffDeadline, hslot]
    exact State.putSlot_slotUnit_congr (by simpa using hunit) i _
  obtain ⟨hslots, hfault⟩ := hw.conclude_beside hinputs hsame
  subst ht
  refine ⟨hfault.trans (by simp [State.setOffDeadline]), ?_, by simp [State.setOffDeadline]⟩
  rw [State.slot_of_slotUnit hslots]
  simp [State.setOffDeadline]

/-- R127: the off deadline, where the urgent lane has room for the SHED_FAULT. -/
theorem offDeadlineTells {s : State} {i : SlotNo} {d : Nat} (hs : s.Settled) (h : (s.slot i).offDeadline = some d)
    (hr : s.mode.reporting = true) (hq : s.inUrgent (Queued.isShedFault i) = false) (hl : s.link.urgent.length < 3) :
    ∃ t, exec (.offDeadlineExpiry i) s = .next t ∧ Counted s t .stuckLoad ∧ (t.slot i).offDeadline = none ∧
      t.link = { s.link with urgent := s.link.urgent ++ [.fixed (.shedFault (byteOf i.val))] } ∧
      (t.slot i).state = (s.slot i).state := by
  have hlane : (s.advanceTo d).link = s.link := by simp
  have hroom : (s.advanceTo d).urgentRoom = true := by
    rw [State.urgentRoom, hlane]
    exact decide_eq_true hl
  generalize hv : (s.advanceTo d).pushUrgent (.shedFault (byteOf i.val)) = v
  have hexpires : (s.advanceTo d).offExpires i = (v.capture .stuckLoad (.slot i) none).setOffDeadline i none := by
    rw [State.offExpires, s.advanceTo_mode, if_pos hr, s.advanceTo_inUrgent, hq, if_neg (by decide), if_pos hroom, hv]
  obtain ⟨hfault, hslot, hlink⟩ := offDeadlineCaptures hs h (v := v)
    (by subst hv; exact ⟨rfl, rfl, rfl, rfl, rfl, rfl, rfl, rfl, rfl⟩) (by simp [← hv, State.pushUrgent]) none rfl
  have hcounter : v.counter .stuckLoad = s.counter .stuckLoad := by
    rw [← s.advanceTo_counter d, ← hv]
    rfl
  rw [State.exec_offDeadline h, hexpires]
  refine ⟨_, rfl, (Counted.capture (by decide) hcounter _ _).of_fault hfault, by rw [hslot], hlink.trans ?_, ?_⟩
  · rw [← hv, State.pushUrgent, State.setLink_link, hlane]
  · rw [hslot, s.advanceTo_slot]

/-- R70, R127: the off deadline at a full urgent lane. -/
theorem offDeadlineDrops {s : State} {i : SlotNo} {d : Nat} (hs : s.Settled) (h : (s.slot i).offDeadline = some d)
    (hr : s.mode.reporting = true) (hq : s.inUrgent (Queued.isShedFault i) = false) (hl : s.link.urgent.length = 3) :
    ∃ t, exec (.offDeadlineExpiry i) s = .next t ∧ Drops s t (s.advanceTo d).stamp .shedFault ∧ Counted s t .stuckLoad ∧
      t.link = s.link ∧ Untouched s t ∧
      t.slot i = { (s.advanceTo d).slot i with offDeadline := some (max s.now d + (s.part i).offDeadline) } := by
  have hfull : ¬ (s.advanceTo d).urgentRoom = true := by
    rw [State.urgentRoom, s.advanceTo_link d, hl]
    decide
  generalize hv : (s.advanceTo d).capture .outboundFull .none (some .shedFault) = v
  have hnow : (v.capture .stuckLoad (.slot i) none).now = max s.now d := by simp [← hv, s.advanceTo_now]
  have hpart : (v.capture .stuckLoad (.slot i) none).part i = s.part i := by simp [← hv, State.part]
  have hexpires : (s.advanceTo d).offExpires i = (v.capture .stuckLoad (.slot i) none).setOffDeadline i
      (some (max s.now d + (s.part i).offDeadline)) := by
    rw [State.offExpires, s.advanceTo_mode, if_pos hr, s.advanceTo_inUrgent, hq, if_neg (by decide), if_neg hfull, hv,
      State.restartOff, hnow, hpart]
  obtain ⟨hfault, hslot, hlink⟩ := offDeadlineCaptures hs h (v := v)
    (by subst hv; constructor <;> simp [State.shedHigh, State.ownDrive]) (by simp [← hv])
    (some (max s.now d + (s.part i).offDeadline)) rfl
  have hdrops : Drops s v (s.advanceTo d).stamp .shedFault := hv ▸ State.capture_drops (by simp) (by simp) _
  have hlock : v.fault.lock = true := hv ▸ State.capture_locks _ _ _ _
  have hcounter : v.counter .stuckLoad = s.counter .stuckLoad := by
    rw [← hv, State.capture_counter_other _ (by decide) (by decide), s.advanceTo_counter]
  rw [State.exec_offDeadline h, hexpires]
  refine ⟨_, rfl, (hdrops.capture hlock (by decide) _ _).of_fault hfault,
    (Counted.capture (by decide) hcounter _ _).of_fault hfault, hlink.trans (by simp [← hv]), ?_, hslot⟩
  simp [Untouched, State.setOffDeadline, ← hv]

/-- Settles O54: a settled slot unit whose one timer is rewritten stays settled, and the captures stand beside it. -/
theorem latchAndOffDeadlines : Obligations.LatchAndOffDeadlines := by
  refine ⟨fun s d hs h => ⟨fun hm ht => ?_, latchLimitAsks hs h⟩, fun s i d hs h =>
    ⟨fun hr hq => ?_, offDeadlineTells hs h, offDeadlineDrops hs h, fun hr => ?_⟩⟩
  · rw [State.exec_latchLimit h, State.latchExpires_other d hm ht, (hs.latchRestarted d).conclude]
    rfl
  · rw [State.exec_offDeadline h, State.offExpires, s.advanceTo_mode, if_pos hr, s.advanceTo_inUrgent, if_pos hq,
      ((hs.advanceTo d).setOffDeadline ((s.advanceTo_offDeadline d i).trans h) _).conclude]
    rfl
  · rw [State.exec_offDeadline h, State.offExpires, s.advanceTo_mode, hr, if_neg (by decide), State.restartOff,
      ((hs.advanceTo d).setOffDeadline ((s.advanceTo_offDeadline d i).trans h) _).conclude, s.advanceTo_now,
      s.advanceTo_part]
    rfl

end Sys2Proof.Machine
end

section
/-! What leaves the gate timers alone (R132, R133): every block that takes an application, up to the gate's own. -/

namespace Sys2Proof.Machine

/-- The settle timers of the slots and the gate timeout stay. -/
structure SameTimers (s t : State) : Prop where
  gate : t.slotUnit.gate = s.slotUnit.gate
  settle : ∀ i, (t.slot i).settle = (s.slot i).settle

theorem SameTimers.refl (s : State) : SameTimers s s := ⟨rfl, fun _ => rfl⟩

theorem SameTimers.trans {a b c : State} (h : SameTimers a b) (k : SameTimers b c) : SameTimers a c :=
  ⟨k.gate.trans h.gate, fun i => (k.settle i).trans (h.settle i)⟩

theorem SameTimers.of_slotUnit {s t : State} (h : t.slotUnit = s.slotUnit) : SameTimers s t :=
  ⟨by rw [h], fun i => by rw [State.slot_of_slotUnit h]⟩

theorem SameTimers.foldl {α : Type} {f : State → α → State} (hf : ∀ s a, SameTimers s (f s a)) (l : List α) (s : State) :
    SameTimers s (l.foldl f s) :=
  foldl_keeps (P := SameTimers s) (f := f) (fun u a h => h.trans (hf u a)) l (.refl s)

theorem SameTimers.putSlot (s : State) {i : SlotNo} {r : SlotRecord} (h : r.settle = (s.slot i).settle) :
    SameTimers s (s.putSlot i r) := by
  refine ⟨by simp, fun j => ?_⟩
  rw [State.putSlot_slot]
  split
  · subst j
    exact h
  · rfl

/-- A write to one slot in a state with the same slot unit. -/
theorem SameTimers.write {s t : State} (h : t.slotUnit = s.slotUnit) {i : SlotNo} {r : SlotRecord}
    (hr : r.settle = (s.slot i).settle) : SameTimers s (t.putSlot i r) :=
  (SameTimers.of_slotUnit h).trans (.putSlot t (by rw [hr, State.slot_of_slotUnit h]))

/-! The line and the watch units. -/

theorem State.latchSlots_sameTimers (s : State) : SameTimers s s.latchSlots := by
  refine ⟨by simp, fun i => ?_⟩
  cases hm : s.mode.live with
  | false => simp [State.latchSlots, hm]
  | true =>
    rw [State.latchSlots_slot hm]
    split <;> rfl

theorem State.clearLatches_sameTimers (s : State) : SameTimers s s.clearLatches :=
  ⟨by simp, fun i => by rw [State.clearLatches_slot]⟩

theorem State.noteFall_sameTimers (s : State) : SameTimers s s.noteFall :=
  SameTimers.trans (.of_slotUnit (t := s.record _) rfl) (State.latchSlots_sameTimers _)

theorem State.pullShed_sameTimers (s : State) (second : Bool) : SameTimers s (s.pullShed second) := by
  have hpulsed (u : WatchUnit) : SameTimers s (s.setUnit second u) := .of_slotUnit (by simp)
  have hrequest {u : State} (hu : SameTimers s u) (b : Bool) (body : Body) :
      SameTimers s (if b then u.autoUrgent body else u) := by
    split
    · exact hu.trans (.of_slotUnit (by simp))
    · exact hu
  simp only [State.pullShed]
  split
  · exact hrequest ((hpulsed _).trans (State.noteFall_sameTimers _)) _ _
  · exact hrequest (hpulsed _) _ _

theorem State.fire_sameTimers (s : State) (second : Bool) (v : EvalValue) : SameTimers s (s.fire second v) := by
  have hnoticed (b : Bool) (e : HistEvent) (c : NoticeContent) :
      SameTimers s (if b then (s.record e).post c else s.record e) := by
    split <;> exact .of_slotUnit (by simp)
  have hpulled (u : State) (b : Bool) : SameTimers u (if b then u.pullShed second else u) := by
    split
    · exact u.pullShed_sameTimers second
    · exact .refl u
  have hfrozen (u : State) (b : Bool) : SameTimers u (if b then u.freeze else u) := by
    split <;> exact .of_slotUnit (by simp)
  have hmoved (u : State) (w : WatchUnit) :
      SameTimers u (if second then u.setUnit second w else (u.setUnit second w).armSecond) := by
    split <;> exact .of_slotUnit (by simp)
  simp only [State.fire]
  exact (((hnoticed _ _ _).trans (hpulled _ _)).trans (hfrozen _ _)).trans (hmoved _ _)

theorem State.evaluate_sameTimers (s : State) (second : Bool) (o : Option EvalValue) :
    SameTimers s (s.evaluate second o).1 := by
  simp only [State.evaluate]
  split
  · split
    · split
      · exact s.fire_sameTimers second _
      · exact .of_slotUnit (by simp)
    · split
      · exact .of_slotUnit (by simp)
      · exact .refl s
  · exact .refl s

theorem State.offer_sameTimers (s : State) (a b : Bool) (values : WatchSource → Option EvalValue) :
    SameTimers s (s.offer a b values) := by
  have hsecond {u : State} (hu : SameTimers s u) (c : Bool) (o : Option EvalValue) :
      SameTimers s (if c then (u.evaluate true o).1 else u) := by
    split
    · exact hu.trans (u.evaluate_sameTimers true o)
    · exact hu
  simp only [State.offer]
  split
  · exact hsecond (s.evaluate_sameTimers false _) _ _
  · exact hsecond (.refl s) _ _

theorem State.watchEvent_sameTimers (s : State) (values : WatchSource → Option EvalValue) :
    SameTimers s (s.watchEvent values) := by
  simp only [State.watchEvent]
  split
  · split
    · exact (s.offer_sameTimers _ _ _).trans (State.offer_sameTimers _ _ _ _)
    · exact s.offer_sameTimers _ _ _
  · exact .refl s

theorem State.offerApplicationIn_sameTimers (s : State) (taken : StationState) (f : Frame) (phase : Option Phase) :
    SameTimers s (s.offerApplicationIn taken f phase) :=
  SameTimers.trans (b := s.setStation { s.station with state := taken }) (.of_slotUnit rfl)
    ((State.watchEvent_sameTimers _ _).trans (.of_slotUnit rfl))

/-! The slots at the end of an application. -/

theorem State.testStuckClear_sameTimers (s : State) (i : SlotNo) : SameTimers s (s.testStuckClear i) := by
  unfold State.testStuckClear
  split
  · split
    · exact .write (s := s) (t := s.pushGeneral (.fixed (.stuckClear (byteOf i.val)))) rfl rfl
    · exact .write (t := s.capture .outboundFull .none (some .stuckClear)) (by simp) rfl
  · exact .refl s

theorem State.slotTests_sameTimers (s : State) : SameTimers s s.slotTests :=
  SameTimers.trans (b := s.releasesAgain) (.of_slotUnit (by simp)) (SameTimers.foldl State.testStuckClear_sameTimers allSlots _)

/-- R120: the settle timers of a live station outlast the end of an event. -/
theorem State.refreshed_settle {s : State} (hl : s.mode.live = true) (i : SlotNo) (r : SlotRecord) :
    (s.refreshed i r).settle = r.settle := by
  rw [State.refreshed_live _ _ _ hl]

theorem State.conclude_sameTimers {s : State} (hl : s.mode.live = true) : SameTimers s s.conclude :=
  ⟨by simp, fun i => by rw [State.conclude_slot, State.refreshed_settle hl]⟩

theorem State.settleDown_sameTimers {s : State} (hl : s.mode.live = true) (n : Nat) : SameTimers s (s.settleDown n) := by
  have hl' : s.slotTests.mode.live = true := by simpa [State.mode] using hl
  refine s.slotTests_sameTimers.trans ⟨by simp [State.settleDown], fun i => ?_⟩
  rw [State.settleDown, State.tidy_slot, State.conclude_slot, State.refreshed_settle hl']

theorem State.ended_sameTimers {s : State} (hl : s.mode.live = true) (n : Nat) : SameTimers s (s.ended n) := by
  have hl' : s.checkAbandon.checkLockout.mode.live = true := by simpa [State.mode] using hl
  exact SameTimers.trans (.of_slotUnit (by simp)) (State.settleDown_sameTimers hl' n)

theorem State.evaluated_sameTimers {s : State} (hl : s.mode.live = true) (n : Nat) (f : Frame) (phase : Option Phase) :
    SameTimers s (s.evaluated n f phase) :=
  (State.ended_sameTimers hl n).trans (State.watchEvent_sameTimers _ _)

/-! What the slot unit takes from an application. -/

@[simp] theorem SlotRecord.mirror_settle (r : SlotRecord) (claim : Option Claim) : (r.mirror claim).settle = r.settle := by
  cases claim <;> rfl

@[simp] theorem SlotRecord.freed_settle (r : SlotRecord) : r.freed.settle = r.settle := rfl

theorem State.mirrorSlot_sameTimers (s : State) (i : SlotNo) : SameTimers s (s.mirrorSlot i) := .putSlot s (by simp)

/-- A notice of the slot unit behind a step that leaves the timers alone. -/
theorem SameTimers.postSlot {s t : State} (h : SameTimers s t) (i : SlotNo) (held : Option Nat) (cause : SlotCause) :
    SameTimers s (t.postSlot i held cause) := h.trans (.of_slotUnit (by simp))

theorem SameTimers.postCause {s t : State} (h : SameTimers s t) (i : SlotNo) (cause : SlotCause) :
    SameTimers s (t.postCause i cause) := h.trans (.of_slotUnit (by simp))

theorem State.ownTransition_sameTimers (s : State) (cause : SlotCause) (t : Transition) :
    SameTimers s (s.ownTransition cause t) := by
  simp only [State.ownTransition]
  split
  · split
    · exact (SameTimers.refl s).postSlot _ _ _
    · split
      · exact (SameTimers.putSlot s (by simp)).postSlot _ _ _
      · exact (SameTimers.putSlot s (by simp)).postSlot _ _ _
  · exact .refl s

theorem State.takeTransitions_sameTimers (s : State) (l : List Transition) : SameTimers s (s.takeTransitions l) :=
  SameTimers.foldl (fun u t => u.ownTransition_sameTimers .applied t) l s

/-- The transitions behind a step that leaves the timers alone. -/
theorem SameTimers.takeTransitions {s t : State} (h : SameTimers s t) (l : List Transition) :
    SameTimers s (t.takeTransitions l) := h.trans (t.takeTransitions_sameTimers l)

theorem State.claimIgnored_sameTimers (s : State) (i : SlotNo) (a : Applied) (cause : IgnoreCause) :
    SameTimers s (s.claimIgnored i a cause) := by
  unfold State.claimIgnored
  split
  · exact .putSlot s (by simp)
  · exact .refl s

theorem State.ownClaimOutcome_sameTimers (s : State) (i : SlotNo) (a : Applied) :
    SameTimers s (s.ownClaimOutcome i a) := by
  simp only [State.ownClaimOutcome]
  split
  · split
    · exact ((SameTimers.refl s).postSlot _ _ _).takeTransitions _
    · exact ((s.mirrorSlot_sameTimers i).postSlot _ _ _).takeTransitions _
  · exact ((s.claimIgnored_sameTimers i a _).postSlot _ _ _).takeTransitions _

theorem State.ownReleaseOutcome_sameTimers (s : State) (i : SlotNo) (a : Applied) :
    SameTimers s (s.ownReleaseOutcome i a) := by
  have hfreed : SameTimers s (s.putSlot i (s.slot i).freed) := .putSlot s rfl
  simp only [State.ownReleaseOutcome]
  refine SameTimers.takeTransitions ?_ _
  split
  · exact .of_slotUnit (by simp)
  · split
    · exact hfreed.postSlot _ _ _
    · exact (SameTimers.refl s).postSlot _ _ _
  · split
    · exact hfreed.postSlot _ _ _
    · exact (SameTimers.refl s).takeTransitions _

theorem State.ownStuckOutcome_sameTimers (s : State) (i : SlotNo) (a : Applied) :
    SameTimers s (s.ownStuckOutcome i a) := by
  simp only [State.ownStuckOutcome]
  refine SameTimers.takeTransitions ?_ _
  split
  · exact (SameTimers.refl s).postCause _ _
  · exact (SameTimers.refl s).takeTransitions _

theorem State.ownJoinSlot_sameTimers (a : Applied) (s : State) (x : SlotNo × JoinOutcome) :
    SameTimers s (State.ownJoinSlot a s x) := by
  simp only [State.ownJoinSlot]
  split
  · exact (SameTimers.refl s).postCause _ _
  · exact (SameTimers.putSlot s (by simp)).postCause _ _

theorem State.ownJoinOutcome_sameTimers (s : State) (a : Applied) : SameTimers s (s.ownJoinOutcome a) :=
  (SameTimers.foldl (State.ownJoinSlot_sameTimers a) a.own.outcomes s).takeTransitions _

theorem State.slotOutcomes_sameTimers (s : State) (f : Frame) (a : Applied) : SameTimers s (s.slotOutcomes f a) := by
  have hevery : SameTimers s (s.takeTransitions (a.own.log ++ a.log)) := s.takeTransitions_sameTimers _
  have hown {p : Prop} [Decidable p] {t : State} (ht : SameTimers s t) :
      SameTimers s (if p then t else s.takeTransitions (a.own.log ++ a.log)) := by
    split
    · exact ht
    · exact hevery
  simp only [State.slotOutcomes]
  split
  · exact hown (s.ownClaimOutcome_sameTimers _ a)
  · split
    · exact hown (s.ownReleaseOutcome_sameTimers _ a)
    · exact hevery
  · exact hown (((SameTimers.refl s).postCause _ _).takeTransitions _)
  · split
    · exact hown (s.ownStuckOutcome_sameTimers _ a)
    · exact hevery
  · split
    · exact hown (s.ownStuckOutcome_sameTimers _ a)
    · exact hevery
  · exact hown (s.ownJoinOutcome_sameTimers a)
  · exact hevery

theorem State.crankOutcome_slotUnit (s : State) (f : Frame) (a : Applied) : (s.crankOutcome f a).slotUnit = s.slotUnit := by
  simp only [State.crankOutcome]
  (repeat' split) <;> simp

/-- R80 step 3: the blocks that take an outcome leave the gate timers to the gate's own. -/
theorem State.takeOutcome_sameTimers (s : State) (f : Frame) (a : Applied) : SameTimers s (s.takeOutcome f a) := by
  have hreplaced : SameTimers s (s.setReplica (some a.after)) := .of_slotUnit rfl
  have hcleared : SameTimers s
      (if a.explains f then (s.setReplica (some a.after)).explained else s.setReplica (some a.after)) := by
    split
    · exact (hreplaced.trans (State.clearLatches_sameTimers _)).trans
        (.of_slotUnit (by simp [State.explained]))
    · exact hreplaced
  unfold State.takeOutcome
  dsimp only
  generalize (if a.explains f then (s.setReplica (some a.after)).explained else s.setReplica (some a.after)) = u
    at hcleared ⊢
  have hrecorded : SameTimers s (u.recordTransitions (a.own.log ++ a.log)) := hcleared.trans (.of_slotUnit (by simp))
  exact (hrecorded.trans (State.slotOutcomes_sameTimers _ f a)).trans
    (.of_slotUnit (by simp [State.crankOutcome_slotUnit]))

/-! A change of station state that an application causes. -/

theorem State.endCarry_sameTimers (s : State) (i : SlotNo) : SameTimers s (s.endCarry i) := by
  unfold State.endCarry
  split
  · exact (SameTimers.putSlot s (by simp)).postCause _ _
  · exact .refl s

theorem State.enterAnnounced_sameTimers (s : State) {new : StationState} (hn : new = .entering ∨ new = .member)
    (cause : SyncCause) : SameTimers s (s.enterAnnounced new cause) := by
  have hshift : SameTimers s (s.shift new cause).dropInbound := .of_slotUnit (by simp)
  have hmode : (s.shift new cause).dropInbound.mode = new := rfl
  rw [State.enterAnnounced, State.onEntry, hmode]
  rcases hn with rfl | rfl
  · exact hshift
  · exact hshift.trans (SameTimers.foldl State.endCarry_sameTimers allSlots _)

theorem State.evaluatedAtChange_sameTimers (s : State) (n : Nat) (f : Frame) (phase : Option Phase) {new : StationState}
    (hn : new = .entering ∨ new = .member) (cause : SyncCause) :
    SameTimers s (s.evaluatedAtChange n f phase new cause) := by
  have hmode : (s.enterAnnounced new cause).mode = new := State.enterAnnounced_mode _ _ _
  have hlive : (s.enterAnnounced new cause).mode.live = true := by rcases hn with rfl | rfl <;> rw [hmode] <;> rfl
  have hon : (((s.enterAnnounced new cause).ended n).offerApplicationIn s.mode f phase).mode ≠ .offline := by
    have hkept : (((s.enterAnnounced new cause).ended n).offerApplicationIn s.mode f phase).mode = new := by
      refine Eq.trans ?_ hmode
      simp [State.mode]
    rw [hkept]
    rcases hn with rfl | rfl <;> decide
  rw [State.evaluatedAtChange, State.silenceOffline_of_mode hon]
  exact ((s.enterAnnounced_sameTimers hn cause).trans (State.ended_sameTimers hlive n)).trans
    (State.offerApplicationIn_sameTimers _ _ f phase)

end Sys2Proof.Machine
end

section
/-! The settle timers of the slots and the gate timeout (R132, R133): their expiries, and where an application and a load
start and stop them. -/

namespace Sys2Proof.Machine

/-! The expiries. -/

/-- R120: a settle timer runs in a live station alone. -/
theorem State.Settled.live_of_settle {s : State} (hs : s.Settled) {i : SlotNo} {d : Nat} (h : (s.slot i).settle = some d) :
    s.mode.live = true := by
  cases hl : s.mode.live with
  | true => rfl
  | false =>
    have hr := hs.1 i
    rw [State.refreshed_dead _ _ _ hl] at hr
    rw [← hr] at h
    cases h

/-- R132: a settle timer that runs may run anew or stop. -/
theorem State.Settled.setSettle {s : State} (hs : s.Settled) {i : SlotNo} {d : Nat} (h : (s.slot i).settle = some d)
    (x : Option Nat) : (s.setSettle i x).Settled := by
  have hl := hs.live_of_settle h
  have hrecord : s.refreshed i { s.slot i with settle := x } = { s.slot i with settle := x } :=
    calc s.refreshed i { s.slot i with settle := x } = { s.refreshed i (s.slot i) with settle := x } := by
          rw [State.refreshed_live _ _ _ hl, State.refreshed_live _ _ _ hl]
      _ = { s.slot i with settle := x } := by rw [hs.1 i]
  exact State.Settled.putSlot hs i (SameSlotInputs.refreshed_self (s := s)
    (t := s.putSlot i { s.slot i with settle := x }) ⟨rfl, rfl, rfl, rfl, rfl, rfl, rfl, rfl, rfl⟩ i _ (by simp)
    (by simp) (by simp) hrecord)

theorem State.advanceTo_settle (s : State) (d : Nat) (i : SlotNo) :
    ((s.advanceTo d).slot i).settle = (s.slot i).settle := by rw [s.advanceTo_slot]

theorem State.exec_settleTimer {s : State} {i : SlotNo} {d : Nat} (h : (s.slot i).settle = some d) :
    exec (.settleTimerExpiry i) s = .next ((s.advanceTo d).slotSettled i).conclude := by
  rw [← s.expire_some h fun t => t.slotSettled i]
  rfl

/-- R70, R132: a full general lane drops the SETTLED. -/
theorem settleTimerDrops {s : State} {i : SlotNo} {d : Nat} (hs : s.Settled) (h : (s.slot i).settle = some d)
    (hm : s.mode = .member) (hl : s.link.general.length = 6) :
    ∃ t, exec (.settleTimerExpiry i) s = .next t ∧ t.link = s.link ∧ Untouched s t ∧
      Drops s t (s.advanceTo d).stamp .settled ∧
      t.slot i = { (s.advanceTo d).slot i with settle := some (max s.now d + 2 * (s.part i).settle) } := by
  have hfull : ¬ (s.advanceTo d).generalRoom = true := by
    rw [State.generalRoom, s.advanceTo_link d, hl]
    decide
  generalize hv : (s.advanceTo d).capture .outboundFull .none (some .settled) = v
  have hnow : v.now = max s.now d := by simp [← hv, s.advanceTo_now]
  have hpart : v.part i = s.part i := by simp [← hv, State.part]
  have hunit : v.slotUnit = (s.advanceTo d).slotUnit := by simp [← hv]
  have hexpires : (s.advanceTo d).slotSettled i = v.setSettle i (some (max s.now d + 2 * (s.part i).settle)) := by
    rw [State.slotSettled, s.advanceTo_mode, if_pos hm, if_neg hfull, hv, State.restartSettle, hnow, hpart]
  have hw := (hs.advanceTo d).setSettle ((s.advanceTo_settle d i).trans h) (some (max s.now d + 2 * (s.part i).settle))
  have hsame : (v.setSettle i (some (max s.now d + 2 * (s.part i).settle))).slotUnit =
      ((s.advanceTo d).setSettle i (some (max s.now d + 2 * (s.part i).settle))).slotUnit := by
    rw [State.setSettle, State.slot_of_slotUnit hunit i]
    exact State.putSlot_slotUnit_congr hunit i _
  obtain ⟨hslots, hfault⟩ := hw.conclude_beside
    (by subst hv; constructor <;> simp [State.setSettle, State.shedHigh, State.ownDrive]) hsame
  have hdrops : Drops s v (s.advanceTo d).stamp .settled := hv ▸ State.capture_drops (by simp) (by simp) _
  rw [State.exec_settleTimer h, hexpires]
  refine ⟨_, rfl, by simp [State.setSettle, ← hv], by simp [Untouched, State.setSettle, ← hv],
    hdrops.of_fault (hfault.trans (by simp [State.setSettle])), ?_⟩
  rw [State.slot_of_slotUnit hslots]
  simp [State.setSettle]

theorem State.exec_gateTimeout {s : State} {g : GateTimeout} (h : s.slotUnit.gate = some g) :
    exec .gateTimeoutExpiry s = .next ((s.advanceTo g.deadline).gateExpires g).conclude := by
  rw [← s.expire_some rfl fun t => t.gateExpires g]
  show execGateTimeoutExpiry s = _
  rw [execGateTimeoutExpiry, h]

/-- R133: no slot follows the gate timeout. -/
theorem State.Settled.setGate {s : State} (hs : s.Settled) (g : Option GateTimeout) : (s.setGate g).Settled :=
  hs.of_same ⟨rfl, rfl, rfl, rfl, rfl, rfl, rfl, rfl, rfl⟩ rfl hs.2

/-- R70, R133: a full general lane drops the SETTLED of the gate timeout. -/
theorem gateTimeoutDrops {s : State} {g : GateTimeout} (hs : s.Settled) (h : s.slotUnit.gate = some g)
    (hm : s.mode = .member) (hq : s.inGeneral (Queued.isSettled g.key) = false) (hl : s.link.general.length = 6) :
    ∃ t, exec .gateTimeoutExpiry s = .next t ∧ t.link = s.link ∧ Untouched s t ∧
      Drops s t (s.advanceTo g.deadline).stamp .settled ∧
      t.slotUnit.gate = some { key := g.key, deadline := max s.now g.deadline + g.period, period := g.period } := by
  have hfull : ¬ (s.advanceTo g.deadline).generalRoom = true := by
    rw [State.generalRoom, s.advanceTo_link g.deadline, hl]
    decide
  generalize hv : (s.advanceTo g.deadline).capture .outboundFull .none (some .settled) = v
  have hnow : v.now = max s.now g.deadline := by simp [← hv, s.advanceTo_now]
  have hunit : v.slotUnit = (s.advanceTo g.deadline).slotUnit := by simp [← hv]
  have hexpires : (s.advanceTo g.deadline).gateExpires g =
      v.setGate (some { key := g.key, deadline := max s.now g.deadline + g.period, period := g.period }) := by
    rw [State.gateExpires, s.advanceTo_mode, if_pos hm, s.advanceTo_inGeneral, hq, if_neg (by decide), if_neg hfull, hv,
      State.restartGate, State.gateTimeoutFor, hnow]
  have hw := (hs.advanceTo g.deadline).setGate
    (some { key := g.key, deadline := max s.now g.deadline + g.period, period := g.period })
  obtain ⟨hslots, hfault⟩ := hw.conclude_beside 
    (u := v.setGate (some { key := g.key, deadline := max s.now g.deadline + g.period, period := g.period }))
    (by subst hv; constructor <;> simp [State.setGate, State.shedHigh, State.ownDrive])
    (by simp only [State.setGate, State.setSlotUnit, hunit])
  have hdrops : Drops s v (s.advanceTo g.deadline).stamp .settled := hv ▸ State.capture_drops (by simp) (by simp) _
  rw [State.exec_gateTimeout h, hexpires]
  refine ⟨_, rfl, by simp [State.setGate, ← hv], by simp [Untouched, State.setGate, ← hv], hdrops.of_fault hfault, ?_⟩
  rw [hslots]
  rfl

/-! What the gate's own block makes of the timers, and the end of the event behind it. -/

theorem State.gateTimers_slot (s : State) (starts : Option Key) (period : Nat) (i : SlotNo) :
    (s.gateTimers starts period).slot i =
      if s.mode.live then s.settleSlot starts i (s.slot i) else { s.slot i with settle := none } :=
  mapSlots_get _ _ i

/-- The slot's claim holds the gate, and the slot can run its settle timer (R132, R135). -/
def State.runsSettle (s : State) (i : SlotNo) : Prop :=
  s.gateKey = some (s.ownKey i) ∧ (s.slot i).state ≠ .carried ∧ (s.part i).used = true

/-- R132: the settle timers of a live station behind the gate's block. -/
theorem State.gateTimers_settle {s : State} (hl : s.mode.live = true) (starts : Option Key) (period : Nat) (i : SlotNo) :
    (¬ s.runsSettle i → ((s.gateTimers starts period).slot i).settle = none) ∧
    (s.runsSettle i → starts = some (s.ownKey i) →
      ((s.gateTimers starts period).slot i).settle = some (s.now + 2 * (s.part i).settle)) ∧
    (s.runsSettle i → starts ≠ some (s.ownKey i) →
      ((s.gateTimers starts period).slot i).settle = (s.slot i).settle) := by
  rw [State.gateTimers_slot, if_pos hl]
  unfold State.runsSettle
  refine ⟨fun hr => ?_, fun hr hs => ?_, fun hr hs => ?_⟩
  · rw [State.settleSlot, if_neg hr]
  · rw [State.settleSlot, if_pos hr, if_pos hs]
  · rw [State.settleSlot, if_pos hr, if_neg hs]

/-- R133: the gate timeout of a live station behind the gate's block. -/
theorem State.gateTimers_gate {s : State} (hl : s.mode.live = true) (starts : Option Key) (period : Nat) :
    (s.gateTimers starts period).slotUnit.gate = s.nextGateTimeout starts period := if_pos hl

theorem State.keepGateTimeout_eq (s : State) :
    s.keepGateTimeout = s.slotUnit.gate.filter fun g => s.gateKey == some g.key := by
  unfold State.keepGateTimeout
  cases hg : s.slotUnit.gate with
  | none => rfl
  | some g =>
    rw [Option.filter_some]
    simp only [beq_iff_eq]

theorem State.nextGateTimeout_starts {s : State} {k : Key} (hk : k.station ≠ s.self) (hg : s.gateKey = some k)
    (period : Nat) : s.nextGateTimeout (some k) period =
      some { key := k, deadline := s.now + period, period := period } := if_pos ⟨hk, hg⟩

theorem State.nextGateTimeout_keeps {s : State} {starts : Option Key} (h : ∀ k, starts = some k → k.station = s.self)
    (period : Nat) : s.nextGateTimeout starts period = s.slotUnit.gate.filter fun g => s.gateKey == some g.key := by
  rw [← s.keepGateTimeout_eq]
  cases starts with
  | none => rfl
  | some k => exact if_neg fun hc => hc.1 (h k rfl)

/-- R120: in a station that is not live no timer of the gate runs. -/
theorem State.gateTimers_dead {s : State} (hl : s.mode.live = false) (starts : Option Key) (period : Nat) :
    (∀ i, ((s.gateTimers starts period).slot i).settle = none) ∧ (s.gateTimers starts period).slotUnit.gate = none := by
  have hdead : ¬ s.mode.live = true := by rw [hl]; decide
  exact ⟨fun i => by rw [State.gateTimers_slot, if_neg hdead], if_neg hdead⟩

/-! An application. -/

/-- R31: the key that the admission pass answers holds the gate. -/
theorem Replica.apply_admitted {r : Replica} {effect : Replica → OwnEffect} {k : Key}
    (h : (r.apply effect).admitted = some k) : (r.apply effect).after.gate = some k := by
  simp only [Replica.apply] at h ⊢
  generalize effect { r with epoch := r.epoch + 1 } = own at h ⊢
  simp only [epilogue] at h ⊢
  generalize sheddingPass { rep := own.rep, log := [] } = p at h ⊢
  rcases admissionPass_cases (p.log.map (·.key)) p with ⟨hnone, -⟩ | ⟨a, -, -, hsome⟩
  · rw [hnone] at h
    cases h
  · rw [hsome] at h ⊢
    exact h

/-- R100, R109, R118: what an application may change the station state to. -/
theorem State.changeCaused_cases {s : State} {f : Frame} {a : Applied} {new : StationState} {cause : SyncCause}
    (h : s.changeCaused f a = some (new, cause)) : (new = .entering ∨ new = .member) ∨ new = .offline := by
  unfold State.changeCaused at h
  (repeat' split at h) <;> simp_all

/-- R133: an ABSENCE of the holder's station starts the gate timeout, which does not run for the holder. -/
def State.CutsGate (s : State) (f : Frame) (a : Applied) (k : Key) : Prop :=
  a.admitted = none ∧ a.after.gate = some k ∧ k.station ≠ s.self ∧ f.body = .absence (byteOf k.station.val) ∧
    a.own.ignored = none ∧ s.slotUnit.gate.map (·.key) ≠ some k

/-- R132, R133: the key whose timer the gate's block starts, with the period of a gate timeout. -/
inductive State.GateStarts (s : State) (f : Frame) (a : Applied) : Option Key → Nat → Prop where
  | admitted (k : Key) (h : a.admitted = some k) : GateStarts s f a (some k) (a.after.settleTime k + 100)
  | joined (h : a.admitted = none) (hk : f.body.kind = .join) (period : Nat) :
      GateStarts s f a (if f.sender = s.self then a.resumedHolder f else none) period
  | cut (k : Key) (h : s.CutsGate f a k) : GateStarts s f a (some k) (a.before.settleTime k + 100)
  | rest (h : a.admitted = none) (hk : f.body.kind ≠ .join) (hc : ∀ k, ¬ s.CutsGate f a k) (period : Nat) :
      GateStarts s f a none period

theorem State.gateOutcome_starts (s : State) (f : Frame) (a : Applied) :
    ∃ starts period, s.gateOutcome f a = s.gateTimers starts period ∧ s.GateStarts f a starts period := by
  unfold State.gateOutcome
  cases ha : a.admitted with
  | some k => exact ⟨_, _, rfl, .admitted k ha⟩
  | none =>
    have hrest (hk : f.body.kind ≠ .join) (hc : ∀ k, ¬ s.CutsGate f a k) :
        ∃ starts period, s.gateTimers none 0 = s.gateTimers starts period ∧ s.GateStarts f a starts period :=
      ⟨none, 0, rfl, .rest ha hk hc 0⟩
    dsimp only
    split
    · rename_i hb
      exact ⟨_, _, rfl, .joined ha (by rw [hb]; rfl) 0⟩
    · rename_i b hb
      have hkind : f.body.kind ≠ .join := by rw [hb]; nofun
      split
      · rename_i k hg
        split
        · rename_i hc
          obtain ⟨hignored, hbyte, hgate, hself⟩ := hc
          exact ⟨_, _, rfl, .cut k ⟨ha, hg, hself, by rw [hb, hbyte], hignored, hgate⟩⟩
        · rename_i hn
          refine hrest hkind fun k' hk' => hn ?_
          obtain ⟨-, hg', hself, hbody, hignored, hgate⟩ := hk'
          obtain rfl : k = k' := Option.some.inj (hg.symm.trans hg')
          rw [hb] at hbody
          exact ⟨hignored, Body.absence.inj hbody, hgate, hself⟩
      · rename_i hg
        exact hrest hkind fun k hk => by
          obtain ⟨-, hg', -⟩ := hk
          rw [hg] at hg'
          cases hg'
    · rename_i hnj hna
      have hkind : f.body.kind ≠ .join := by
        intro hk
        cases hb : f.body with
        | join => exact hnj _ _ _ _ _ _ hb
        | _ =>
          rw [hb] at hk
          cases hk
      exact hrest hkind fun k hk => by
        obtain ⟨-, -, -, hbody, -⟩ := hk
        exact hna _ hbody

/-- R132: the own JOIN starts the settle timer of the holder that it resumed. -/
theorem Applied.resumedHolder_iff {a : Applied} {f : Frame} {k : Key} (hg : a.after.gate = some k) :
    a.resumedHolder f = some k ↔ k.station = f.sender ∧ (k.slot, .resumed) ∈ a.own.outcomes := by
  simp [Applied.resumedHolder, hg]

theorem Applied.resumedHolder_station {a : Applied} {f : Frame} {k : Key} (h : a.resumedHolder f = some k) :
    k.station = f.sender := by
  unfold Applied.resumedHolder at h
  split at h
  · split at h
    · rename_i hc
      rw [← Option.some.inj h]
      exact hc.1
    · cases h
  · cases h

section
variable {s : State} {f : Frame} {a : Applied} {starts : Option Key} {period : Nat}

/-- R132: which application starts the settle timer of a slot whose claim holds the gate. -/
theorem State.GateStarts.own_iff (h : s.GateStarts f a starts period) {i : SlotNo}
    (hg : a.after.gate = some (s.ownKey i)) : starts = some (s.ownKey i) ↔
      a.admitted = some (s.ownKey i) ∨
        (a.admitted = none ∧ f.sender = s.self ∧ f.body.kind = .join ∧ (i, .resumed) ∈ a.own.outcomes) := by
  cases h with
  | admitted k ha => simp [ha]
  | joined ha hk =>
    by_cases hself : f.sender = s.self
    · rw [if_pos hself, Applied.resumedHolder_iff hg]
      simp [ha, hk, hself, State.ownKey]
    · simp [ha, hself]
  | cut k hc =>
    obtain ⟨ha, -, hself, hbody, -⟩ := hc
    have hkind : f.body.kind ≠ .join := by rw [hbody]; nofun
    have hne : k ≠ s.ownKey i := fun he => hself (by rw [he]; rfl)
    simp [ha, hkind, hne]
  | rest ha hk => simp [ha, hk]

/-- R133: where no other station's key is admitted or cut, the gate timeout starts for none. -/
theorem State.GateStarts.own_station (h : s.GateStarts f a starts period) (hc : ∀ k, ¬ s.CutsGate f a k)
    (ha : ∀ k, a.admitted = some k → k.station = s.self) : ∀ k, starts = some k → k.station = s.self := by
  intro k hk
  cases h with
  | admitted k' ha' =>
    obtain rfl := Option.some.inj hk
    exact ha _ ha'
  | joined =>
    split at hk
    · rename_i hself
      exact (Applied.resumedHolder_station hk).trans hself
    · cases hk
  | cut k' hc' => exact absurd hc' (hc k')
  | rest => cases hk

theorem State.GateStarts.of_admitted (h : s.GateStarts f a starts period) {k : Key} (hk : a.admitted = some k) :
    starts = some k ∧ period = a.after.settleTime k + 100 := by
  cases h with
  | admitted k' ha =>
    obtain rfl := Option.some.inj (ha.symm.trans hk)
    exact ⟨rfl, rfl⟩
  | cut k' hc => exact nomatch hc.1.symm.trans hk
  | joined ha => exact nomatch ha.symm.trans hk
  | rest ha => exact nomatch ha.symm.trans hk

theorem State.GateStarts.of_cut (h : s.GateStarts f a starts period) {k : Key} (hk : s.CutsGate f a k) :
    starts = some k ∧ period = a.before.settleTime k + 100 := by
  have hkind : f.body.kind ≠ .join := by
    obtain ⟨-, -, -, hbody, -⟩ := hk
    rw [hbody]
    nofun
  cases h with
  | admitted k' ha => exact nomatch hk.1.symm.trans ha
  | cut k' hc =>
    obtain rfl := Option.some.inj (hc.2.1.symm.trans hk.2.1)
    exact ⟨rfl, rfl⟩
  | joined _ hj => exact absurd hj hkind
  | rest _ _ hc => exact absurd hk (hc k)

end

/-- The station an application has reached when the gate's own block takes it. -/
structure GateTaken (s e : State) (a : Applied) : Prop where
  replica : e.replica = some a.after
  self : e.self = s.self
  now : e.now = s.now
  part : ∀ i, e.part i = s.part i
  mode : e.mode = .offline ∨ e.mode.live = true
  timers : e.mode ≠ .offline → SameTimers s e

section
variable {s : State} {r : Replica} (hr : s.replica = some r) (f : Frame) (effect : Frame → Replica → OwnEffect) (n : Nat)
include hr

/-- R80: an application that causes no change of station state. -/
theorem State.applyTable_stays (hc : s.changeCaused f (r.apply (effect f)) = none) : s.applyTable f effect n =
    ((s.takeOutcome f (r.apply (effect f))).evaluated n f (r.apply (effect f)).newPhase).gateOutcome f
      (r.apply (effect f)) := by
  simp only [State.applyTable, hr, hc]

/-- R80, R87: an application that causes one. -/
theorem State.applyTable_changes {new : StationState} {cause : SyncCause}
    (hc : s.changeCaused f (r.apply (effect f)) = some (new, cause)) : s.applyTable f effect n =
    ((s.takeOutcome f (r.apply (effect f))).evaluatedAtChange n f (r.apply (effect f)).newPhase new cause).gateOutcome f
      (r.apply (effect f)) := by
  simp only [State.applyTable, hr, hc]

theorem State.applyTable_taken (hm : s.mode = .entering ∨ s.mode = .member) :
    ∃ e, s.applyTable f effect n = e.gateOutcome f (r.apply (effect f)) ∧ GateTaken s e (r.apply (effect f)) := by
  have hlive : s.mode.live = true := by rcases hm with hm | hm <;> rw [hm] <;> rfl
  have htaken := s.takeOutcome_sameTimers f (r.apply (effect f))
  have hmode : (s.takeOutcome f (r.apply (effect f))).mode = s.mode := by simp [State.mode]
  have hreplica := s.takeOutcome_replica f (r.apply (effect f))
  cases hc : s.changeCaused f (r.apply (effect f)) with
  | none =>
    refine ⟨_, State.applyTable_stays hr f effect n hc, by simp [hreplica], by simp [State.self], by simp,
      fun i => by simp [State.part], .inr ?_, fun _ =>
      htaken.trans (State.evaluated_sameTimers (by rw [hmode]; exact hlive) _ _ _)⟩
    simpa [State.mode] using hlive
  | some c =>
    obtain ⟨new, cause⟩ := c
    have hnew : ((s.takeOutcome f (r.apply (effect f))).evaluatedAtChange n f (r.apply (effect f)).newPhase new
        cause).mode = new := by
      refine Eq.trans ?_ (State.enterAnnounced_mode (s.takeOutcome f (r.apply (effect f))) new cause)
      simp [State.evaluatedAtChange, State.mode]
    refine ⟨_, State.applyTable_changes hr f effect n hc, by simp [hreplica], by simp [State.self], by simp,
      fun i => by simp [State.part], ?_, fun hoff => ?_⟩
    · rw [hnew]
      rcases State.changeCaused_cases hc with (rfl | rfl) | rfl
      · exact .inr rfl
      · exact .inr rfl
      · exact .inl rfl
    · rw [hnew] at hoff
      exact htaken.trans (State.evaluatedAtChange_sameTimers _ n f _
        ((State.changeCaused_cases hc).resolve_right hoff) cause)

end

/-! The row of a table-changing frame. -/

/-- R78: a station that admits a table-changing frame is ENTERING or MEMBER. -/
theorem mode_of_admits {mode : StationState} {self : Station} {f : Frame} (h : admits mode self f = true)
    (hk : f.body.kind ≠ .snapshot) : mode = .entering ∨ mode = .member := by
  have hbody : ∀ q e i, f.body ≠ .snapshot q e i := fun q e i hb => hk (by rw [hb]; rfl)
  cases mode with
  | entering => exact .inl rfl
  | member => exact .inr rfl
  | joining | tainted =>
    cases hb : f.body with
    | snapshot q e i => exact absurd hb (hbody q e i)
    | _ => simp [admits, hb] at h
  | _ => cases h

theorem State.applyKind_table (s : State) {kind : FrameKind} {effect : Frame → Replica → OwnEffect}
    (h : tableEffect kind = some effect) : s.applyKind kind = s.tableFrame kind effect := by
  cases kind <;> cases h <;> rfl

/-- R80, R92: the station that steps 2 and 3 of an application begin from: the frame is taken from the queue, and a
disagreement is counted against its sender. -/
def State.compared (s : State) (f : Frame) (r : Replica) (rest : List Frame) : State :=
  if f.verdict s.mode s.self r = .differs then (s.withRest rest).raiseDisagree f.sender else s.withRest rest

theorem State.compared_frame (s : State) (f : Frame) (r : Replica) (rest : List Frame) :
    (s.compared f r rest).straps = s.straps ∧ (s.compared f r rest).config = s.config ∧
      (s.compared f r rest).replica = s.replica ∧ (s.compared f r rest).now = s.now ∧
      (s.compared f r rest).station = s.station ∧ (s.compared f r rest).slotUnit = s.slotUnit ∧
      (s.compared f r rest).fault = s.fault ∧ (s.compared f r rest).link = { s.link with inbound := rest } := by
  unfold State.compared
  split <;> simp [State.withRest]

/-- R80: a frame that the station does not yield at goes on to steps 2 and 3. -/
theorem State.applyFrame_taken {s : State} {f : Frame} {r : Replica} {rest : List Frame} (h : s.Applies f r rest)
    (steps : State → Nat → State) :
    (s.withRest rest).applyFrame f steps = steps (s.compared f r rest) s.history.entries.length := by
  have hreplica : (s.withRest rest).replica = some r := h.holds
  have hverdict : (s.withRest rest).verdict f = f.verdict s.mode s.self r := by
    rw [State.verdict, hreplica]
    rfl
  rw [State.applyFrame, hverdict, State.compared]
  cases hv : f.verdict s.mode s.self r with
  | agree => rfl
  | differs => rfl
  | yields => exact absurd hv h.taken

theorem State.exec_table {s : State} {f : Frame} {r : Replica} {rest : List Frame}
    {effect : Frame → Replica → OwnEffect} (h : s.Applies f r rest) (hk : tableEffect f.body.kind = some effect) :
    exec (frameRow f.body.kind) s =
      .next ((s.compared f r rest).applyTable f effect s.history.entries.length).conclude := by
  rw [State.exec_frameRow_eq h.alone, State.application_quiet s _ h.quiet, State.applyKind_table s hk, State.tableFrame,
    State.applyHead, h.head]
  dsimp only
  rw [if_pos rfl]
  have happlied := State.applyFrame_taken h fun u n => u.applyTable f effect n
  rw [State.withRest] at happlied
  rw [happlied]

/-- R120, R132, R133: the end of an event behind the gate's block, in a live station. -/
theorem State.gateEnds_live {e : State} (hl : e.mode.live = true) (starts : Option Key) (period : Nat) :
    SameTimers (e.gateTimers starts period) (e.gateTimers starts period).conclude :=
  State.conclude_sameTimers (by simpa [State.mode] using hl)

theorem State.gateEnds_state (e : State) (starts : Option Key) (period : Nat) (i : SlotNo) :
    ((e.gateTimers starts period).conclude.slot i).state = (e.slot i).state :=
  ((State.conclude_sameSlots _).state i).trans ((e.gateTimers_sameSlots starts period).state i)

/-- R120: in OFFLINE neither timer runs. -/
theorem State.gateEnds_dead {e : State} (hl : e.mode.live = false) (starts : Option Key) (period : Nat) :
    (∀ i, ((e.gateTimers starts period).conclude.slot i).settle = none) ∧
      (e.gateTimers starts period).conclude.slotUnit.gate = none := by
  have hdead : (e.gateTimers starts period).mode.live = false := by simpa [State.mode] using hl
  refine ⟨fun i => ?_, by simpa using (State.gateTimers_dead hl starts period).2⟩
  rw [State.conclude_slot, State.refreshed_dead _ _ _ hdead]

section
variable {s e : State} {f : Frame} {a : Applied} {starts : Option Key} {period : Nat}

theorem GateTaken.gateKey (h : GateTaken s e a) : e.gateKey = a.after.gate := by
  rw [State.gateKey, h.replica]
  rfl

theorem GateTaken.ownKey (h : GateTaken s e a) (i : SlotNo) : e.ownKey i = s.ownKey i := by
  simp only [State.ownKey, h.self]

theorem GateTaken.cutsGate_iff (h : GateTaken s e a) (hm : e.mode ≠ .offline) (k : Key) :
    e.CutsGate f a k ↔ s.CutsGate f a k := by
  simp only [State.CutsGate, h.self, (h.timers hm).gate]

/-- R132: the settle timers at the end of an application. -/
theorem GateTaken.settle (h : GateTaken s e a) (hm : e.mode ≠ .offline) (hs : e.GateStarts f a starts period)
    (i : SlotNo) {t : State} (ht : t = (e.gateTimers starts period).conclude) :
    let runs := a.after.gate = some (s.ownKey i) ∧ (t.slot i).state ≠ .carried ∧ (s.part i).used = true
    let starting := a.admitted = some (s.ownKey i) ∨
      (a.admitted = none ∧ f.sender = s.self ∧ f.body.kind = .join ∧ (i, .resumed) ∈ a.own.outcomes)
    (¬ runs → (t.slot i).settle = none) ∧
    (runs → starting → (t.slot i).settle = some (s.now + 2 * (s.part i).settle)) ∧
    (runs → ¬ starting → (t.slot i).settle = (s.slot i).settle) := by
  intro runs starting
  have hl : e.mode.live = true := h.mode.resolve_left hm
  have hruns : e.runsSettle i ↔ runs := by
    rw [State.runsSettle, h.gateKey, h.ownKey, h.part, ← e.gateEnds_state starts period i, ← ht]
  have hstarts (hr : runs) : starts = some (e.ownKey i) ↔ starting := by
    rw [hs.own_iff (by rw [h.ownKey]; exact hr.1), h.ownKey, h.self]
  obtain ⟨hstop, hstart, hkeep⟩ := State.gateTimers_settle hl starts period i
  rw [ht, (State.gateEnds_live hl starts period).settle]
  refine ⟨fun hr => hstop (mt hruns.mp hr), fun hr hst => ?_, fun hr hst => ?_⟩
  · rw [hstart (hruns.mpr hr) ((hstarts hr).mpr hst), h.now, h.part]
  · rw [hkeep (hruns.mpr hr) (mt (hstarts hr).mp hst), (h.timers hm).settle]

/-- R133: the gate timeout at the end of an application. -/
theorem GateTaken.gate (h : GateTaken s e a) (hm : e.mode ≠ .offline) (hs : e.GateStarts f a starts period)
    (hgate : ∀ k, a.admitted = some k → a.after.gate = some k) {t : State}
    (ht : t = (e.gateTimers starts period).conclude) :
    (∀ k, a.admitted = some k → k.station ≠ s.self → t.slotUnit.gate = some
      { key := k, deadline := s.now + (a.after.settleTime k + 100), period := a.after.settleTime k + 100 }) ∧
    (∀ k, s.CutsGate f a k → t.slotUnit.gate = some
      { key := k, deadline := s.now + (a.before.settleTime k + 100), period := a.before.settleTime k + 100 }) ∧
    ((∀ k, ¬ s.CutsGate f a k) → (∀ k, a.admitted = some k → k.station = s.self) →
      t.slotUnit.gate = s.slotUnit.gate.filter fun g => a.after.gate == some g.key) := by
  have hl : e.mode.live = true := h.mode.resolve_left hm
  have hend : t.slotUnit.gate = e.nextGateTimeout starts period := by
    rw [ht, (State.gateEnds_live hl starts period).gate, State.gateTimers_gate hl]
  have hstarted (k : Key) (hk : k.station ≠ s.self) (hg : a.after.gate = some k) (n : Nat)
      (heq : starts = some k ∧ period = n) :
      t.slotUnit.gate = some { key := k, deadline := s.now + n, period := n } := by
    obtain ⟨rfl, rfl⟩ := heq
    rw [hend, State.nextGateTimeout_starts (by rwa [h.self]) (by rw [h.gateKey, hg]), h.now]
  refine ⟨fun k hk hself => hstarted k hself (hgate k hk) _ (hs.of_admitted hk), fun k hk => ?_, fun hc hself => ?_⟩
  · obtain ⟨-, hg, hself, -⟩ := id hk
    exact hstarted k hself hg _ (hs.of_cut ((h.cutsGate_iff hm k).mpr hk))
  · have hown := hs.own_station (fun k hk => hc k ((h.cutsGate_iff hm k).mp hk))
      fun k hk => (hself k hk).trans h.self.symm
    rw [hend, State.nextGateTimeout_keeps hown, (h.timers hm).gate, h.gateKey]

end

/-- R132, R133: an application of a table-changing frame, and the gate timers behind it. -/
theorem applicationTimers {s : State} {f : Frame} {r : Replica} {rest : List Frame}
    {effect : Frame → Replica → OwnEffect} (h : s.Applies f r rest) (hf : s.InboundFits)
    (hk : tableEffect f.body.kind = some effect) :
    ∃ e starts period, exec (frameRow f.body.kind) s = .next (e.gateTimers starts period).conclude ∧
      GateTaken s e (r.apply (effect f)) ∧ e.GateStarts f (r.apply (effect f)) starts period := by
  have hsnapshot : f.body.kind ≠ .snapshot := fun hs => by
    rw [hs] at hk
    cases hk
  obtain ⟨hstraps, hconfig, hreplica, hnow, hstation, hunit, -⟩ := s.compared_frame f r rest
  have hmode : (s.compared f r rest).mode = s.mode := by rw [State.mode, hstation, State.mode]
  have hadmits : admits s.mode s.self f = true := hf f (by rw [h.head]; exact List.mem_cons_self ..)
  obtain ⟨e, htable, htaken⟩ := State.applyTable_taken (hreplica.trans h.holds) f effect s.history.entries.length
    (by rw [hmode]; exact mode_of_admits hadmits hsnapshot)
  obtain ⟨starts, period, hgate, hstarts⟩ := e.gateOutcome_starts f (r.apply (effect f))
  have hself : (s.compared f r rest).self = s.self := by rw [State.self, State.self, hstraps]
  refine ⟨e, starts, period, by rw [State.exec_table h hk, htable, hgate], ⟨htaken.replica, htaken.self.trans hself,
    htaken.now.trans hnow, fun i => (htaken.part i).trans ?_, htaken.mode, fun hm =>
    (SameTimers.of_slotUnit hunit).trans (htaken.timers hm)⟩, hstarts⟩
  rw [State.part, State.part, hconfig]

/-! A load. -/

/-- R132, R133: a load's own block starts the timers of the key that holds the gate. -/
theorem State.gateLoaded_eq (u : State) (r : Replica) :
    ∃ period, u.gateLoaded r = u.gateTimers r.gate period ∧ ∀ k, r.gate = some k → period = r.timeoutPeriod k := by
  unfold State.gateLoaded
  cases r.gate with
  | none => exact ⟨_, rfl, nofun⟩
  | some k => exact ⟨_, rfl, fun k' hk => by rw [Option.some.inj hk]⟩

theorem State.sequencerLoaded_sameTimers (u : State) : SameTimers u u.sequencerLoaded := .of_slotUnit (by simp)

theorem State.latchesLoaded_sameTimers {u : State} (hl : u.mode.live = true) : SameTimers u u.latchesLoaded := by
  refine ⟨?_, fun i => by rw [State.latchesLoaded_slot hl]⟩
  simp only [State.latchesLoaded]
  split <;> simp

/-- R98: behind the gate's block a load leaves the gate timers alone. -/
theorem State.loadEnds_sameTimers (s : State) (r : Replica) (n : Nat) :
    SameTimers ((s.loadTaken r).loadSlots.gateLoaded r) (s.loadEnds r n) := by
  have hlive := s.loadTables_live r
  have hmembers : SameTimers ((s.loadTaken r).loadSlots.gateLoaded r) (s.loadTables r) :=
    .of_slotUnit (by simp [State.loadTables])
  have hloaded : s.loadReplica r = (s.loadTables r).sequencerLoaded.latchesLoaded := s.loadReplica_eq r
  have hlatched : (s.loadReplica r).mode.live = true := by
    rw [hloaded]
    simpa [State.mode] using hlive
  have hsettled : ((s.loadReplica r).settleDown n).mode.live = true := by simpa [State.mode] using hlatched
  refine (hmembers.trans (State.sequencerLoaded_sameTimers _)).trans (SameTimers.trans (b := s.loadReplica r) ?_ ?_)
  · rw [hloaded]
    exact State.latchesLoaded_sameTimers hlive
  · exact (State.settleDown_sameTimers hlatched n).trans (State.conclude_sameTimers hsettled)

/-- R132, R133, R135: the gate timers behind a load. -/
theorem loadTimers {s : State} {r : Replica} {n : Nat} {t : State} (ht : t = s.loadEnds r n) :
    t.replica = some r ∧
    (∀ i, (t.slot i).settle =
      (if r.gate = some (s.ownKey i) ∧ (t.slot i).state ≠ .carried ∧ (s.part i).used = true then
        some (s.now + 2 * (s.part i).settle) else none)) ∧
    (∀ k, r.gate = some k → k.station ≠ s.self →
      t.slotUnit.gate = some { key := k, deadline := s.now + r.timeoutPeriod k, period := r.timeoutPeriod k }) ∧
    (r.gate = none → t.slotUnit.gate = none) := by
  have htaken := s.loadTaken_taken r
  obtain ⟨hstraps, hconfig, hnow, -⟩ := htaken.board
  have hsame := s.loadEnds_sameTimers r n
  rw [← ht] at hsame
  generalize hu : (s.loadTaken r).loadSlots = u at hsame
  obtain ⟨period, hloaded, hperiod⟩ := u.gateLoaded_eq r
  rw [hloaded] at hsame
  have hreplica : u.replica = some r := by simpa [← hu] using htaken.replica
  have hgate : u.gateKey = r.gate := by rw [State.gateKey, hreplica]; rfl
  have hself : u.self = s.self := by simp [← hu, State.self, hstraps]
  have hkey (i : SlotNo) : u.ownKey i = s.ownKey i := by simp only [State.ownKey, hself]
  have hpart (i : SlotNo) : u.part i = s.part i := by simp [← hu, State.part, hconfig]
  have hnow' : u.now = s.now := by simpa [← hu] using hnow
  have hlive : u.mode.live = true := by
    have hmode : u.mode = s.loadedMode r := by rw [← htaken.mode, ← hu]; simp [State.mode]
    rw [hmode]
    rcases s.loadedMode_cases r with hm | hm <;> rw [hm] <;> rfl
  have hstate (i : SlotNo) : (t.slot i).state = (u.slot i).state := by
    rw [ht, (s.loadEnds_slot r n i).1, ← hu]
    exact (s.loadTables_sameSlots r).state i
  refine ⟨by rw [ht, (s.loadEnds_frame r n).1]; exact (s.loadTables_loaded r).replica, fun i => ?_, fun k hk hk' => ?_,
    fun hk => ?_⟩
  · obtain ⟨hstop, hstart, -⟩ := State.gateTimers_settle hlive r.gate period i
    have hruns : u.runsSettle i ↔
        r.gate = some (s.ownKey i) ∧ (t.slot i).state ≠ .carried ∧ (s.part i).used = true := by
      rw [State.runsSettle, hgate, hkey, hpart, hstate]
    rw [hsame.settle]
    by_cases hr : u.runsSettle i
    · rw [if_pos (hruns.mp hr), hstart hr (by rw [hkey]; exact (hruns.mp hr).1), hnow', hpart]
    · rw [if_neg (mt hruns.mpr hr), hstop hr]
  · rw [hsame.gate, State.gateTimers_gate hlive, hk,
      State.nextGateTimeout_starts (by rwa [hself]) (by rw [hgate, hk]), hnow', hperiod k hk]
  · rw [hsame.gate, State.gateTimers_gate hlive, hk, State.nextGateTimeout_keeps (by nofun), hgate, hk]
    cases u.slotUnit.gate <;> rfl

/-- R98: the row of a snapshot that a JOINING or TAINTED station loads. -/
theorem State.exec_snapshot_loads {s : State} {f : Frame} {rest : List Frame} {epoch : Half} {image : List Byte}
    {r : Replica} (hq : s.link.inbound = f :: rest) (hp : s.port.due = false) (hl : s.link.late = [])
    (hb : f.body = .snapshot (byteOf s.self.val) epoch image) (hm : s.mode = .joining ∨ s.mode = .tainted)
    (hr : Replica.ofImage epoch image f.epoch f.digest = some r) :
    exec .snapshotFrame s = .next ((s.withRest rest).loadEnds r s.history.entries.length) := by
  rw [State.exec_snapshot hp hl, State.snapshotFrame_loads hq hb hm, State.loadSnapshot, hr]
  rfl

/-- Settles O57: every block but the gate's own leaves the gate timers alone (`SameTimers`). -/
theorem settleAndGateTimers : Obligations.SettleAndGateTimers := by
  refine ⟨fun s hs => ⟨fun i d h => ?_, fun g h => ?_⟩, fun s f r rest effect h hf hk => ?_,
    fun s f rest epoch image r hq hp hl hb hm hr => ?_⟩
  · have hset (x : Option Nat) := ((hs.advanceTo d).setSettle ((s.advanceTo_settle d i).trans h) x).conclude
    refine ⟨fun hm hl => ?_, fun hm => ?_, settleTimerDrops hs h⟩
    · have hlane : (s.advanceTo d).link = s.link := by simp
      have hroom : (s.advanceTo d).generalRoom = true := by
        rw [State.generalRoom, hlane]
        exact decide_eq_true hl
      have hpushed := ((hs.advanceTo d).setLink { s.link with
        general := s.link.general ++ [.fixed (.settled (s.ownKey i) true)] }).setSettle (i := i) (d := d)
          ((s.advanceTo_settle d i).trans h) none
      have hkey : (s.advanceTo d).ownKey i = s.ownKey i := by simp only [State.ownKey, State.advanceTo_self]
      rw [State.exec_settleTimer h, State.slotSettled, s.advanceTo_mode, if_pos hm, if_pos hroom, State.pushGeneral, hlane,
        hkey, hpushed.conclude]
      rfl
    · rw [State.exec_settleTimer h, State.slotSettled, s.advanceTo_mode, if_neg hm, State.restartSettle, hset,
        s.advanceTo_now, s.advanceTo_part]
      rfl
  · have hu := hs.advanceTo g.deadline
    have hlane : (s.advanceTo g.deadline).link = s.link := by simp
    refine ⟨fun hm hq => ?_, fun hm hq hl => ?_, gateTimeoutDrops hs h, fun hm => ?_⟩
    · rw [State.exec_gateTimeout h, State.gateExpires, s.advanceTo_mode, if_pos hm, s.advanceTo_inGeneral, if_pos hq,
        (hu.setGate _).conclude]
      rfl
    · have hroom : (s.advanceTo g.deadline).generalRoom = true := by
        rw [State.generalRoom, hlane]
        exact decide_eq_true hl
      rw [State.exec_gateTimeout h, State.gateExpires, s.advanceTo_mode, if_pos hm, s.advanceTo_inGeneral, hq,
        if_neg (by decide), if_pos hroom, State.pushGeneral, hlane, (State.Settled.setGate (hu.setLink _) _).conclude]
      rfl
    · rw [State.exec_gateTimeout h, State.gateExpires, s.advanceTo_mode, if_neg hm, State.restartGate,
        (hu.setGate _).conclude, State.gateTimeoutFor, s.advanceTo_now]
      rfl
  · obtain ⟨e, starts, period, hexec, htaken, hstarts⟩ := applicationTimers h hf hk
    have hmode : (e.gateTimers starts period).conclude.mode = e.mode := by simp [State.mode]
    refine ⟨_, hexec, Eq.trans (by simp) htaken.replica, fun hm => ?_, fun hm => ?_⟩
    · exact State.gateEnds_dead (by rw [← hmode, hm]; rfl) starts period
    · rw [hmode] at hm
      obtain ⟨hadmitted, hcut, hrest⟩ := htaken.gate hm hstarts (fun k hk => Replica.apply_admitted hk) rfl
      exact ⟨fun i => htaken.settle hm hstarts i rfl, hadmitted, hcut, hrest⟩
  · obtain ⟨hreplica, hsettle, hgate, hnone⟩ := loadTimers (s := s.withRest rest) (r := r)
      (n := s.history.entries.length) rfl
    refine ⟨_, State.exec_snapshot_loads hq hp hl hb hm hr, hreplica, hsettle, hgate, hnone⟩

end Sys2Proof.Machine
end

section
/-! The applications that change no table: PRESENCE, SYNC_REQUEST and SNAPSHOT (R82, R92, R96, R97). -/

namespace Sys2Proof.Machine

/-! The fault counters climb (R149). -/

/-- From s to t no fault counter that stands within its byte has fallen. -/
def Climbs (s t : State) : Prop := ∀ (k : FaultKind) (m : Nat), m ≤ 255 → m ≤ s.counter k → m ≤ t.counter k

theorem Climbs.of_fault {s t : State} (h : t.fault = s.fault) : Climbs s t := fun k m _ hm => by
  rwa [State.counter, h]

theorem Climbs.refl (s : State) : Climbs s s := .of_fault rfl

theorem Climbs.trans {a b c : State} (h : Climbs a b) (g : Climbs b c) : Climbs a c :=
  fun k m hm ha => g k m hm (h k m hm ha)

theorem Climbs.foldl {α : Type} {f : State → α → State} (hf : ∀ s a, Climbs s (f s a)) (l : List α) (s : State) :
    Climbs s (l.foldl f s) :=
  foldl_keeps (P := Climbs s) (f := f) (fun u a h => h.trans (hf u a)) l (.refl s)

theorem State.captureQuiet_climbs (s : State) (kind : FaultKind) (u : Subject) (f : Option FrameKind) :
    Climbs s (s.captureQuiet kind u f) := by
  intro k m hm hs
  rw [State.captureQuiet_counter]
  split
  · exact le_min hm (Nat.le_succ_of_le hs)
  · exact hs

theorem State.post_climbs (s : State) (c : NoticeContent) : Climbs s (s.post c) := by
  unfold State.post
  split
  · exact .of_fault rfl
  · exact Climbs.trans (.of_fault rfl) (State.captureQuiet_climbs _ _ _ _)

theorem State.capture_climbs (s : State) (kind : FaultKind) (u : Subject) (f : Option FrameKind) :
    Climbs s (s.capture kind u f) := (s.captureQuiet_climbs kind u f).trans (State.post_climbs _ _)

theorem State.autoUrgent_climbs (s : State) (b : Body) : Climbs s (s.autoUrgent b) := by
  unfold State.autoUrgent
  split
  · exact .of_fault rfl
  · exact s.capture_climbs _ _ _

theorem State.autoGeneral_climbs (s : State) (q : Queued) : Climbs s (s.autoGeneral q) := by
  unfold State.autoGeneral
  split
  · exact .of_fault rfl
  · exact s.capture_climbs _ _ _

theorem State.releaseAgain_climbs (s : State) (i : SlotNo) : Climbs s (s.releaseAgain i) := by
  unfold State.releaseAgain
  split
  · exact s.autoGeneral_climbs _
  · exact .refl s

theorem State.testStuckClear_climbs (s : State) (i : SlotNo) : Climbs s (s.testStuckClear i) := by
  unfold State.testStuckClear
  split
  · split
    · exact .of_fault (by simp)
    · exact (s.capture_climbs .outboundFull .none (some .stuckClear)).trans (.of_fault (by simp))
  · exact .refl s

theorem State.slotTests_climbs (s : State) : Climbs s s.slotTests :=
  (Climbs.foldl State.releaseAgain_climbs allSlots s).trans (Climbs.foldl State.testStuckClear_climbs allSlots _)

theorem State.refreshSlots_climbs (s : State) : Climbs s s.refreshSlots :=
  Climbs.trans (.of_fault rfl) (Climbs.foldl (fun (t : State) i => t.capture_climbs .unclaimedDraw (.slot i) none)
    s.episodes (s.setSlots (mapSlots s.refreshed s.slotUnit.slots)))

theorem State.conclude_climbs (s : State) : Climbs s s.conclude := s.refreshSlots_climbs.trans (.of_fault rfl)

theorem State.settleDown_climbs (s : State) (n : Nat) : Climbs s (s.settleDown n) :=
  (s.slotTests_climbs.trans s.slotTests.refreshSlots_climbs).trans (.of_fault rfl)

theorem State.checkAbandon_climbs (s : State) : Climbs s s.checkAbandon := by
  unfold State.checkAbandon State.abandon
  (repeat' split)
  · exact Climbs.trans (.of_fault (by simp)) (State.post_climbs _ _)
  · exact .refl s
  · exact .refl s

theorem State.startLockout_climbs (s : State) : Climbs s s.startLockout :=
  Climbs.trans (.of_fault (t := s.toIdle.setCrank _) (by simp)) (State.post_climbs _ _)

/-- R60: the test enters LOCKOUT, or changes nothing. -/
theorem State.checkLockout_cases (s : State) : s.checkLockout = s.startLockout ∨ s.checkLockout = s := by
  unfold State.checkLockout
  exact ite_eq_or_eq _ _ _

theorem State.checkLockout_climbs (s : State) : Climbs s s.checkLockout := by
  rcases s.checkLockout_cases with h | h <;> rw [h]
  · exact s.startLockout_climbs
  · exact .refl s

theorem State.pullShed_climbs (s : State) (second : Bool) : Climbs s (s.pullShed second) := by
  have hrequest {u : State} (hu : u.fault = s.fault) (b : Bool) (body : Body) :
      Climbs s (if b then u.autoUrgent body else u) := by
    split
    · exact (Climbs.of_fault hu).trans (u.autoUrgent_climbs body)
    · exact .of_fault hu
  simp only [State.pullShed]
  split
  · exact hrequest (by simp) _ _
  · exact hrequest (by simp) _ _

theorem State.fire_climbs (s : State) (second : Bool) (v : EvalValue) : Climbs s (s.fire second v) := by
  have hnoticed (b : Bool) (e : HistEvent) (c : NoticeContent) :
      Climbs s (if b then (s.record e).post c else s.record e) := by
    split
    · exact Climbs.trans (.of_fault (t := s.record e) rfl) (State.post_climbs _ _)
    · exact .of_fault rfl
  have hpulled (u : State) (b : Bool) : Climbs u (if b then u.pullShed second else u) := by
    split
    · exact u.pullShed_climbs second
    · exact .refl u
  have hfrozen (u : State) (b : Bool) : Climbs u (if b then u.freeze else u) := by
    split <;> exact .of_fault (by simp)
  have hmoved (u : State) (w : WatchUnit) :
      Climbs u (if second then u.setUnit second w else (u.setUnit second w).armSecond) := by
    split <;> exact .of_fault (by simp)
  simp only [State.fire]
  exact (((hnoticed _ _ _).trans (hpulled _ _)).trans (hfrozen _ _)).trans (hmoved _ _)

theorem State.evaluate_climbs (s : State) (second : Bool) (o : Option EvalValue) : Climbs s (s.evaluate second o).1 := by
  simp only [State.evaluate]
  split
  · split
    · split
      · exact s.fire_climbs second _
      · exact .of_fault (by simp)
    · split
      · exact .of_fault (by simp)
      · exact .refl s
  · exact .refl s

theorem State.offer_climbs (s : State) (a b : Bool) (values : WatchSource → Option EvalValue) :
    Climbs s (s.offer a b values) := by
  have hsecond {u : State} (hu : Climbs s u) (c : Bool) (o : Option EvalValue) :
      Climbs s (if c then (u.evaluate true o).1 else u) := by
    split
    · exact hu.trans (u.evaluate_climbs true o)
    · exact hu
  simp only [State.offer]
  split
  · exact hsecond (s.evaluate_climbs false _) _ _
  · exact hsecond (.refl s) _ _

theorem State.watchEvent_climbs (s : State) (values : WatchSource → Option EvalValue) :
    Climbs s (s.watchEvent values) := by
  simp only [State.watchEvent]
  split
  · split
    · exact (s.offer_climbs _ _ _).trans (State.offer_climbs _ _ _ _)
    · exact s.offer_climbs _ _ _
  · exact .refl s

theorem State.evaluated_climbs (s : State) (n : Nat) (f : Frame) (phase : Option Phase) :
    Climbs s (s.evaluated n f phase) :=
  ((s.checkAbandon_climbs.trans (State.checkLockout_climbs _)).trans (State.settleDown_climbs _ n)).trans
    (State.watchEvent_climbs _ _)

/-! The general lane behind an application (R122, R129). -/

/-- From s to t fixed frames alone have joined the general lane, and none at a full one. -/
def GrowsFixed (s t : State) : Prop :=
  ∃ l, t.link.general = s.link.general ++ l ∧ (∀ q ∈ l, ∃ b, q = .fixed b) ∧ (s.link.general.length = 6 → l = [])

theorem GrowsFixed.of_general {s t : State} (h : t.link.general = s.link.general) : GrowsFixed s t :=
  ⟨[], by rw [h, List.append_nil], nofun, fun _ => rfl⟩

theorem GrowsFixed.refl (s : State) : GrowsFixed s s := .of_general rfl

theorem GrowsFixed.trans {a b c : State} (h : GrowsFixed a b) (g : GrowsFixed b c) : GrowsFixed a c := by
  obtain ⟨l, hb, hl, hfull⟩ := h
  obtain ⟨l', hc, hl', hfull'⟩ := g
  refine ⟨l ++ l', by rw [hc, hb, List.append_assoc], fun q hq => (List.mem_append.mp hq).elim (hl q) (hl' q), fun ha => ?_⟩
  rw [hfull ha, hfull' (by rw [hb, hfull ha, List.append_nil, ha]), List.append_nil]

theorem GrowsFixed.foldl {α : Type} {f : State → α → State} (hf : ∀ s a, GrowsFixed s (f s a)) (l : List α) (s : State) :
    GrowsFixed s (l.foldl f s) :=
  foldl_keeps (P := GrowsFixed s) (f := f) (fun u a h => h.trans (hf u a)) l (.refl s)

theorem GrowsFixed.push {s t : State} {b : Body} (h : s.link.general.length < 6)
    (ht : t.link.general = s.link.general ++ [.fixed b]) : GrowsFixed s t :=
  ⟨[.fixed b], ht, fun q hq => ⟨b, List.mem_singleton.mp hq⟩, fun hl => by omega⟩

theorem State.releaseAgain_growsFixed (s : State) (i : SlotNo) : GrowsFixed s (s.releaseAgain i) := by
  unfold State.releaseAgain State.autoGeneral
  split
  · split
    · rename_i hroom
      exact .push (of_decide_eq_true hroom) rfl
    · exact .of_general (by simp)
  · exact .refl s

theorem State.testStuckClear_growsFixed (s : State) (i : SlotNo) : GrowsFixed s (s.testStuckClear i) := by
  unfold State.testStuckClear
  split
  · split
    · rename_i hroom
      exact .push (of_decide_eq_true hroom) rfl
    · exact .of_general (by simp)
  · exact .refl s

theorem State.slotTests_growsFixed (s : State) : GrowsFixed s s.slotTests :=
  (GrowsFixed.foldl State.releaseAgain_growsFixed allSlots s).trans
    (GrowsFixed.foldl State.testStuckClear_growsFixed allSlots _)

theorem State.evaluated_growsFixed (s : State) (n : Nat) (f : Frame) (phase : Option Phase) :
    GrowsFixed s (s.evaluated n f phase).conclude := by
  have hcrank : GrowsFixed s s.checkAbandon.checkLockout := .of_general (by simp)
  exact (hcrank.trans (State.slotTests_growsFixed _)).trans
    (.of_general (by simp [State.evaluated, State.ended, State.settleDown, State.offerApplication]))

/-- R97: the answers that wait are SNAPSHOTs, and the tests of the slot unit queue none. -/
theorem GrowsFixed.answers {s t : State} (h : GrowsFixed s t) (p : Station) :
    (t.link.general.filter fun q => q == .snapshot p) = s.link.general.filter fun q => q == .snapshot p := by
  obtain ⟨l, ht, hl, -⟩ := h
  have hnone : (l.filter fun q => q == .snapshot p) = [] := by
    refine List.filter_eq_nil_iff.mpr fun q hq => ?_
    obtain ⟨b, rfl⟩ := hl q hq
    simp
  rw [ht, List.filter_append, hnone, List.append_nil]

/-! The rows. -/

/-- R80: the row of a frame that changes no table. -/
theorem State.plainFrame_applies {s : State} {f : Frame} {r : Replica} {rest : List Frame} (h : s.Applies f r rest)
    (take : State → Frame → State) : s.plainFrame f.body.kind take =
      ((take (s.compared f r rest) f).evaluated s.history.entries.length f none).conclude := by
  rw [State.plainFrame, State.applyHead, h.head]
  dsimp only
  rw [if_pos rfl]
  have happlied := State.applyFrame_taken h fun u n => (take u f).evaluated n f none
  rw [State.withRest] at happlied
  rw [happlied]

theorem State.exec_presence {s : State} {f : Frame} {r : Replica} {rest : List Frame} (h : s.Applies f r rest)
    (hk : f.body.kind = .presence) : exec .presenceFrame s = .next
      (((s.compared f r rest).takePresence f).evaluated s.history.entries.length f none).conclude := by
  rw [← State.plainFrame_applies h, hk]
  have hrow : exec .presenceFrame s = .next (s.applyRow .presence) := rfl
  rw [hrow, State.applyRow_alone s _ h.alone, State.application_quiet s _ h.quiet]
  rfl

theorem State.exec_syncRequest {s : State} {f : Frame} {r : Replica} {rest : List Frame} (h : s.Applies f r rest)
    (hk : f.body.kind = .syncRequest) : exec .syncRequestFrame s = .next
      (((s.compared f r rest).takeSyncRequest f).evaluated s.history.entries.length f none).conclude := by
  rw [← State.plainFrame_applies h, hk]
  have hrow : exec .syncRequestFrame s = .next (s.applyRow .syncRequest) := rfl
  rw [hrow, State.applyRow_alone s _ h.alone, State.application_quiet s _ h.quiet]
  rfl

/-- R97: a SNAPSHOT at a station that loads none. -/
theorem State.exec_snapshot_applies {s : State} {f : Frame} {r : Replica} {rest : List Frame} (h : s.Applies f r rest)
    (hk : f.body.kind = .snapshot) (hj : s.mode ≠ .joining) (ht : s.mode ≠ .tainted) : exec .snapshotFrame s = .next
      (((s.compared f r rest).takeSnapshot f).evaluated s.history.entries.length f none).conclude := by
  rw [State.exec_snapshot h.alone h.quiet, State.snapshotFrame, State.applyHead, h.head]
  dsimp only
  rw [if_pos hk]
  have hmode : (s.setLink { s.link with inbound := rest }).mode = s.mode := rfl
  have happlied := State.applyFrame_taken h fun u n => (u.takeSnapshot f).evaluated n f none
  rw [State.withRest] at happlied
  rw [hmode]
  split
  · exact absurd ‹s.mode = .joining› hj
  · exact absurd ‹s.mode = .tainted› ht
  · rw [happlied]

/-- What an application that changes no table leaves. -/
theorem State.evaluatedEnds_frame (u : State) (n : Nat) (f : Frame) :
    (u.evaluated n f none).conclude.replica = u.replica ∧ (u.evaluated n f none).conclude.mode = u.mode ∧
      (u.evaluated n f none).conclude.link.inbound = u.link.inbound ∧
      (u.evaluated n f none).conclude.members = u.members := by
  simp [State.mode]

/-! PRESENCE (R82, R92). -/

theorem State.withRest_peer (s : State) (rest : List Frame) (n : Station) : (s.withRest rest).peer n = s.peer n := rfl

/-- R92: what the comparison makes of a peer's record. -/
theorem State.compared_peer (s : State) (f : Frame) (r : Replica) (rest : List Frame) (n : Station) :
    (s.compared f r rest).peer n = if f.verdict s.mode s.self r = .differs ∧ n = f.sender then
      { s.peer n with disagree := Nat.min 255 ((s.peer n).disagree + 1) } else s.peer n := by
  rw [State.compared]
  by_cases hv : f.verdict s.mode s.self r = .differs
  · rw [if_pos hv, State.raiseDisagree, State.changePeer_peer, s.withRest_peer]
    simp only [hv, true_and]
  · rw [if_neg hv, if_neg fun hc => hv hc.1, s.withRest_peer]

/-- R82: what a PRESENCE makes of a peer's record. -/
theorem State.takePresence_peer {s : State} {f : Frame} {state sample : Byte} (h : f.body = .presence state sample)
    (n : Station) : (s.takePresence f).peer n = if n = f.sender then
      { s.peer n with presence := (match StationState.ofCode state.toNat with
        | some st => some (st, sample)
        | none => (s.peer n).presence) } else s.peer n := by
  simp only [State.takePresence, h]
  cases StationState.ofCode state.toNat with
  | some st =>
    dsimp only
    rw [State.changePeer_peer]
  | none => exact (ite_self _).symm

@[simp] theorem State.takePresence_frame (s : State) (f : Frame) :
    (s.takePresence f).replica = s.replica ∧ (s.takePresence f).station = s.station ∧
      (s.takePresence f).link = s.link := by
  unfold State.takePresence
  (repeat' split) <;> simp

theorem presenceApplies {s : State} {f : Frame} {r : Replica} {rest : List Frame} {state sample : Byte}
    (h : s.Applies f r rest) (hb : f.body = .presence state sample) :
    ∃ t, exec .presenceFrame s = .next t ∧ t.replica = some r ∧ t.mode = s.mode ∧ t.link.inbound = rest ∧
      (t.peer f.sender).presence = (match StationState.ofCode state.toNat with
        | some st => some (st, sample)
        | none => (s.peer f.sender).presence) ∧
      (t.peer f.sender).disagree = (if f.verdict s.mode s.self r = .differs then
        Nat.min 255 ((s.peer f.sender).disagree + 1) else (s.peer f.sender).disagree) ∧
      ∀ n, n ≠ f.sender → t.peer n = s.peer n := by
  obtain ⟨hreplica, hstation, hlink⟩ := (s.compared f r rest).takePresence_frame f
  obtain ⟨-, -, hreplica', -, hstation', -, -, hlink'⟩ := s.compared_frame f r rest
  obtain ⟨hr, hm, hi, hmembers⟩ := ((s.compared f r rest).takePresence f).evaluatedEnds_frame s.history.entries.length f
  have hpeer (n : Station) := (State.peer_of_members hmembers n).trans
    ((State.takePresence_peer hb n).trans (by rw [s.compared_peer f r rest n]))
  refine ⟨_, State.exec_presence h (by rw [hb]; rfl), ?_, ?_, ?_, ?_, ?_, fun n hn => ?_⟩
  · rw [hr, hreplica, hreplica', h.holds]
  · rw [hm, State.mode, hstation, hstation', State.mode]
  · rw [hi, hlink, hlink']
  · rw [hpeer, if_pos rfl]
    cases StationState.ofCode state.toNat with
    | some st => rfl
    | none =>
      dsimp only
      split <;> rfl
  · rw [hpeer, if_pos rfl]
    simp only [and_true]
    split <;> rfl
  · rw [hpeer, if_neg hn, if_neg fun hc => hn hc.2]

/-! SYNC_REQUEST (R96). -/

@[simp] theorem State.takeSyncRequest_frame (s : State) (f : Frame) :
    (s.takeSyncRequest f).replica = s.replica ∧ (s.takeSyncRequest f).station = s.station ∧
      (s.takeSyncRequest f).link.inbound = s.link.inbound := by
  simp only [State.takeSyncRequest]
  (repeat' split) <;> simp

/-- The answers to a requester that wait in the general lane. -/
def State.answersTo (s : State) (p : Station) : List Queued := s.link.general.filter fun q => q == .snapshot p

theorem State.inGeneral_snapshot (s : State) (p : Station) :
    (s.inGeneral fun q => q == .snapshot p) = true ↔ s.answersTo p ≠ [] := by
  rw [State.answersTo, Ne, List.filter_eq_nil_iff, State.inGeneral, List.any_eq_true]
  simp

/-- R96: a station that is not MEMBER, or whose lane holds the answer, queues none. -/
theorem State.takeSyncRequest_keeps {s : State} {f : Frame} (h : s.mode ≠ .member ∨ s.answersTo f.sender ≠ []) :
    (s.takeSyncRequest f).link = s.link := by
  unfold State.takeSyncRequest
  split
  · split
    · rename_i hm
      have hthere := (s.inGeneral_snapshot f.sender).mpr (h.resolve_left (not_not_intro hm))
      dsimp only
      rw [if_pos]
      · rfl
      · exact hthere
    · rfl
  · rfl

/-- R96: a MEMBER without an answer in its lane queues one. -/
theorem State.takeSyncRequest_asks {s : State} {f : Frame} {theirs : Half} (hb : f.body = .syncRequest theirs)
    (hm : s.mode = .member) (ha : s.answersTo f.sender = []) :
    s.takeSyncRequest f = (s.record (.syncRequest f.sender theirs (s.epoch.getD 0))).autoGeneral (.snapshot f.sender) := by
  have hnone : ¬ ((s.record (.syncRequest f.sender theirs (s.epoch.getD 0))).inGeneral
      fun q => q == .snapshot f.sender) = true := fun hc => (s.inGeneral_snapshot f.sender).mp hc ha
  simp only [State.takeSyncRequest, hb, hm, if_true]
  exact if_neg hnone

theorem State.takeSyncRequest_room {s : State} {f : Frame} {theirs : Half} (hb : f.body = .syncRequest theirs)
    (hm : s.mode = .member) (ha : s.answersTo f.sender = []) (hl : s.link.general.length < 6) :
    (s.takeSyncRequest f).link.general = s.link.general ++ [.snapshot f.sender] := by
  rw [State.takeSyncRequest_asks hb hm ha, State.autoGeneral_room
    (s := s.record (.syncRequest f.sender theirs (s.epoch.getD 0))) hl]
  rfl

theorem State.takeSyncRequest_full {s : State} {f : Frame} {theirs : Half} (hb : f.body = .syncRequest theirs)
    (hm : s.mode = .member) (ha : s.answersTo f.sender = []) (hl : s.link.general.length = 6) :
    s.takeSyncRequest f = (s.record (.syncRequest f.sender theirs (s.epoch.getD 0))).capture .outboundFull .none
      (some .snapshot) := by
  rw [State.takeSyncRequest_asks hb hm ha, State.autoGeneral_full
    (s := s.record (.syncRequest f.sender theirs (s.epoch.getD 0))) hl]
  rfl

theorem State.takeSyncRequest_prefix (s : State) (f : Frame) :
    s.link.general <+: (s.takeSyncRequest f).link.general := by
  simp only [State.takeSyncRequest, State.autoGeneral]
  split
  · split
    · split
      · exact List.prefix_rfl
      · split
        · exact List.prefix_append _ _
        · simp
    · exact List.prefix_rfl
  · exact List.prefix_rfl

/-- R70, R96: a full lane drops the answer, and what the application does behind it keeps the capture. -/
theorem syncAnswerDropped {s : State} {f : Frame} {r : Replica} {rest : List Frame} {theirs : Half}
    (h : s.Applies f r rest) (hb : f.body = .syncRequest theirs) (hm : s.mode = .member) (ha : s.answersTo f.sender = [])
    (hl : s.link.general.length = 6) (n : Nat) {t : State}
    (ht : t = (((s.compared f r rest).takeSyncRequest f).evaluated n f none).conclude) :
    t.link.general = s.link.general ∧ Nat.min 255 (s.counter .outboundFull + 1) ≤ t.counter .outboundFull ∧
      (s.fault.lock = false → t.fault.record = some
        { kind := .outboundFull, subject := .none, frame := some .snapshot, epoch := some r.epoch, stamp := s.stamp }) := by
  obtain ⟨-, -, hreplica, hnow, hstation, -, hfault, hlink⟩ := s.compared_frame f r rest
  have hgeneral : (s.compared f r rest).link.general = s.link.general := by rw [hlink]
  have hmode : (s.compared f r rest).mode = .member := by rw [State.mode, hstation]; exact hm
  have hfull := State.takeSyncRequest_full hb hmode (by rw [State.answersTo, hgeneral]; exact ha) (by rw [hgeneral, hl])
  generalize hu : (s.compared f r rest).record (.syncRequest f.sender theirs ((s.compared f r rest).epoch.getD 0)) = u
    at hfull
  have hlane : u.link.general = s.link.general := by rw [← hgeneral, ← hu]; rfl
  have hunfault : u.fault = s.fault := by rw [← hfault, ← hu]; rfl
  have hepoch : u.epoch = some r.epoch := by
    have hrep : u.replica = some r := by rw [← h.holds, ← hreplica, ← hu]; rfl
    rw [State.epoch, hrep]
    rfl
  have hstamp : u.stamp = s.stamp := by
    have hclock : u.now = s.now := by rw [← hnow, ← hu]; rfl
    rw [State.stamp, hclock, State.stamp]
  rw [hfull] at ht
  generalize hv : u.capture .outboundFull .none (some .snapshot) = v at ht
  have hgrows : GrowsFixed v t := ht ▸ v.evaluated_growsFixed n f none
  have hclimbs : Climbs v t := ht ▸ (v.evaluated_climbs n f none).trans (State.conclude_climbs _)
  have hcounter : v.counter .outboundFull = Nat.min 255 (s.counter .outboundFull + 1) := by
    rw [← hv, State.capture_counter_at _ _ _ _ (by decide), if_pos rfl, State.counter, hunfault]
    rfl
  refine ⟨?_, hclimbs _ _ (Nat.min_le_left _ _) hcounter.ge, fun hlock => ?_⟩
  · obtain ⟨l, hlist, -, hnone⟩ := hgrows
    have hsame : v.link.general = s.link.general := by rw [← hlane, ← hv]; simp
    rw [hlist, hnone (by rw [hsame, hl]), List.append_nil, hsame]
  · have hrecord := State.capture_record (s := u) (by rw [hunfault, hlock]) .outboundFull .none (some .snapshot)
    rw [hv, hepoch, hstamp] at hrecord
    obtain ⟨hlocked, hheld⟩ := hrecord
    have hkept : Steady v t := by
      rw [ht]
      simp [Steady.refl]
    rw [(hkept.fault hlocked).2, hheld]

theorem syncRequestApplies {s : State} {f : Frame} {r : Replica} {rest : List Frame} {theirs : Half}
    (h : s.Applies f r rest) (hb : f.body = .syncRequest theirs) :
    ∃ t, exec .syncRequestFrame s = .next t ∧ t.replica = some r ∧ t.mode = s.mode ∧ t.link.inbound = rest ∧
      s.link.general <+: t.link.general ∧
      (s.mode = .member → s.answersTo f.sender = [] → s.link.general.length < 6 →
        s.link.general ++ [.snapshot f.sender] <+: t.link.general ∧ t.answersTo f.sender = [.snapshot f.sender]) ∧
      (s.mode = .member → s.answersTo f.sender = [] → s.link.general.length = 6 → t.link.general = s.link.general ∧
        Nat.min 255 (s.counter .outboundFull + 1) ≤ t.counter .outboundFull ∧
        (s.fault.lock = false → t.fault.record = some
          { kind := .outboundFull, subject := .none, frame := some .snapshot, epoch := some r.epoch, stamp := s.stamp })) ∧
      (s.mode ≠ .member ∨ s.answersTo f.sender ≠ [] → t.answersTo f.sender = s.answersTo f.sender) := by
  obtain ⟨-, -, hreplica', -, hstation', -, -, hlink'⟩ := s.compared_frame f r rest
  have hgeneral : (s.compared f r rest).link.general = s.link.general := by rw [hlink']
  have hmode : (s.compared f r rest).mode = s.mode := by rw [State.mode, hstation', State.mode]
  have hanswers : (s.compared f r rest).answersTo f.sender = s.answersTo f.sender := by
    rw [State.answersTo, hgeneral, State.answersTo]
  obtain ⟨hreplica, hstation, hinbound⟩ := (s.compared f r rest).takeSyncRequest_frame f
  obtain ⟨hr, hm, hi, -⟩ := ((s.compared f r rest).takeSyncRequest f).evaluatedEnds_frame s.history.entries.length f
  have hgrows := ((s.compared f r rest).takeSyncRequest f).evaluated_growsFixed s.history.entries.length f none
  have hprefix : ((s.compared f r rest).takeSyncRequest f).link.general <+:
      (((s.compared f r rest).takeSyncRequest f).evaluated s.history.entries.length f none).conclude.link.general := by
    obtain ⟨l, ht, -⟩ := hgrows
    exact ⟨l, ht.symm⟩
  refine ⟨_, State.exec_syncRequest h (by rw [hb]; rfl), by rw [hr, hreplica, hreplica', h.holds], ?_, ?_, ?_,
    fun hmem ha hl => ?_, fun hmem ha hl => syncAnswerDropped h hb hmem ha hl _ rfl, fun hk => ?_⟩
  · rw [hm, State.mode, hstation, ← hmode, State.mode]
  · rw [hi, hinbound, hlink']
  · exact hgeneral ▸ (State.takeSyncRequest_prefix _ f).trans hprefix
  · have hroom := State.takeSyncRequest_room hb (hmode.trans hmem) (hanswers.trans ha) (by rw [hgeneral]; exact hl)
    rw [hgeneral] at hroom
    refine ⟨hroom ▸ hprefix, (hgrows.answers f.sender).trans ?_⟩
    rw [hroom, List.filter_append]
    change s.answersTo f.sender ++ _ = _
    rw [ha]
    simp
  · have hkept := State.takeSyncRequest_keeps (s := s.compared f r rest) (f := f) (by rwa [hmode, hanswers])
    refine (hgrows.answers f.sender).trans ?_
    rw [hkept]
    exact hanswers

/-! SNAPSHOT (R97). -/

theorem State.takeSnapshot_other {s : State} {f : Frame} {b : Byte} {epoch : Half} {image : List Byte} {p : Station}
    (hb : f.body = .snapshot b epoch image) (hp : stationOf b = some p) (hself : p ≠ s.self) :
    s.takeSnapshot f = s.withdrawGeneral fun q => q == .snapshot p := by
  simp [State.takeSnapshot, hb, hp, hself]

/-- R70, R97: what is withdrawn from a lane stands nowhere in it, but for the frame in transmission. -/
theorem withdrawFrom_clears (inTx : Bool) (p : Queued → Bool) (lane l : List Queued) (hl : ∀ q ∈ l, p q = false) :
    ∀ q ∈ (if inTx then (withdrawFrom inTx p lane ++ l).tail else withdrawFrom inTx p lane ++ l), p q = false := by
  have hkept (m : List Queued) : ∀ q ∈ m.filter (fun q => !p q) ++ l, p q = false := by
    intro q hq
    rcases List.mem_append.mp hq with hq | hq
    · simpa using (List.mem_filter.mp hq).2
    · exact hl q hq
  cases inTx with
  | false =>
    cases lane with
    | nil => simpa [withdrawFrom] using hl
    | cons q lane => simpa [withdrawFrom] using hkept (q :: lane)
  | true =>
    cases lane with
    | nil =>
      simp only [withdrawFrom, List.filter_nil, List.nil_append, if_true]
      exact fun q hq => hl q (List.mem_of_mem_tail hq)
    | cons q lane => simpa [withdrawFrom] using hkept lane

theorem snapshotWithdraws {s : State} {f : Frame} {r : Replica} {rest : List Frame} {b : Byte} {epoch : Half}
    {image : List Byte} {p : Station} (h : s.Applies f r rest) (hb : f.body = .snapshot b epoch image)
    (hp : stationOf b = some p) (hself : p ≠ s.self) (hj : s.mode ≠ .joining) (ht : s.mode ≠ .tainted) :
    ∃ t, exec .snapshotFrame s = .next t ∧ t.replica = some r ∧ t.mode = s.mode ∧
      withdrawFrom (s.link.sending .general) (fun q => q == .snapshot p) s.link.general <+: t.link.general ∧
      ∀ q ∈ (if s.link.sending .general then t.link.general.tail else t.link.general), q ≠ .snapshot p := by
  obtain ⟨hstraps, -, hreplica, -, hstation, -, -, hlink⟩ := s.compared_frame f r rest
  have hown : (s.compared f r rest).self = s.self := by rw [State.self, hstraps, State.self]
  have hwithdrawn : ((s.compared f r rest).takeSnapshot f).link.general =
      withdrawFrom (s.link.sending .general) (fun q => q == .snapshot p) s.link.general := by
    rw [State.takeSnapshot_other hb hp (by rwa [hown]), State.withdrawGeneral, hlink]
    rfl
  have hother : ((s.compared f r rest).takeSnapshot f).replica = some r ∧
      ((s.compared f r rest).takeSnapshot f).mode = s.mode := by
    rw [State.takeSnapshot_other hb hp (by rwa [hown])]
    simp [State.mode, hreplica, hstation, h.holds]
  obtain ⟨hr, hm, -⟩ := ((s.compared f r rest).takeSnapshot f).evaluatedEnds_frame s.history.entries.length f
  obtain ⟨l, hlane, hfixed, -⟩ := ((s.compared f r rest).takeSnapshot f).evaluated_growsFixed s.history.entries.length f none
  rw [hwithdrawn] at hlane
  refine ⟨_, State.exec_snapshot_applies h (by rw [hb]; rfl) hj ht, hr.trans hother.1, hm.trans hother.2, ?_, fun q hq => ?_⟩
  · rw [hlane]
    exact List.prefix_append _ _
  · rw [hlane] at hq
    have hclear := withdrawFrom_clears (s.link.sending .general) (fun q => q == .snapshot p) s.link.general l
      (fun q hq => by
        obtain ⟨b, rfl⟩ := hfixed q hq
        simp) q hq
    simpa using hclear

/-- Settles O34: the rows of the three kinds, each through what its step makes of the station and what an application's end
leaves. -/
theorem presenceAndSyncFrames : Obligations.PresenceAndSyncFrames :=
  ⟨fun _ _ _ _ _ _ h hb => presenceApplies h hb, fun _ _ _ _ h =>
    ⟨fun _ hb => syncRequestApplies h hb, fun _ _ _ _ hb hp hself hj ht => snapshotWithdraws h hb hp hself hj ht⟩⟩

end Sys2Proof.Machine
end

section
/-! RESTART (R168): the soft restart of every block, entry into JOINING, and the unclaimed draw at its end. -/

namespace Sys2Proof.Machine

/-! Notices and entries where there is room (R153, R164). -/

/-- R164: a notice joins a queue with room. -/
theorem State.post_room {s : State} (h : s.port.notices.length < 16) (c : NoticeContent) :
    s.post c = s.setPort { s.port with
      notices := s.port.notices ++ [{ stamp := s.stamp, epoch := s.epoch, content := c }] } := if_pos h

/-- R153: from h to g at most n entries have been written, and none while the history is frozen. -/
structure History.Writes (n : Nat) (h g : History) : Prop where
  frozen : g.frozen = h.frozen
  still : h.frozen = true → g.entries = h.entries
  entries : h.frozen = false → ∃ l, l.length ≤ n ∧ g.entries = h.entries ++ l

theorem History.Writes.refl (h : History) : h.Writes 0 h :=
  ⟨rfl, fun _ => rfl, fun _ => ⟨[], Nat.le_refl 0, (List.append_nil _).symm⟩⟩

theorem History.Writes.trans {m n : Nat} {a b c : History} (h : a.Writes m b) (k : b.Writes n c) : a.Writes (m + n) c := by
  refine ⟨k.frozen.trans h.frozen, fun ha => (k.still (h.frozen.trans ha)).trans (h.still ha), fun ha => ?_⟩
  obtain ⟨l, hl, hb⟩ := h.entries ha
  obtain ⟨l', hl', hc⟩ := k.entries (h.frozen.trans ha)
  refine ⟨l ++ l', ?_, by rw [hc, hb, List.append_assoc]⟩
  rw [List.length_append]
  omega

theorem History.Writes.mono {m n : Nat} {a b : History} (h : a.Writes m b) (hmn : m ≤ n) : a.Writes n b :=
  ⟨h.frozen, h.still, fun ha => (h.entries ha).imp fun _ hl => ⟨hl.1.trans hmn, hl.2⟩⟩

theorem History.write_writes (h : History) (e : HistEntry) : h.Writes 1 (h.write e) := by
  unfold History.write
  split
  · rename_i hf
    exact ⟨rfl, fun _ => rfl, fun hn => absurd hf (by rw [hn]; decide)⟩
  · rename_i hf
    exact ⟨rfl, fun hn => absurd hn hf, fun _ => ⟨[e], Nat.le_refl 1, rfl⟩⟩

/-- R153: while the history is not frozen an entry is written. -/
theorem History.write_entries {h : History} (hf : h.frozen = false) (e : HistEntry) :
    (h.write e).entries = h.entries ++ [e] := by
  rw [History.write, hf]
  rfl

/-! The captures of unclaimed draw where the notice queue has room (R131, R147). -/

/-- From s to t at most n captures of UNCLAIMED_DRAW, each with its notice. -/
structure DrawsCaptured (n : Nat) (s t : State) : Prop where
  port : ∃ l, l.length ≤ n ∧ t.port = { s.port with notices := s.port.notices ++ l }
  counters : ∀ k : FaultKind, k ≠ .unclaimedDraw → t.counter k = s.counter k
  badChecks : t.fault.badChecks = s.fault.badChecks
  history : s.history.Writes n t.history

theorem DrawsCaptured.refl (s : State) : DrawsCaptured 0 s s :=
  ⟨⟨[], Nat.le_refl 0, by rw [List.append_nil]⟩, fun _ _ => rfl, rfl, .refl _⟩

theorem DrawsCaptured.trans {m n : Nat} {a b c : State} (h : DrawsCaptured m a b) (k : DrawsCaptured n b c) :
    DrawsCaptured (m + n) a c := by
  obtain ⟨l, hl, hb⟩ := h.port
  obtain ⟨l', hl', hc⟩ := k.port
  refine ⟨⟨l ++ l', ?_, by rw [hc, hb, List.append_assoc]⟩, fun x hx => (k.counters x hx).trans (h.counters x hx),
    k.badChecks.trans h.badChecks, h.history.trans k.history⟩
  rw [List.length_append]
  omega

theorem State.capture_draws {s : State} (h : s.port.notices.length < 16) (i : SlotNo) :
    DrawsCaptured 1 s (s.capture .unclaimedDraw (.slot i) none) := by
  have hroom : (s.captureQuiet .unclaimedDraw (.slot i) none).port.notices.length < 16 := by simpa using h
  rw [State.capture, State.post_room hroom]
  refine ⟨⟨[_], Nat.le_refl 1, by simp [State.setPort]; rfl⟩, fun k hk => ?_, FaultUnit.take_badChecks _ _,
    History.write_writes _ _⟩
  exact (s.captureQuiet_counter .unclaimedDraw (.slot i) none k).trans (if_neg hk)

theorem foldl_capture_draws (l : List SlotNo) {s : State} (h : s.port.notices.length + l.length ≤ 16) :
    DrawsCaptured l.length s (l.foldl (fun t i => t.capture .unclaimedDraw (.slot i) none) s) := by
  induction l generalizing s with
  | nil => exact .refl s
  | cons i l ih =>
    rw [List.length_cons] at h
    have hfirst : DrawsCaptured 1 s (s.capture .unclaimedDraw (.slot i) none) := State.capture_draws (by omega) i
    obtain ⟨l', hl', hport⟩ := hfirst.port
    have hrest := ih (s := s.capture .unclaimedDraw (.slot i) none) (by
      rw [hport, List.length_append]
      omega)
    rw [List.length_cons, Nat.add_comm]
    exact hfirst.trans hrest

/-- R131: at the end of an event at most one capture for each slot, where the notice queue has room for them. -/
theorem State.refreshSlots_draws {s : State} (h : s.port.notices.length ≤ 12) : DrawsCaptured 4 s s.refreshSlots := by
  have hlength : s.episodes.length ≤ 4 := List.length_filter_le _ allSlots
  obtain ⟨hport, hcounters, hbad, hhistory⟩ := foldl_capture_draws s.episodes
    (s := s.setSlots (mapSlots s.refreshed s.slotUnit.slots)) (show s.port.notices.length + s.episodes.length ≤ 16 by omega)
  exact ⟨hport.imp fun _ hl => ⟨hl.1.trans hlength, hl.2⟩, hcounters, hbad, hhistory.mono hlength⟩

/-! Entry into JOINING (R94, R104). -/

theorem State.onEntry_joining {s : State} (h : s.mode = .joining) : s.onEntry = s.stopMemberTimers.startSync := by
  simp [State.onEntry, h]

/-- R87, R94, R104: entry into JOINING from an empty inbound queue. -/
theorem State.changeState_joining {s : State} (h : s.link.inbound = []) (cause : SyncCause) :
    s.changeState .joining cause = (s.moved .joining cause).stopMemberTimers.startSync := by
  have hmode : (s.moved .joining cause).stopMemberTimers.startSync.mode = .joining := by
    simp [State.mode, State.startSync]
  rw [State.changeState, State.enter_of_no_leave (State.ownLeaveWaits_nil h), State.enterOnce_eq,
    State.onEntry_joining (s.moved_mode .joining cause), State.silenceOffline_of_mode (by rw [hmode]; decide),
    State.slotTests_of_not_reporting (by rw [hmode]; rfl), State.checkLockout_of_mode (by rw [hmode]; decide)]

/-- R87, R164: a change of state at a notice queue with room. -/
theorem State.moved_room {s : State} (h : s.port.notices.length < 16) (new : StationState) (cause : SyncCause) :
    (s.moved new cause).port = { s.port with
      notices := s.port.notices ++ [{ stamp := s.stamp, epoch := s.epoch, content := .sync s.mode new cause }] } ∧
    (s.moved new cause).fault = s.fault ∧
    (s.moved new cause).history =
      s.history.write { stamp := s.stamp, epoch := s.epoch, event := .sync s.self s.mode new cause } := by
  have hroom : (s.shift new cause).port.notices.length < 16 := h
  rw [State.moved, State.moveTo, State.announce, State.post_room hroom]
  exact ⟨rfl, rfl, rfl⟩

theorem State.startSync_room {s : State} (h : s.link.general.length < 6) :
    s.startSync = (s.setLink { s.link with general := s.link.general ++ [.fixed (.syncRequest (s.epoch.getD 0))] }).setStation
      { s.station with syncCount := 1, syncTimer := some (s.now + 250) } := by
  rw [State.startSync, State.requestSync, State.autoGeneral_room h]
  rfl

/-- R104: the records of the peers after pin reset stay so where their timers stop. -/
theorem State.stopMemberTimers_reset {s : State} (h : s.members = .reset) : s.stopMemberTimers.members = .reset := by
  rw [State.stopMemberTimers, State.mapRecords, h]
  rfl

/-! The soft restart (R168). -/

/-- R168: the soft-restart values, up to the edge that the end of a drive makes. -/
def State.cleared (s : State) : State :=
  (((((((s.setLink .reset).setReplica none).setMembers .reset).setCrank .reset).setSlotUnit
    { SlotUnit.reset with slots := mapSlots (fun i => SlotRecord.restarted (s.part i)) s.slotUnit.slots }).setW0
      s.w0.restarted).setW1 s.w1.restarted).setPort { s.port with notices := [], noticeLost := false }

theorem State.edgeFrom_writes {s : State} {wasHigh : Bool} (h : wasHigh = true → s.shedHigh = true) :
    s.history.Writes 1 (s.edgeFrom wasHigh).history := by
  unfold State.edgeFrom
  cases hw : wasHigh with
  | true =>
    rw [h hw]
    exact (History.Writes.refl _).mono (Nat.zero_le 1)
  | false =>
    cases s.shedHigh with
    | true => exact History.write_writes _ _
    | false => exact (History.Writes.refl _).mono (Nat.zero_le 1)

theorem State.cleared_frame (s : State) :
    s.cleared.link = .reset ∧ s.cleared.replica = none ∧ s.cleared.members = .reset ∧ s.cleared.crank = .reset ∧
      s.cleared.config = s.config ∧ s.cleared.pins = s.pins ∧ s.cleared.w0 = s.w0.restarted ∧
      s.cleared.w1 = s.w1.restarted ∧ s.cleared.fault = s.fault ∧ s.cleared.station = s.station ∧
      s.cleared.now = s.now ∧ s.cleared.straps = s.straps ∧ s.cleared.history = s.history ∧
      s.cleared.port = { s.port with notices := [], noticeLost := false } ∧
      s.cleared.slotUnit =
        { SlotUnit.reset with slots := mapSlots (fun i => SlotRecord.restarted (s.part i)) s.slotUnit.slots } := by
  simp [State.cleared]

theorem State.softReset_edge (s : State) : s.softReset = s.cleared.edgeFrom s.shedHigh := by
  simp only [State.softReset, State.cleared]

/-- R63, R168: the line can only rise, so the edge writes the history alone. -/
theorem State.softReset_eq (s : State) : ∃ h, s.history.Writes 1 h ∧ s.softReset = s.cleared.setHistory h := by
  obtain ⟨-, -, -, hcrank, -, hpins, hw0, hw1, -, -, -, -, hhistory, -⟩ := s.cleared_frame
  have hrise : s.shedHigh = true → s.cleared.shedHigh = true := fun h => by
    rw [State.shedHigh_iff] at h ⊢
    obtain ⟨-, -, -, hpeer⟩ := h
    rw [hcrank, hpins, hw0, hw1]
    exact ⟨rfl, rfl, rfl, hpeer⟩
  refine ⟨(s.cleared.edgeFrom s.shedHigh).history, ?_, ?_⟩
  · rw [← hhistory]
    exact State.edgeFrom_writes hrise
  · rw [State.softReset_edge]
    exact State.edgeFrom_of_le hrise

theorem State.cleared_slot (s : State) (i : SlotNo) : s.cleared.slot i = (s.slot i).restarted (s.part i) := by
  obtain ⟨-, -, -, -, -, -, -, -, -, -, -, -, -, -, hunit⟩ := s.cleared_frame
  rw [State.slot, hunit]
  exact mapSlots_get _ _ i

/-- R168: the station behind the soft restart, its RESTARTED notice and its entry into JOINING. -/
def State.rejoining (s : State) : State :=
  (s.softReset.post (.restarted s.port.notices.length s.port.noticeLost)).changeState .joining .restart

/-- R168: what a RESTART has done before the end of its event. -/
structure Rejoined (s u : State) : Prop where
  mode : u.mode = .joining
  tables : u.replica = none ∧ u.members = .reset ∧ u.crank = .reset ∧ u.config = s.config ∧ u.pins = s.pins
  link : u.link = { LinkUnit.reset with general := [.fixed (.syncRequest 0)] }
  slotUnit : u.slotUnit = s.cleared.slotUnit
  units : u.w0 = s.w0.restarted ∧ u.w1 = s.w1.restarted
  fault : u.fault = s.fault
  port : u.port = { s.port with noticeLost := false, notices :=
    [{ stamp := s.stamp, epoch := none, content := .restarted s.port.notices.length s.port.noticeLost },
     { stamp := s.stamp, epoch := none, content := .sync s.mode .joining .restart }] }
  history : ∃ h, s.history.Writes 1 h ∧
    u.history = h.write { stamp := s.stamp, epoch := none, event := .sync s.self s.mode .joining .restart }

/-- R164, R168: the RESTARTED notice is the first in a fresh queue. -/
def State.restartTold (s : State) (h : History) : State :=
  (s.cleared.setHistory h).setPort { s.port with noticeLost := false, notices :=
    [{ stamp := s.stamp, epoch := none, content := .restarted s.port.notices.length s.port.noticeLost }] }

theorem State.cleared_post (s : State) (h : History) :
    (s.cleared.setHistory h).post (.restarted s.port.notices.length s.port.noticeLost) = s.restartTold h := by
  obtain ⟨-, hreplica, -, -, -, -, -, -, -, -, hnow, -, -, hport, -⟩ := s.cleared_frame
  have hstamp : (s.cleared.setHistory h).stamp = s.stamp := by simp [State.stamp, hnow]
  have hepoch : (s.cleared.setHistory h).epoch = none := by simp [State.epoch, hreplica]
  have hport' : (s.cleared.setHistory h).port = { s.port with notices := [], noticeLost := false } := hport
  rw [State.post_room (by rw [hport']; exact Nat.zero_lt_succ 15), hport', hstamp, hepoch]
  rfl

theorem State.restartTold_frame (s : State) (h : History) :
    (s.restartTold h).link = .reset ∧ (s.restartTold h).replica = none ∧ (s.restartTold h).members = .reset ∧
      (s.restartTold h).crank = .reset ∧ (s.restartTold h).config = s.config ∧ (s.restartTold h).pins = s.pins ∧
      (s.restartTold h).slotUnit = s.cleared.slotUnit ∧ (s.restartTold h).w0 = s.w0.restarted ∧
      (s.restartTold h).w1 = s.w1.restarted ∧ (s.restartTold h).fault = s.fault ∧ (s.restartTold h).mode = s.mode ∧
      (s.restartTold h).stamp = s.stamp ∧ (s.restartTold h).self = s.self ∧ (s.restartTold h).history = h := by
  simp [State.restartTold, s.cleared_frame, State.mode, State.stamp, State.self]

theorem State.rejoining_rejoined (s : State) : Rejoined s s.rejoining := by
  obtain ⟨h, hwrites, hsoft⟩ := s.softReset_eq
  rw [State.rejoining, hsoft, State.cleared_post]
  have hport : (s.restartTold h).port = { s.port with noticeLost := false, notices :=
    [{ stamp := s.stamp, epoch := none, content := .restarted s.port.notices.length s.port.noticeLost }] } := rfl
  obtain ⟨hlink, hreplica, hmembers, hcrank, hconfig, hpins, hunit, hw0, hw1, hfault, hmode, hstamp, hself, hhistory⟩ :=
    s.restartTold_frame h
  generalize s.restartTold h = v at *
  have hepoch : v.epoch = none := by rw [State.epoch, hreplica]; rfl
  obtain ⟨hport', hfault', hhistory'⟩ :=
    State.moved_room (s := v) (by rw [hport]; exact Nat.one_lt_ofNat) .joining .restart
  have hlink' : (v.moved .joining .restart).link = .reset := by
    rw [State.moved, State.dropInbound]
    simp [hlink, hmode, LinkUnit.entered, State.moveTo, State.shift]
    rfl
  have hstopped : (v.moved .joining .restart).stopMemberTimers.link = .reset := by
    rw [← hlink']
    simp
  rw [State.changeState_joining (by rw [hlink]; rfl), State.startSync_room (by rw [hstopped]; decide)]
  have hepoch' : (v.moved .joining .restart).stopMemberTimers.epoch = none := by
    simp [State.epoch, hreplica]
  have hmembers' : (v.moved .joining .restart).stopMemberTimers.members = .reset :=
    State.stopMemberTimers_reset (by simp [hmembers])
  refine ⟨?_, ⟨?_, hmembers', ?_, ?_, ?_⟩, ?_, ?_, ⟨?_, ?_⟩, ?_, ?_, h, hwrites, ?_⟩
  · simp [State.mode]
  · simp [hreplica]
  · simp [hcrank]
  · simp [hconfig]
  · simp [hpins]
  · rw [hstopped, hepoch']
    rfl
  · simp [hunit]
  · simp [hw0]
  · simp [hw1]
  · simp [hfault', hfault]
  · simp [hport', hport, hstamp, hepoch, hmode]
  · simp [hhistory', hhistory, hstamp, hepoch, hself, hmode]

/-! The end of the event. -/

theorem State.exec_restart {s : State} (h : s.Open) (hm : s.mode ≠ .unconfigured)
    (hd : ¬ (s.mode = .offline ∧ s.station.offline = some .duplicate)) :
    exec .restart s = .next ((s.holding .restart).rejoining.responds .ok []).conclude := by
  refine h.exec_concludes .restart (by simp [Command.sized, Command.bytes]) ?_
  show (s.holding .restart).restartCommand = _
  rw [State.restartCommand, if_neg (by rintro (hc | hc); exacts [hm hc, hd hc])]
  rfl

/-- R120, R135: a slot at the end of a RESTART. -/
theorem SlotRecord.restarted_cases (part : SlotPart) (r : SlotRecord) :
    ((part.used = true ∧ part.cls = .critical ∧ r.enable = true) ∧ r.restarted part =
      { SlotRecord.reset with state := .carried, values := r.values, enable := true, wasOn := true }) ∨
    (¬ (part.used = true ∧ part.cls = .critical ∧ r.enable = true) ∧ r.restarted part = .reset) := by
  unfold SlotRecord.restarted
  by_cases h : part.used = true ∧ part.cls = .critical ∧ r.enable = true
  · exact .inl ⟨h, if_pos (by simpa [and_assoc] using h)⟩
  · exact .inr ⟨h, if_neg (by simpa [and_assoc] using h)⟩

/-- R127, R129: no slot that is FREE or CARRIED runs an off deadline or tests its STUCK_CLEAR. -/
theorem State.free_carried_watch {u : State} {i : SlotNo} (h : (u.slot i).state = .free ∨ (u.slot i).state = .carried) :
    u.offConditions i = false ∧ u.stuckCleared i = false := by
  rcases h with h | h <;> simp [State.offConditions, State.stuckCleared, State.orderedOff, h]

/-- R123, R135: in a live station a CARRIED slot of a used part is on, and a FREE one is off. -/
theorem State.free_carried_enable {u : State} (hl : u.mode.live = true) {i : SlotNo} :
    ((u.slot i).state = .carried → (u.part i).used = true → u.enableRule i = true) ∧
      ((u.slot i).state = .free → u.enableRule i = false) := by
  refine ⟨fun h hu => ?_, fun h => State.enableRule_off (.inl h)⟩
  simp [State.enableRule, h, hu, hl]

section
variable {s u : State} (h : Rejoined s u)
include h

theorem Rejoined.slot (i : SlotNo) : u.slot i = (s.slot i).restarted (s.part i) := by
  rw [State.slot_of_slotUnit h.slotUnit, s.cleared_slot]

/-- R120, R123, R135: the slots behind the end of the event. -/
theorem Rejoined.slots {t : State} (ht : t = (u.responds .ok []).conclude) (i : SlotNo) :
    (((s.part i).used = true ∧ (s.part i).cls = .critical ∧ (s.slot i).enable = true →
        (t.slot i).state = .carried ∧ (t.slot i).enable = true ∧ (t.slot i).values = (s.slot i).values) ∧
      (¬ ((s.part i).used = true ∧ (s.part i).cls = .critical ∧ (s.slot i).enable = true) →
        (t.slot i).state = .free ∧ (t.slot i).enable = false)) ∧
    (t.slot i).settle = none ∧ (t.slot i).offDeadline = none ∧ (t.slot i).retry = none ∧ (t.slot i).latch = false ∧
      (t.slot i).holdTime = 0 := by
  obtain ⟨-, -, -, hconfig, -⟩ := h.tables
  have hmode : (u.responds .ok []).mode = .joining := h.mode
  have hlive : (u.responds .ok []).mode.live = true := by rw [hmode]; rfl
  have hslot : (u.responds .ok []).slot i = (s.slot i).restarted (s.part i) := h.slot i
  have hpart : (u.responds .ok []).part i = s.part i := by
    rw [State.part, State.part, ← hconfig]
    rfl
  obtain ⟨hcarriedOn, hfreeOff⟩ := State.free_carried_enable hlive (i := i)
  rw [ht, State.conclude_slot, State.refreshed_live _ _ _ hlive, hslot]
  rcases (s.slot i).restarted_cases (s.part i) with ⟨hon, hr⟩ | ⟨hoff, hr⟩
  · have hstate : ((u.responds .ok []).slot i).state = .carried := by rw [hslot, hr]
    obtain ⟨hwatch, hclear⟩ := State.free_carried_watch (.inr hstate)
    rw [hr, hwatch, hclear, hcarriedOn hstate (by rw [hpart]; exact hon.1)]
    exact ⟨⟨fun _ => ⟨rfl, rfl, rfl⟩, fun hn => absurd hon hn⟩, rfl, rfl, rfl, rfl, rfl⟩
  · have hstate : ((u.responds .ok []).slot i).state = .free := by rw [hslot, hr]; rfl
    obtain ⟨hwatch, hclear⟩ := State.free_carried_watch (.inl hstate)
    rw [hr, hwatch, hclear, hfreeOff hstate]
    exact ⟨⟨fun hn => absurd hn hoff, fun _ => ⟨rfl, rfl⟩⟩, rfl, rfl, rfl, rfl, rfl⟩

/-- R131, R149: what the end of the event captures. -/
theorem Rejoined.draws {t : State} (ht : t = (u.responds .ok []).conclude) :
    ∃ v, DrawsCaptured 4 (u.responds .ok []) v ∧ t.port = v.port ∧ t.fault = v.fault ∧ t.history = v.history.trim := by
  have hport : (u.responds .ok []).port.notices.length ≤ 12 := by
    have hnotices : (u.responds .ok []).port.notices = u.port.notices := rfl
    rw [hnotices, h.port]
    exact (by decide : 2 ≤ 12)
  exact ⟨_, State.refreshSlots_draws hport, by rw [ht]; rfl, by rw [ht]; rfl, by rw [ht]; rfl⟩

/-- R131: where no slot's reading is drawing, no unclaimed draw is captured. -/
theorem Rejoined.fault_of_no_draw {t : State} (ht : t = (u.responds .ok []).conclude)
    (hn : ∀ i, s.reading i ≠ some true) : t.fault = s.fault := by
  obtain ⟨-, -, -, hconfig, hpins⟩ := h.tables
  have hreading (i : SlotNo) : (u.responds .ok []).reading i = s.reading i := by
    have hconfig' : (u.responds .ok []).config = s.config := hconfig
    have hpins' : (u.responds .ok []).pins.feedback = s.pins.feedback := congrArg Pins.feedback hpins
    unfold State.reading
    rw [State.part, hconfig', hpins', State.part]
  have hquiet : (u.responds .ok []).episodes = [] := by
    refine List.filter_eq_nil_iff.mpr fun i _ => ?_
    have hnone : (u.responds .ok []).unclaimedDraw i = false := by
      rw [State.unclaimedDraw, hreading]
      simp [hn i]
    simp [hnone]
  rw [ht, (State.conclude_quiet hquiet).2]
  exact h.fault

/-- R131, R149: the counters, and the record that was locked. -/
theorem Rejoined.faults {t : State} (ht : t = (u.responds .ok []).conclude) :
    t.fault.badChecks = s.fault.badChecks ∧ (∀ k : FaultKind, k ≠ .unclaimedDraw → t.counter k = s.counter k) ∧
      (s.fault.lock = true → t.fault.lock = true ∧ t.fault.record = s.fault.record) := by
  obtain ⟨v, hdraws, -, hfault, -⟩ := h.draws ht
  have hbase : (u.responds .ok []).fault = s.fault := h.fault
  refine ⟨?_, fun k hk => ?_, fun hl => ?_⟩
  · rw [hfault, hdraws.badChecks, hbase]
  · rw [State.counter, hfault]
    refine (hdraws.counters k hk).trans ?_
    rw [State.counter, hbase, State.counter]
  · have hsteady : Steady (u.responds .ok []) t := by
      rw [ht]
      exact State.conclude_steady (Steady.refl _)
    have hkept := hsteady.fault (by rw [hbase]; exact hl)
    rwa [hbase] at hkept

end

/-- R153: the history keeps its newest 32 entries, where nothing is lost and where an entry is among the newest. -/
theorem History.trim_of_append {h : History} {l l' : List HistEntry} (he : h.entries = l ++ l') (hl : l'.length ≤ 32)
    {e : HistEntry} (hm : e ∈ l') : e ∈ h.trim.entries := by
  have hdrop : h.trim.entries = (l ++ l').drop ((l ++ l').length - 32) := by
    rw [← he]
    rfl
  rw [hdrop, List.drop_append, List.mem_append]
  refine .inr ?_
  have hzero : (l ++ l').length - 32 - l.length = 0 := by
    rw [List.length_append]
    omega
  rwa [hzero, List.drop_zero]

/-- R87, R152, R153: the history at the end of a RESTART. -/
theorem Rejoined.history_ends {s u t : State} (h : Rejoined s u) (hs : s.history.entries.length ≤ 32)
    (ht : t = (u.responds .ok []).conclude) :
    t.history.frozen = s.history.frozen ∧ (s.history.frozen = true → t.history.entries = s.history.entries) ∧
      (s.history.frozen = false →
        (s.history.entries.length ≤ 26 → s.history.entries <+: t.history.entries) ∧
        ∃ e ∈ t.history.entries, e.epoch = none ∧ e.event = .sync s.self s.mode .joining .restart) := by
  obtain ⟨v, hdraws, -, -, hhistory⟩ := h.draws ht
  obtain ⟨g, hedge, hwritten⟩ := h.history
  have hbase : (u.responds .ok []).history = g.write
      { stamp := s.stamp, epoch := none, event := .sync s.self s.mode .joining .restart } := hwritten
  have hcaptured := hdraws.history
  rw [hbase] at hcaptured
  have hall := (hedge.trans (History.write_writes g _)).trans hcaptured
  rw [hhistory]
  refine ⟨hall.frozen, fun hf => ?_, fun hf => ⟨fun hl => ?_, ?_⟩⟩
  · rw [History.trim_of_le (by rw [hall.still hf]; exact hs), hall.still hf]
  · obtain ⟨l, hl', hv⟩ := hall.entries hf
    rw [History.trim_of_le (by
      rw [hv, List.length_append]
      exact Nat.le_trans (Nat.add_le_add hl hl') (by decide)), hv]
    exact List.prefix_append _ _
  · have hg : g.frozen = false := hedge.frozen.trans hf
    obtain ⟨l, hl, hv⟩ := hcaptured.entries (((History.write_writes g _).frozen).trans hg)
    rw [History.write_entries hg, List.append_assoc] at hv
    refine ⟨_, History.trim_of_append hv ?_ (List.mem_cons_self ..), rfl, rfl⟩
    rw [List.length_append, List.length_singleton]
    omega

/-- Settles O15: `Rejoined` up to the end of the event, and the unclaimed draw captured there. -/
theorem restartRejoins : Obligations.RestartRejoins := by
  intro s hopen hm hd
  have h := (s.holding .restart).rejoining_rejoined
  generalize hu : (s.holding .restart).rejoining = u at h
  rw [State.exec_restart hopen hm hd, hu]
  generalize ht : (u.responds .ok []).conclude = t
  obtain ⟨hreplica, hmembers, hcrank, hconfig, -⟩ := h.tables
  obtain ⟨hw0, hw1⟩ := h.units
  obtain ⟨v, hdraws, hport, -⟩ := h.draws ht.symm
  obtain ⟨l, -, hposted⟩ := hdraws.port
  obtain ⟨hbad, hcounters, hlocked⟩ := h.faults ht.symm
  obtain ⟨hfrozen, hstill, hentries⟩ := h.history_ends hopen.settled.2 ht.symm
  have hlink : t.link = { LinkUnit.reset with general := [.fixed (.syncRequest 0)] } := by
    rw [← h.link, ← ht]
    simp [State.responds]
  have hmode : t.mode = .joining := by
    rw [← ht, State.conclude_mode]
    exact h.mode
  obtain ⟨hleave, hlimit, hgate⟩ : t.slotUnit.leavePending = false ∧ t.slotUnit.latchLimit = none ∧ t.slotUnit.gate = none := by
    obtain ⟨-, -, -, -, -, -, -, -, -, -, -, -, -, -, hcleared⟩ := (s.holding .restart).cleared_frame
    rw [← ht]
    simp [State.responds, h.slotUnit, hcleared]
    exact ⟨rfl, rfl, rfl⟩
  obtain ⟨hresponse, hnotices⟩ : t.port.response = some [byteOf ResponseCode.ok.code] ∧
      [{ stamp := s.stamp, epoch := none, content := .restarted s.port.notices.length s.port.noticeLost },
       { stamp := s.stamp, epoch := none, content := .sync s.mode .joining .restart }] <+: t.port.notices := by
    rw [hport, hposted]
    refine ⟨rfl, ?_⟩
    have hnotices : (u.responds .ok []).port.notices = u.port.notices := rfl
    rw [hnotices, h.port]
    exact List.prefix_append _ _
  refine ⟨_, rfl, hmode, ?_⟩
  rw [hlink]
  refine ⟨?_, rfl, rfl, rfl, rfl, rfl, rfl, rfl, rfl, rfl, ?_, ?_, ?_, hleave, hlimit, hgate, hresponse,
    hnotices, fun i => (h.slots ht.symm i).1, fun i => (h.slots ht.symm i).2, ?_, ?_, hbad, hcounters, hlocked,
    fun hn => h.fault_of_no_draw ht.symm hn, hfrozen, hstill, hentries⟩
  · rw [← hreplica, ← ht]
    simp [State.responds]
  · rw [← hmembers, ← ht]
    simp [State.responds]
  · rw [← hcrank, ← ht]
    simp [State.responds]
  · rw [← ht]
    simp [State.responds, hconfig]
  · rw [← ht]
    simp [State.responds, hw0]
    rfl
  · rw [← ht]
    simp [State.responds, hw1]
    rfl

end Sys2Proof.Machine
end

section
/-! The yield rule (R90): what the comparison of two stations that disagree comes to at each of them. -/

namespace Sys2Proof.Machine

/-- R90: at a distance of 0 or of half the epochs the higher station number yields. -/
theorem yieldRule_by_number {d : Nat} (h : d = 0 ∨ d = 32768) (self sender : Station) :
    yieldRule self sender d = true ↔ sender < self := by
  rw [yieldRule, if_pos h, decide_eq_true_iff]

/-- R90: at any other distance the epoch behind yields. -/
theorem yieldRule_by_epoch {d : Nat} (h : ¬ (d = 0 ∨ d = 32768)) (self sender : Station) :
    yieldRule self sender d = true ↔ d < 32768 := by
  rw [yieldRule, if_neg h, decide_eq_true_iff]

/-- R90: exchanging the two stations exchanges the answer. -/
theorem yieldRule_exchange {a b : Station} (h : a ≠ b) (d : Half) :
    yieldRule a b d.toNat = true ↔ ¬ yieldRule b a (-d).toNat = true := by
  have hneg : (-d).toNat = (65536 - d.toNat) % 65536 := BitVec.toNat_neg d
  have hlt : d.toNat < 65536 := d.isLt
  by_cases hd : d.toNat = 0 ∨ d.toNat = 32768
  · rw [yieldRule_by_number hd, yieldRule_by_number (by omega), not_lt]
    exact ⟨le_of_lt, fun hle => lt_of_le_of_ne hle h.symm⟩
  · rw [yieldRule_by_epoch hd, yieldRule_by_epoch (by omega)]
    omega

/-- R89, R90: where a MEMBER's frame disagrees, the yield rule decides. -/
theorem Frame.verdict_yields_iff {f : Frame} {r : Replica} {mode : StationState} (hs : f.sync = .member)
    (hm : mode = .entering ∨ mode = .member) (hd : ¬ (f.epoch = r.epoch ∧ f.digest = r.digest)) (self : Station) :
    f.verdict mode self r = .yields ↔ yieldRule self f.sender (f.epoch - r.epoch).toNat = true := by
  rw [Frame.verdict, if_pos ⟨hs, hm⟩, if_neg hd]
  split <;> simp_all

/-- Settles O45: the distance from one station to the other is the negative of the distance back. -/
theorem yieldRule_exactly_one_yields : Obligations.YieldRule := by
  refine ⟨fun f r self mode hs hm hd => ?_, fun f g q r m n hne hf hg hm hn hd he hfd hge hgd => ?_⟩
  · simp only [Frame.verdict_yields_iff hs hm hd, ne_eq]
    refine ⟨fun h => yieldRule_by_number h _ _, fun h1 h2 => ?_, fun h => ?_⟩
    · by_cases hhalf : (f.epoch - r.epoch).toNat = 32768
      · omega
      · exact (yieldRule_by_epoch (by omega) _ _).mpr (by omega)
    · rw [yieldRule_by_epoch (by omega)]
      omega
  · have hback : g.epoch - q.epoch = -(f.epoch - r.epoch) := by
      rw [hge, he, BitVec.neg_sub, BitVec.sub_eq_add_neg, BitVec.add_comm]
    rw [Frame.verdict_yields_iff hf hm (by rwa [he, hfd]), Frame.verdict_yields_iff hg hn (by
      rw [hge, hgd]
      exact fun h => hd ⟨h.1.symm, h.2.symm⟩), hback]
    exact yieldRule_exchange hne.symm _

end Sys2Proof.Machine
end

section
/-! A station that yields (R90, R91): whatever the frame's kind, it is captured, not applied, and the station enters
TAINTED, or OFFLINE where its own completed LEAVE is discarded (R118). -/

namespace Sys2Proof.Machine

/-! From the row to the yield. -/

theorem State.applyHead_of_head {s : State} {f : Frame} {rest : List Frame} (hq : s.link.inbound = f :: rest)
    (act : Frame → State → State) : s.applyHead f.body.kind act = (act f (s.withRest rest)).conclude := by
  rw [State.applyHead, hq]
  exact if_pos rfl

/-- R80, R90: step 1 ends an application that the station yields at. -/
theorem State.applyFrame_yields {s : State} {f : Frame} {r : Replica} (hr : s.replica = some r)
    (hv : f.verdict s.mode s.self r = .yields) (rest : List Frame) (steps : State → Nat → State) :
    (s.withRest rest).applyFrame f steps = (s.withRest rest).yieldTo s.history.entries.length f := by
  have hverdict : (s.withRest rest).verdict f = .yields := by
    rw [State.verdict, show (s.withRest rest).replica = some r from hr]
    exact hv
  rw [State.applyFrame, hverdict]
  rfl

/-- R91: every kind of frame that the station yields at comes to the same. -/
theorem State.applyKind_yields {s : State} {f : Frame} {r : Replica} {rest : List Frame}
    (hq : s.link.inbound = f :: rest) (hr : s.replica = some r) (hv : f.verdict s.mode s.self r = .yields) :
    s.applyKind f.body.kind = ((s.withRest rest).yieldTo s.history.entries.length f).conclude := by
  have hplain (take : State → Frame → State) :
      s.plainFrame f.body.kind take = ((s.withRest rest).yieldTo s.history.entries.length f).conclude := by
    rw [State.plainFrame, State.applyHead_of_head hq, State.applyFrame_yields hr hv]
  cases ht : tableEffect f.body.kind with
  | some effect =>
    rw [State.applyKind_table s ht, State.tableFrame, State.applyHead_of_head hq, State.applyFrame_yields hr hv]
  | none =>
    cases hb : f.body with
    | presence state sample =>
      have hk : f.body.kind = .presence := by rw [hb]; rfl
      rw [hk] at hplain
      exact hplain _
    | syncRequest epoch =>
      have hk : f.body.kind = .syncRequest := by rw [hb]; rfl
      rw [hk] at hplain
      exact hplain _
    | snapshot requester epoch image => exact State.snapshotFrame_yields hq hb hr hv
    | _ => rw [hb] at ht; cases ht

/-! The yield itself. -/

/-- R91, R118: the station once it has yielded at a frame. -/
def State.yieldedOff (s : State) (f : Frame) : State :=
  (s.capture .digestYield (.station f.sender) (some f.body.kind)).enter .tainted .digestYield

/-- R91: a frame that is no SNAPSHOT for the station is not looked at again. -/
theorem State.yieldTo_other {s : State} {f : Frame} (hb : ∀ e image, f.body ≠ .snapshot (byteOf s.self.val) e image)
    (n : Nat) : s.yieldTo n f = (s.yieldedOff f).settleDown n := by
  rw [State.yieldTo, State.yieldedOff]
  split
  · rename_i requester epoch image heq
    rw [if_neg]
    simp only [Bool.and_eq_true, decide_eq_true_eq]
    rintro ⟨rfl, -⟩
    exact hb epoch image heq
  · rfl

theorem State.yieldedOff_eq (s : State) (f : Frame) : s.yieldedOff f =
    if s.ownLeaveWaits then (s.yielded f).enterOnce .offline .leaveApplied else s.yielded f := by
  rw [State.yieldedOff, State.enter_discarding (.inl rfl), State.ownLeaveWaits_congr (s := s) (by simp) (by simp)]
  rfl

theorem State.yieldedOff_mode (s : State) (f : Frame) : (s.yieldedOff f).mode = leavingFor s.ownLeaveWaits .tainted := by
  rw [State.yieldedOff_eq, leavingFor]
  split
  · exact State.enterOnce_mode _ _ _
  · exact s.yielded_mode f

theorem State.yieldedOff_replica (s : State) (f : Frame) : (s.yieldedOff f).replica = s.replica := by
  simp [State.yieldedOff]

theorem State.yieldedOff_counted (s : State) (f : Frame) : Counted s (s.yieldedOff f) .digestYield :=
  Counted.of_tells (State.capture_counter s rfl _ _) rfl (State.enter_tells _ _ _)

/-- R104: entry into OFFLINE stops the peers' timers and changes nothing else of their records. -/
theorem State.enterOnce_offline_disagree (s : State) (cause : SyncCause) (n : Station) :
    ((s.enterOnce .offline cause).peer n).disagree = (s.peer n).disagree := by
  have hmembers : (s.enterOnce .offline cause).members = ((s.moved .offline cause).stopMemberTimers).members := by
    rw [State.enterOnce_offline]
    simp
  rw [State.peer_of_members hmembers, State.stopMemberTimers, State.mapRecords_peer, State.peer_of_members (s := s) (by simp)]

/-- R92: a yield counts no disagreement. -/
theorem State.yieldedOff_disagree (s : State) (f : Frame) (n : Station) :
    ((s.yieldedOff f).peer n).disagree = (s.peer n).disagree := by
  have hmembers : (s.yielded f).members = s.members := by
    rw [State.yielded_eq]
    simp
  rw [State.yieldedOff_eq]
  split
  · rw [State.enterOnce_offline_disagree, State.peer_of_members hmembers]
  · rw [State.peer_of_members hmembers]

/-- R148: what the yield captured stays in the record. -/
theorem State.yieldedOff_record {s : State} (h : s.fault.lock = false) {f : Frame} {t : State}
    (ht : Steady (s.yieldedOff f) t) : t.fault.record = some
      { kind := .digestYield, subject := .station f.sender, frame := some f.body.kind, epoch := s.epoch,
        stamp := s.stamp } :=
  State.capture_record_kept h ((State.enter_steady (.refl _) _ _).trans ht)

/-- Settles O33: every kind's row comes to the same yield, and the tests at the end of the application add nothing to it. -/
theorem yieldingStationTaints : Obligations.YieldingStationTaints := by
  intro s f r rest hq hp hl hr hv hb
  refine ⟨_, State.exec_frameRow_eq hp, ?_⟩
  rw [State.application_quiet s _ hl, State.applyKind_yields hq hr hv, (s.withRest rest).yieldTo_other hb]
  have hreplica : (s.withRest rest).replica = some r := hr
  have hepoch : (s.withRest rest).epoch = some r.epoch := by rw [State.epoch, hreplica]; rfl
  have hcounted : Counted s ((s.withRest rest).yieldedOff f) .digestYield := (s.withRest rest).yieldedOff_counted f
  refine ⟨hcounted.of_tells rfl ((State.settleDown_tells _ _).trans (State.conclude_tells _)), ?_, ?_, fun hlock => ?_,
    fun n => ?_⟩
  · simp only [State.conclude_frame, State.settleDown_frame, State.yieldedOff_replica, hreplica]
  · rw [State.conclude_mode, State.mode, (State.settleDown_frame _ _).2.2.1]
    exact (s.withRest rest).yieldedOff_mode f
  · rw [← hepoch]
    exact State.yieldedOff_record (s := s.withRest rest) hlock
      (State.conclude_steady (State.settleDown_steady (.refl _) _))
  · rw [State.peer_of_members (s := (s.withRest rest).yieldedOff f) (by simp)]
    exact (s.withRest rest).yieldedOff_disagree f n

end Sys2Proof.Machine
end

section
/-! JOIN and LEAVE (R94, R123, R162): entry into JOINING from UNCONFIGURED or OFFLINE, and the LEAVE that waits in the
lane. -/

namespace Sys2Proof.Machine

/-! JOIN. -/

/-- R94, R104, R162: what entry into JOINING makes of a station. -/
structure StartsJoining (s u : State) : Prop where
  mode : u.mode = .joining
  sync : u.station.syncCount = 1 ∧ u.station.syncTimer = some (s.now + 250)
  general : u.link.general = s.link.general ++ [.fixed (.syncRequest (s.epoch.getD 0))]
  config : u.config = s.config
  replica : u.replica = s.replica
  slotUnit : u.slotUnit = s.slotUnit
  timers : ∀ n, (u.peer n).silence = none ∧ (u.peer n).orphanHold = none

/-- R104: entry into JOINING stops both timers of every record. -/
theorem State.stopMemberTimers_peer (s : State) (n : Station) :
    (s.stopMemberTimers.peer n).silence = none ∧ (s.stopMemberTimers.peer n).orphanHold = none := by
  rw [State.stopMemberTimers, State.mapRecords_peer]
  exact ⟨rfl, rfl⟩

/-- R94, R104: entry into JOINING with no frame waiting and room for the SYNC_REQUEST. -/
theorem State.changeState_startsJoining {s : State} (hi : s.link.inbound = []) (hg : s.link.general.length < 6)
    (cause : SyncCause) : StartsJoining s (s.changeState .joining cause) := by
  have hmode : (s.moved .joining cause).stopMemberTimers.mode = .joining := by simp [State.mode]
  have hepoch : (s.moved .joining cause).stopMemberTimers.epoch = s.epoch := by simp [State.epoch]
  have htimers := (s.moved .joining cause).stopMemberTimers_peer
  have hkept : (s.moved .joining cause).stopMemberTimers.link.general = s.link.general ∧
      (s.moved .joining cause).stopMemberTimers.now = s.now ∧
      (s.moved .joining cause).stopMemberTimers.config = s.config ∧
      (s.moved .joining cause).stopMemberTimers.replica = s.replica ∧
      (s.moved .joining cause).stopMemberTimers.slotUnit = s.slotUnit := by simp
  rw [State.changeState_joining hi]
  generalize (s.moved .joining cause).stopMemberTimers = v at *
  obtain ⟨hlane, hnow, hconfig, hreplica, hunit⟩ := hkept
  rw [State.startSync_room (by rwa [hlane]), hlane, hepoch, hnow]
  exact ⟨hmode, ⟨rfl, rfl⟩, rfl, hconfig, hreplica, hunit, htimers⟩

/-- R159: the answer and the end of the event leave what the entry made. -/
theorem StartsJoining.ends {s u : State} (h : StartsJoining s u) (code : ResponseCode) :
    let t := (u.responds code []).conclude
    t.mode = .joining ∧ t.station.syncCount = 1 ∧ t.station.syncTimer = some (s.now + 250) ∧ t.port.command = none ∧
      t.port.response = some [byteOf code.code] ∧ t.config = s.config ∧ t.replica = s.replica ∧
      t.link.general = s.link.general ++ [.fixed (.syncRequest (s.epoch.getD 0))] ∧
      ∀ n, (t.peer n).silence = none ∧ (t.peer n).orphanHold = none := by
  have hmembers : (u.responds code []).conclude.members = u.members := by simp
  refine ⟨by rw [State.conclude_mode]; exact h.mode, ?_, ?_, ?_, ?_, ?_, ?_, ?_, fun n => ?_⟩
  · simp [h.sync]
  · simp [h.sync]
  · simp [State.responds]
  · simp [State.responds]
  · simp [h.config]
  · simp [h.replica]
  · simp [h.general]
  · rw [State.peer_of_members hmembers]
    exact h.timers n

/-- R123: the slots of an emptied slot unit are FREE and off at the end of the event. -/
theorem StartsJoining.slots_free {s u : State} (h : StartsJoining s u) (hs : s.slotUnit = .reset) (code : ResponseCode)
    (i : SlotNo) : (((u.responds code []).conclude).slot i).state = .free ∧
      (((u.responds code []).conclude).slot i).enable = false := by
  have hfree : ((u.responds code []).slot i).state = .free := by
    rw [State.responds_slot, State.slot, h.slotUnit, hs]
    revert i
    decide
  refine ⟨?_, State.conclude_enable_off (.inl hfree)⟩
  rw [State.conclude_slot, State.refreshed_state, hfree]

theorem State.joinCommand_unconfigured {s : State} (hm : s.mode = .unconfigured) (hg : s.config.general.given = true) :
    s.joinCommand = ((s.setConfig { s.config with locked := true }).changeState .joining .joinCommand).accept := by
  simp only [State.joinCommand, hm, if_pos hg]

theorem State.joinCommand_offline {s : State} (hm : s.mode = .offline) (ho : s.station.offline = some .leave) :
    s.joinCommand = (s.freshTables.changeState .joining .joinCommand).accept := by
  simp only [State.joinCommand, hm, if_pos ho]

theorem Command.join_sized : Command.join.sized := by simp [Command.sized, Command.bytes]

theorem joinAccepted_unconfigured {s : State} (h : s.Open) (hi : s.link.inbound = []) (hg : s.link.general.length < 6)
    (hm : s.mode = .unconfigured) (hgiven : s.config.general.given = true) :
    ∃ u, exec .join s = .next (u.responds .accepted []).conclude ∧
      StartsJoining ((s.holding .join).setConfig { s.config with locked := true }) u :=
  ⟨((s.holding .join).setConfig { s.config with locked := true }).changeState .joining .joinCommand,
    h.exec_concludes .join Command.join_sized (State.joinCommand_unconfigured (s := s.holding .join) hm hgiven),
    State.changeState_startsJoining (s := (s.holding .join).setConfig { s.config with locked := true }) hi hg .joinCommand⟩

theorem joinAccepted_offline {s : State} (h : s.Open) (hi : s.link.inbound = []) (hg : s.link.general.length < 6)
    (hm : s.mode = .offline) (ho : s.station.offline = some .leave) :
    ∃ u, exec .join s = .next (u.responds .accepted []).conclude ∧ StartsJoining (s.holding .join).freshTables u :=
  ⟨(s.holding .join).freshTables.changeState .joining .joinCommand,
    h.exec_concludes .join Command.join_sized (State.joinCommand_offline (s := s.holding .join) hm ho),
    State.changeState_startsJoining (s := (s.holding .join).freshTables) hi hg .joinCommand⟩

/-! LEAVE. -/

/-- R162: the station whose LEAVE waits in the general lane. -/
def State.leaving (s : State) : State := s.setLeavePending.pushGeneral (.fixed .leave)

theorem State.leaveCommand_queues {s : State} (hm : s.mode = .member) (hl : s.slotUnit.leavePending = false)
    (hb : s.boundByCrank = false) (hg : s.link.general.length < 6) : s.leaveCommand = s.leaving.accept := by
  simp [State.leaveCommand, State.checked, State.mayQueue, State.generalRoom, Config.generalCapacity, hm, hl, hb, hg,
    State.leaving]

/-- R123: while a LEAVE is pending no slot but a CARRIED one is on. -/
theorem State.enableRule_leaving {s : State} (hl : s.slotUnit.leavePending = true) {i : SlotNo}
    (hc : (s.slot i).state ≠ .carried) : s.enableRule i = false := by
  simp only [State.enableRule, Bool.and_eq_false_iff]
  right
  split
  · exact absurd ‹(s.slot i).state = .carried› hc
  · simp [hl]
  · simp [hl]
  · simp

theorem leaveAccepted {s : State} (h : s.Open) (hm : s.mode = .member) (hl : s.slotUnit.leavePending = false)
    (hb : s.boundByCrank = false) (hg : s.link.general.length < 6) :
    ∃ t, exec .leave s = .next t ∧
      t = ((s.setLink { s.link with general := s.link.general ++ [.fixed .leave] }).setSlotUnit t.slotUnit).responds
        .accepted [] ∧
      t.slotUnit.leavePending = true ∧ ∀ i, (t.slot i).state = (s.slot i).state ∧ (t.slot i).values = (s.slot i).values ∧
        ((t.slot i).state ≠ .carried → (t.slot i).enable = false) := by
  refine ⟨_, h.exec_concludes .leave (by simp [Command.sized, Command.bytes])
    (State.leaveCommand_queues (s := s.holding .leave) hm hl hb hg), ?_⟩
  generalize hu : (s.holding .leave).leaving.responds .accepted [] = u
  have hslot (i : SlotNo) : u.slot i = s.slot i := by rw [← hu]; rfl
  have hpending : u.slotUnit.leavePending = true := by rw [← hu]; rfl
  have hlive : u.mode.live = true := by
    have hmode : u.mode = s.mode := by rw [← hu]; rfl
    rw [hmode, hm]
    rfl
  have hepisodes : u.episodes = [] := by
    refine h.settled.no_episodes ?_ ?_ ?_ (fun i => by rw [hslot]) (fun i => by rw [hslot]) <;> rw [← hu] <;> rfl
  refine ⟨?_, by simpa using hpending, fun i => ?_⟩
  · rw [State.conclude_of_no_episodes hepisodes, History.trim_of_le (by rw [← hu]; exact h.settled.2), ← hu]
    rfl
  · rw [State.conclude_slot, State.refreshed_state, State.refreshed_values, State.refreshed_live u i _ hlive, hslot]
    refine ⟨rfl, rfl, fun hc => State.enableRule_leaving hpending ?_⟩
    rwa [hslot]

/-- Settles O14: a JOIN by the entry into JOINING that either state comes to, a LEAVE by the frame it queues. -/
theorem joinAndLeaveAccepted : Obligations.JoinAndLeaveAccepted := by
  refine ⟨fun s hopen hfits hg hfrom => ?_, fun s hopen hm hl hb hg => leaveAccepted hopen hm hl hb hg⟩
  rcases hfrom with ⟨hm, hgiven⟩ | ⟨hm, ho⟩
  · obtain ⟨u, hexec, hjoins⟩ := joinAccepted_unconfigured hopen (hfits.eq_nil (.inl hm)) hg hm hgiven
    obtain ⟨hmode, hcount, htimer, hcommand, hresponse, hconfig, hreplica, hgeneral, hpeers⟩ := hjoins.ends .accepted
    exact ⟨_, hexec, hmode, hcount, htimer, hcommand, hresponse, fun _ => ⟨hconfig, hreplica, hgeneral⟩,
      fun hoff => (nomatch hm.symm.trans hoff), hpeers⟩
  · obtain ⟨u, hexec, hjoins⟩ := joinAccepted_offline hopen (hfits.eq_nil (.inr (.inr hm))) hg hm ho
    obtain ⟨hmode, hcount, htimer, hcommand, hresponse, hconfig, hreplica, hgeneral, hpeers⟩ := hjoins.ends .accepted
    exact ⟨_, hexec, hmode, hcount, htimer, hcommand, hresponse, fun hun => (nomatch hm.symm.trans hun),
      fun _ => ⟨hconfig, hreplica, hjoins.slots_free rfl .accepted, hgeneral⟩, hpeers⟩

end Sys2Proof.Machine
end

section
/-! The image of a valid replica spells that replica (R98, R172): what each field's encoder writes its decoder reads back,
in the order of 11.3. -/

namespace Sys2Proof.Machine

/-! Numbers in bytes (11.1). -/

theorem byteOf_toNat {n : Nat} (h : n < 256) : (byteOf n).toNat = n := by
  rw [byteOf, BitVec.toNat_ofNat]
  omega

theorem wordOf_wordBytes {n : Nat} (h : n < 4294967296) :
    wordOf (byteOf (n / 16777216)) (byteOf (n / 65536)) (byteOf (n / 256)) (byteOf n) = n := by
  simp only [wordOf, byteOf, BitVec.toNat_ofNat]
  omega

theorem halfOf_natBytes {n : Nat} (h : n < 65536) :
    (halfOf ((BitVec.ofNat 16 n).extractLsb' 8 8) ((BitVec.ofNat 16 n).extractLsb' 0 8)).toNat = n := by
  rw [halfOf_halfBytes, BitVec.toNat_ofNat]
  omega

/-! Codes (R169). -/

theorem LoadClass.ofCode_code (c : LoadClass) : LoadClass.ofCode (BitVec.ofNat 3 c.code).toNat = some c := by
  cases c <;> rfl

theorem ClaimState.ofCode_code (st : ClaimState) : ClaimState.ofCode (BitVec.ofNat 3 st.code).toNat = some st := by
  cases st <;> rfl

theorem Phase.ofCode_code (p : Phase) : Phase.ofCode (BitVec.ofNat 3 p.code).toNat = some p := by
  cases p <;> rfl

theorem Role.ofCode_code (role : Role) : Role.ofCode (BitVec.ofNat 2 role.code).toNat = some role := by
  cases role <;> rfl

theorem optPriorOf_code (p : Option PriorState) :
    optPriorOf (BitVec.ofNat 2 ((p.map PriorState.code).getD 0)).toNat = some p := by
  cases p with
  | none => rfl
  | some p => cases p <;> rfl

theorem Key.code_lt (k : Key) : k.code < 64 := by
  rw [Key.code]
  omega

theorem Key.ofCode_code (k : Key) : Key.ofCode k.code = some k := by
  obtain ⟨station, slot⟩ := k
  revert station slot
  decide

theorem optStationOf_stationByte (o : Option Station) : optStationOf (stationByte o) = some o := by
  cases o with
  | none => rfl
  | some n =>
    revert n
    decide

theorem optKeyOf_keyByte (o : Option Key) : optKeyOf (keyByte o) = some o := by
  cases o with
  | none => rfl
  | some k =>
    obtain ⟨station, slot⟩ := k
    revert station slot
    decide

/-! The phase record. -/

theorem phaseStateByte (code : BitVec 3) (attempts : BitVec 2) (brownout announced : Bool) :
    let b : Byte := code ++ attempts ++ BitVec.ofBool brownout ++ BitVec.ofBool announced ++ 0#1
    b.extractLsb' 5 3 = code ∧ b.extractLsb' 3 2 = attempts ∧ b.getLsbD 2 = brownout ∧ b.getLsbD 1 = announced := by
  revert code attempts brownout announced
  decide

theorem phaseRecordOf_bytes {p : PhaseRecord} (h : p.inRange = true) :
    phaseRecordOf p.stateByte ((BitVec.ofNat 16 p.ceiling).extractLsb' 8 8) ((BitVec.ofNat 16 p.ceiling).extractLsb' 0 8)
      ((BitVec.ofNat 16 p.reserve).extractLsb' 8 8) ((BitVec.ofNat 16 p.reserve).extractLsb' 0 8)
      (stationByte p.crankStation) (stationByte p.supplyStation) = some p := by
  obtain ⟨hceiling, hreserve⟩ : p.ceiling ≤ 1600 ∧ p.reserve ≤ p.ceiling := p.inRange_iff.mp h
  obtain ⟨hphase, hattempts, hbrownout, hannounced⟩ :=
    phaseStateByte (BitVec.ofNat 3 p.phase.code) p.attempts p.brownout p.announced
  simp only [phaseRecordOf, PhaseRecord.stateByte, hphase, hattempts, hbrownout, hannounced, Phase.ofCode_code,
    optStationOf_stationByte, halfOf_natBytes (show p.ceiling < 65536 by omega),
    halfOf_natBytes (show p.reserve < 65536 by omega)]
  rfl

/-! The roster. -/

theorem Capability.fits_byte {c : Capability} (h : c.inRange = true) : c.maxAmps < 256 ∧ c.settle < 256 := by
  unfold Capability.inRange at h
  split at h
  · simp only [decide_eq_true_eq] at h
    omega
  · rw [beq_iff_eq.mp h]
    decide

theorem capabilityOf_bytes {c : Capability} (h : c.inRange = true) :
    capabilityOf (BitVec.ofBool c.used ++ 0#4 ++ BitVec.ofNat 3 c.cls.code) (byteOf c.maxAmps) (byteOf c.settle) =
      some c := by
  obtain ⟨hamps, hsettle⟩ := c.fits_byte h
  obtain ⟨hused, hcls⟩ := usedClassByte c.used (BitVec.ofNat 3 c.cls.code)
  simp only [capabilityOf, hused, hcls, LoadClass.ofCode_code, byteOf_toNat hamps, byteOf_toNat hsettle, Option.map_some]

theorem presentRoleByte (present : Bool) (role : BitVec 2) :
    let b : Byte := BitVec.ofBool present ++ 0#5 ++ role
    b.getLsbD 7 = present ∧ b.extractLsb' 0 2 = role := by
  revert present role
  decide

theorem RosterEntry.caps_inRange {e : RosterEntry} (h : e.inRange = true) : ∀ c ∈ e.caps.toList, c.inRange = true := by
  unfold RosterEntry.inRange at h
  split at h
  · exact List.all_eq_true.mp h
  · rw [beq_iff_eq.mp h]
    decide

theorem rosterEntryOf_of_parts {b0 a0 a1 a2 c0 c1 c2 d0 d1 d2 e0 e1 e2 : Byte} {role : Role} {k0 k1 k2 k3 : Capability}
    (hrole : Role.ofCode (b0.extractLsb' 0 2).toNat = some role) (h0 : capabilityOf a0 a1 a2 = some k0)
    (h1 : capabilityOf c0 c1 c2 = some k1) (h2 : capabilityOf d0 d1 d2 = some k2) (h3 : capabilityOf e0 e1 e2 = some k3) :
    rosterEntryOf b0 a0 a1 a2 c0 c1 c2 d0 d1 d2 e0 e1 e2 =
      some { present := b0.getLsbD 7, role := role, caps := #v[k0, k1, k2, k3] } := by
  simp only [rosterEntryOf, hrole, h0, h1, h2, h3]
  rfl

theorem rosterOf_of_entry {b0 a0 a1 a2 c0 c1 c2 d0 d1 d2 e0 e1 e2 : Byte} {e : RosterEntry}
    (h : rosterEntryOf b0 a0 a1 a2 c0 c1 c2 d0 d1 d2 e0 e1 e2 = some e) (n : Nat) (rest : List Byte) :
    rosterOf (n + 1) (b0 :: a0 :: a1 :: a2 :: c0 :: c1 :: c2 :: d0 :: d1 :: d2 :: e0 :: e1 :: e2 :: rest) =
      (rosterOf n rest).map fun x => (e :: x.1, x.2) := by
  simp only [rosterOf, h]
  cases rosterOf n rest <;> rfl

/-- 11.3: a roster entry is read back with what stands behind it. -/
theorem rosterOf_entry {e : RosterEntry} (h : e.inRange = true) (n : Nat) (rest : List Byte) :
    rosterOf (n + 1) (e.bytes ++ rest) = (rosterOf n rest).map fun x => (e :: x.1, x.2) := by
  have hcaps := RosterEntry.caps_inRange h
  obtain ⟨present, role, ⟨⟨caps⟩, hsize⟩⟩ := e
  match caps, hsize with
  | [k0, k1, k2, k3], hsize =>
    obtain ⟨h0, h1, h2, h3⟩ : k0.inRange = true ∧ k1.inRange = true ∧ k2.inRange = true ∧ k3.inRange = true := by
      simpa using hcaps
    obtain ⟨hpresent, hrole⟩ := presentRoleByte present (BitVec.ofNat 2 role.code)
    have hentry := rosterEntryOf_of_parts (hrole ▸ Role.ofCode_code role) (capabilityOf_bytes h0) (capabilityOf_bytes h1)
      (capabilityOf_bytes h2) (capabilityOf_bytes h3)
    rw [hpresent] at hentry
    exact rosterOf_of_entry hentry n rest

/-- 11.3: sixteen roster entries, or any number, are read back with what stands behind them. -/
theorem rosterOf_entries {es : List RosterEntry} (h : ∀ e ∈ es, e.inRange = true) (rest : List Byte) :
    rosterOf es.length (es.flatMap RosterEntry.bytes ++ rest) = some (es, rest) := by
  induction es with
  | nil => rfl
  | cons e es ih =>
    obtain ⟨he, hes⟩ := List.forall_mem_cons.mp h
    rw [List.flatMap_cons, List.append_assoc, List.length_cons, rosterOf_entry he, ih hes]
    rfl

theorem vecOf_toList {α : Type} {n : Nat} (v : Vector α n) : vecOf n v.toList = some v := by
  rw [vecOf, dif_pos v.length_toList]
  rfl

/-! The claim table. -/

theorem claimStateByte_fields (cls state : BitVec 3) (prior : BitVec 2) :
    let b : Byte := cls ++ state ++ prior
    b.extractLsb' 5 3 = cls ∧ b.extractLsb' 2 3 = state ∧ b.extractLsb' 0 2 = prior := by
  revert cls state prior
  decide

theorem Claim.held_le_requested {c : Claim} (h : c.coherent = true) : c.held ≤ c.requested := by
  have hfits (st : ClaimState) (hf : c.heldFits st) : c.held ≤ c.requested := by
    cases st with
    | held | stuck => exact Nat.le_of_eq hf
    | trimmed =>
      obtain ⟨m, -, -, hlt⟩ := hf
      exact hlt.le
    | waiting | shed =>
      have hzero : c.held = 0 := hf
      omega
    | orphaned => exact hf.elim
  rcases c.coherent_iff.mp h with ⟨-, -, hf⟩ | ⟨-, p, -, hf⟩
  · exact hfits _ hf
  · exact hfits _ hf

theorem Claim.inRange_iff (c : Claim) : c.inRange = true ↔ (1 ≤ c.requested ∧ c.requested ≤ 200) ∧
    (∀ m, c.minimum = some m → 1 ≤ m ∧ m < c.requested) ∧ c.arrival < Config.arrivalLimit ∧
    c.skip ≤ Config.barrierSkip := by
  cases hm : c.minimum <;> simp [Claim.inRange, hm, and_assoc]

/-- 11.3: an absent minimum is the byte 0. -/
theorem minimum_of_byte {o : Option Nat} (h : ∀ m, o = some m → 1 ≤ m ∧ m < 256) :
    (if byteOf (o.getD 0) = 0 then none else some (byteOf (o.getD 0)).toNat) = o := by
  cases o with
  | none => rfl
  | some m =>
    obtain ⟨hpos, hlt⟩ := h m rfl
    have hbyte : (byteOf m).toNat = m := byteOf_toNat hlt
    rw [Option.getD_some, if_neg, hbyte]
    intro hzero
    rw [hzero] at hbyte
    have : m = 0 := hbyte.symm
    omega

theorem claimOf_bytes {c : Claim} (hc : c.coherent = true) (hr : c.inRange = true) :
    claimOf (byteOf c.key.code)
      (BitVec.ofNat 3 c.cls.code ++ BitVec.ofNat 3 c.state.code ++ BitVec.ofNat 2 ((c.prior.map PriorState.code).getD 0))
      (byteOf c.requested) (byteOf (c.minimum.getD 0)) (byteOf c.held) (byteOf (c.arrival / 16777216))
      (byteOf (c.arrival / 65536)) (byteOf (c.arrival / 256)) (byteOf c.arrival) (byteOf c.skip) = some c := by
  obtain ⟨⟨-, hrequested⟩, hminimum, hlimit, hbarrier⟩ := c.inRange_iff.mp hr
  have harrival : c.arrival < 4294967295 := hlimit
  have hskip : c.skip ≤ 8 := hbarrier
  have hheld := Claim.held_le_requested hc
  have hkey := c.key.code_lt
  obtain ⟨hcls, hstate, hprior⟩ := claimStateByte_fields (BitVec.ofNat 3 c.cls.code) (BitVec.ofNat 3 c.state.code)
    (BitVec.ofNat 2 ((c.prior.map PriorState.code).getD 0))
  have hmin := minimum_of_byte (o := c.minimum) fun m hm => by
    have := hminimum m hm
    omega
  simp only [claimOf, hcls, hstate, hprior, LoadClass.ofCode_code, ClaimState.ofCode_code, optPriorOf_code, hmin,
    byteOf_toNat (show c.key.code < 256 by omega), byteOf_toNat (show c.requested < 256 by omega),
    byteOf_toNat (show c.held < 256 by omega), byteOf_toNat (show c.skip < 256 by omega),
    wordOf_wordBytes (show c.arrival < 4294967296 by omega), Key.ofCode_code]
  rfl

theorem claimsOf_bytes {claims : List Claim} (h : ∀ c ∈ claims, c.coherent = true ∧ c.inRange = true) :
    claimsOf claims.length (claims.flatMap Claim.bytes) = some claims := by
  induction claims with
  | nil => rfl
  | cons c claims ih =>
    obtain ⟨⟨hc, hr⟩, hrest⟩ := List.forall_mem_cons.mp h
    simp only [List.length_cons, List.flatMap_cons, Claim.bytes, wordBytes, List.cons_append, List.nil_append, claimsOf,
      claimOf_bytes hc hr, ih hrest]
    rfl

/-- R1: a table in key order holds at most the 64 keys there are. -/
theorem keyOrdered_length_le {claims : List Claim} (h : keyOrdered claims = true) : claims.length ≤ 64 := by
  have hnodup : (claims.map fun c => c.key.code).Nodup :=
    List.pairwise_map.mpr (((keyOrdered_iff _).mp h).imp fun hlt => hlt.ne)
  have hsubset : (claims.map fun c => c.key.code) ⊆ List.range 64 := by
    intro n hn
    obtain ⟨c, -, rfl⟩ := List.mem_map.mp hn
    exact List.mem_range.mpr c.key.code_lt
  simpa using (List.subperm_of_subset hnodup hsubset).length_le

/-- R1: a record whose key comes last enters the table at its end. -/
theorem insertClaim_last {c : Claim} {table : List Claim} (h : ∀ d ∈ table, d.key.code < c.key.code) :
    insertClaim c table = table ++ [c] := by
  induction table with
  | nil => rfl
  | cons d table ih =>
    obtain ⟨hd, htable⟩ := List.forall_mem_cons.mp h
    rw [insertClaim, if_neg (by omega), ih htable]
    rfl

/-- R1: records that stand in key order are the table they make. -/
theorem tableOf_ordered {claims : List Claim} (h : keyOrdered claims = true) : tableOf claims = claims := by
  have hfold (l table : List Claim) (ho : (table ++ l).Pairwise fun a b => a.key.code < b.key.code) :
      l.foldl (fun table c => if table.any fun d => d.key == c.key then table else insertClaim c table) table =
        table ++ l := by
    induction l generalizing table with
    | nil => simp
    | cons c l ih =>
      obtain ⟨-, -, hcross⟩ := List.pairwise_append.mp ho
      have hlast : ∀ d ∈ table, d.key.code < c.key.code := fun d hd => hcross d hd c (by simp)
      have hnew : (table.any fun d => d.key == c.key) = false := by
        refine List.any_eq_false.mpr fun d hd heq => ?_
        have hlt := hlast d hd
        rw [beq_iff_eq.mp heq] at hlt
        exact lt_irrefl _ hlt
      rw [List.foldl_cons, hnew, if_neg (by decide), insertClaim_last hlast, ih _ (by simpa using ho)]
      simp
  exact hfold claims [] (by simpa using (keyOrdered_iff _).mp h)

/-! The replica (R172). -/

/-- The replica with no digest yet, as an image spells it. -/
def Replica.undigested (r : Replica) : Replica := { r with digest := 0 }

theorem Replica.valid_iff (r : Replica) : r.valid = true ↔ r.phase.inRange = true ∧ keyOrdered r.claims = true ∧
    (∀ c ∈ r.claims, c.coherent = true ∧ c.inRange = true) ∧ (∀ e ∈ r.roster.toList, e.inRange = true) ∧
    r.arrival ≤ Config.arrivalLimit := by
  simp only [Replica.valid, Bool.and_eq_true, List.all_eq_true, decide_eq_true_eq, and_assoc]

theorem Replica.parse_of_parts {a3 a2 a1 a0 p0 s1 s0 r1 r0 crank supply gate count : Byte} {rest bytes : List Byte}
    {epoch : Half} {phase : PhaseRecord} {holder : Option Key} {entries : List RosterEntry} {roster : Vector RosterEntry 16}
    {claims : List Claim} (hphase : phaseRecordOf p0 s1 s0 r1 r0 crank supply = some phase)
    (hgate : optKeyOf gate = some holder) (hentries : rosterOf 16 rest = some (entries, count :: bytes))
    (hroster : vecOf 16 entries = some roster) (hclaims : Machine.claimsOf count.toNat bytes = some claims) :
    Replica.parse epoch (a3 :: a2 :: a1 :: a0 :: p0 :: s1 :: s0 :: r1 :: r0 :: crank :: supply :: gate :: rest) =
      some { claims := claims, arrival := wordOf a3 a2 a1 a0, phase := phase, gate := holder, roster := roster,
             epoch := epoch, digest := 0 } := by
  simp [Replica.parse, hphase, hgate, hentries, hroster, hclaims]

theorem Replica.serialize_eq (r : Replica) : r.serialize =
    byteOf (r.arrival / 16777216) :: byteOf (r.arrival / 65536) :: byteOf (r.arrival / 256) :: byteOf r.arrival ::
      r.phase.stateByte :: (BitVec.ofNat 16 r.phase.ceiling).extractLsb' 8 8 ::
      (BitVec.ofNat 16 r.phase.ceiling).extractLsb' 0 8 :: (BitVec.ofNat 16 r.phase.reserve).extractLsb' 8 8 ::
      (BitVec.ofNat 16 r.phase.reserve).extractLsb' 0 8 :: stationByte r.phase.crankStation ::
      stationByte r.phase.supplyStation :: keyByte r.gate ::
      (r.roster.toList.flatMap RosterEntry.bytes ++ byteOf r.claims.length :: r.claims.flatMap Claim.bytes) := by
  simp [Replica.serialize, wordBytes, PhaseRecord.bytes, natBytes, halfBytes]

/-- R172: the serialization of a valid replica spells it. -/
theorem Replica.parse_serialize {r : Replica} (h : r.valid = true) :
    Replica.parse r.epoch r.serialize = some r.undigested := by
  obtain ⟨hphase, hordered, hclaims, hroster, hlimit⟩ := r.valid_iff.mp h
  have harrival : r.arrival ≤ 4294967295 := hlimit
  have hcount : (byteOf r.claims.length).toNat = r.claims.length := byteOf_toNat (by
    have := keyOrdered_length_le hordered
    omega)
  have hentries := rosterOf_entries hroster (byteOf r.claims.length :: r.claims.flatMap Claim.bytes)
  rw [r.roster.length_toList] at hentries
  rw [Replica.serialize_eq, Replica.parse_of_parts (phaseRecordOf_bytes hphase) (optKeyOf_keyByte r.gate) hentries
    (vecOf_toList r.roster) (by rw [hcount]; exact claimsOf_bytes hclaims), wordOf_wordBytes (by omega)]
  rfl

/-- R172: the digest is no part of what it is computed from. -/
theorem Replica.computeDigest_undigested (r : Replica) : r.undigested.computeDigest = r.computeDigest := by
  have hserialize : r.undigested.serialize = r.serialize := rfl
  rw [Replica.computeDigest, hserialize, Replica.computeDigest]

/-- R1: the records of a valid replica are its table. -/
theorem Replica.tabled_undigested {r : Replica} (h : r.valid = true) : r.undigested.tabled = r.undigested := by
  obtain ⟨-, hordered, -⟩ := r.valid_iff.mp h
  rw [Replica.tabled, show r.undigested.claims = r.claims from rfl, tableOf_ordered hordered]
  rfl

/-- R98, R172: the four checks of an image. -/
theorem Replica.ofImage_of_checks {epoch digest : Half} {image : List Byte} {spelt : Replica}
    (hparse : Replica.parse epoch image = some spelt) (himage : spelt.serialize = image)
    (hcoherent : spelt.claims.all Claim.coherent = true) (hdigest : spelt.tabled.computeDigest = digest) :
    Replica.ofImage epoch image epoch digest = some { spelt.tabled with digest := digest } := by
  rw [Replica.ofImage, hparse]
  exact if_pos ⟨rfl, himage, hcoherent, hdigest⟩

/-- Settles O60: the image spells the replica, whose records are in key order already, and passes its own four checks. -/
theorem imageRoundTrip : Obligations.ImageRoundTrip := by
  intro r hvalid hdigest
  obtain ⟨-, -, hclaims, -⟩ := r.valid_iff.mp hvalid
  have htabled := Replica.tabled_undigested hvalid
  rw [Replica.ofImage_of_checks (Replica.parse_serialize hvalid) rfl
    (List.all_eq_true.mpr fun c hc => (hclaims c hc).1)
    (by rw [htabled, Replica.computeDigest_undigested, hdigest]), htabled]
  rfl

end Sys2Proof.Machine
end

section
/-! What every step leaves: the slot records as the state requires them, and the newest 32 history entries (R123, R127,
R131, R153). With it the passing of 1 ms, which moves hold times alone (R120, R134). -/

namespace Sys2Proof.Machine

/-! Rows that end as an event, or change nothing. -/

theorem State.Settled.applyHead {s : State} (h : s.Settled) (kind : FrameKind) (act : Frame → State → State) :
    (s.applyHead kind act).Settled := by
  unfold State.applyHead
  split
  · split
    · exact State.conclude_settled _
    · exact h
  · exact h

theorem State.Settled.applyKind {s : State} (h : s.Settled) (kind : FrameKind) : (s.applyKind kind).Settled := by
  cases kind <;> exact h.applyHead _ _

/-- R87: the changes that waited for the end of an application end as an event. -/
theorem State.Settled.application {s : State} (h : s.Settled) (kind : FrameKind) : (s.application kind).Settled := by
  unfold State.application
  split
  · exact State.conclude_settled _
  · exact h.applyKind kind

/-- R159: so does the command that is taken at the end of an application. -/
theorem State.Settled.applyRow {s : State} (h : s.Settled) (kind : FrameKind) : (s.applyRow kind).Settled := by
  unfold State.applyRow
  split
  · exact State.conclude_settled _
  · exact h.application kind

theorem State.Settled.give {s : State} (h : s.Settled) (c : Command) : (s.give c).Settled := by
  unfold State.give
  split
  · exact h
  · exact State.conclude_settled _

theorem State.Settled.expire {s : State} (h : s.Settled) (deadline : Option Nat) (act : State → State) :
    (s.expire deadline act).Settled := by
  cases deadline with
  | some d => exact State.conclude_settled _
  | none => exact h

/-- R167: held in reset, and at the rise of RESET#, every slot is FREE in an UNCONFIGURED station. -/
theorem State.pinReset_settled (s : State) (edge : ResetEdge) (pins : StrapPins) : (s.pinReset edge pins).Settled := by
  have hslots : ∀ i, State.reset.refreshed i (State.reset.slot i) = State.reset.slot i := reset_settled.1
  have hblank (straps : Straps) : (s.blank straps).Settled := ⟨hslots, reset_settled.2⟩
  cases edge
  case fall => exact ⟨hslots, reset_settled.2⟩
  case rise => exact hblank _

/-- Every row leaves a settled state. -/
theorem exec_settled {c : Instr} {s t : State} (h : s.Settled) (he : exec c s = .next t) : t.Settled := by
  have hnext {u : State} (hu : u.Settled) (e : Host.Outcome.next u = (.next t : Host.Outcome State Fault Refusal)) :
      t.Settled := by
    cases e
    exact hu
  cases c
  case pinReset edge pins => exact hnext (s.pinReset_settled edge pins) he
  case spiStatusTransfer | spiWriteTransfer | spiReadTransfer | startBit | lostContention | frameReceived |
      shedFallingEdge | shedRisingEdge | feedbackChange =>
    exact hnext (State.conclude_settled _) he
  case presenceFrame | syncRequestFrame | snapshotFrame | joinFrame | leaveFrame | claimFrame | releaseFrame |
      settledFrame | phaseFrame | budgetFrame | shedRequestFrame | liftFrame | shedFaultFrame | stuckClearFrame |
      absenceFrame | reclaimFrame =>
    exact hnext (h.applyRow _) he
  case readbackFailure | frameCompletedClean =>
    simp only [exec, execReadbackFailure, execFrameCompletedClean] at he
    split at he
    · exact hnext (State.conclude_settled _) he
    · exact hnext h he
  case gateTimeoutExpiry =>
    simp only [exec, execGateTimeoutExpiry] at he
    split at he
    · exact hnext (h.expire _ _) he
    · exact hnext h he
  case heartbeatExpiry | probeDue | syncTimeout | isolationBySilence | silenceTimerExpiry | orphanHoldExpiry |
      crankSettleExpiry | lockoutExpiry | latchLimitExpiry | offDeadlineExpiry | stuckClearRetry | settleTimerExpiry |
      holdLimit | vsenseSample | watchPulseExpiry =>
    exact hnext (h.expire _ _) he
  all_goals exact hnext (h.give _) he

/-- Settles O5: every row ends as an event or changes nothing; a tick moves what no slot follows. -/
theorem stepKeepsSettled : Obligations.StepKeepsSettled := by
  intro s t h he
  unfold step at he
  split at he
  · cases he
    exact h.advanceTo _
  · exact exec_settled (h.setPending _) he

/-! The hold time of a slot (R134). -/

/-- R134: the hold time of a slot that counts rises up to its limit. -/
theorem State.countsHold.heldFor_eq {s : State} {i : SlotNo} {limit : Nat} (h : s.countsHold i limit) (elapsed : Nat) :
    heldFor s.mode.live (s.part i) elapsed (s.slot i) =
      { s.slot i with holdTime := Nat.min (limit * 1000) ((s.slot i).holdTime + elapsed) } := by
  obtain ⟨hlive, hused, hcls, hlimit, hstate⟩ := h
  rcases hstate with hstate | hstate <;> simp [heldFor, hlive, hused, hcls, hlimit, hstate]

/-- R120, R134: a slot whose hold time does not count stands as it is. -/
theorem State.heldFor_still {s : State} {i : SlotNo} (h : ∀ limit, ¬ s.countsHold i limit) (elapsed : Nat) :
    heldFor s.mode.live (s.part i) elapsed (s.slot i) = s.slot i := by
  unfold heldFor
  split
  case h_1 limit hon hlimit hstate | h_2 limit hon hlimit hstate =>
    simp only [Bool.and_eq_true, beq_iff_eq] at hon
    obtain ⟨⟨hlive, hused⟩, hcls⟩ := hon
    exact absurd ⟨hlive, hused, hcls, hlimit, by simp [hstate]⟩ (h limit)
  case h_3 => rfl

theorem State.tick_eq (s : State) : s.tick =
    (s.setSlots (mapSlots (fun i => heldFor s.mode.live (s.part i) (s.now + 1 - s.now)) s.slotUnit.slots)).setNow
      (s.now + 1) :=
  if_neg (by omega)

/-- Settles O2: a tick moves the hold times that count, and the local time. -/
theorem emptyQueueTicks : Obligations.EmptyQueueTicks := by
  intro s hq
  have hslot (i : SlotNo) : s.tick.slot i = heldFor s.mode.live (s.part i) 1 (s.slot i) := by
    rw [State.tick_eq, Nat.add_sub_cancel_left]
    exact mapSlots_get _ _ i
  refine ⟨s.tick, by rw [step, hq], by rw [State.tick_eq]; rfl, by rw [State.tick_eq]; rfl, fun i => ?_⟩
  rw [hslot]
  exact ⟨fun limit h => h.heldFor_eq 1, fun h => State.heldFor_still h 1⟩

end Sys2Proof.Machine
end

section
/-! SHED_FAULT and STUCK_CLEAR (R128, R130): both change the record that their sender's slot byte names, and no other. -/

namespace Sys2Proof.Machine

/-- R128, checks 1 to 3. -/
theorem senderRecord_of_find {f : Frame} {r : Replica} {b : Byte} {slot : SlotNo} {c : Claim}
    (hp : r.isPresent f.sender = true) (hs : slotOf b = some slot) (hc : r.find ⟨f.sender, slot⟩ = some c) :
    senderRecord f r b = .ok c := by
  simp only [senderRecord, hp, hs, hc, if_true]

theorem shedFaultEffect_eq {f : Frame} {r : Replica} {b : Byte} {k : Key} {c : Claim} (hb : f.body = .shedFault b)
    (hc : senderRecord f r b = .ok c) (hk : c.key = k) :
    shedFaultEffect f r =
      if c.state = .shed ∨ c.state = .held ∨ c.state = .trimmed then
        .made (r.change k fun c => { c with state := .stuck, held := c.requested })
          [{ key := k, before := some c.state, after := some .stuck, held := c.requested }]
      else .ignore r .notApplicable := by
  simp only [shedFaultEffect, hb, hc, hk]
  cases c.state <;> simp [ClaimState.given]

theorem stuckClearEffect_eq {f : Frame} {r : Replica} {b : Byte} {k : Key} {c : Claim} (hb : f.body = .stuckClear b)
    (hc : senderRecord f r b = .ok c) (hk : c.key = k) :
    stuckClearEffect f r =
      if c.state = .stuck then
        .made ((r.change k fun c => { c with state := .shed, held := 0 }).release k)
          [{ key := k, before := some .stuck, after := some .shed, held := 0 }]
      else .ignore r .notStuck := by
  simp only [stuckClearEffect, hb, hc, hk]

/-- R37: a gate that opens leaves the table. -/
theorem Replica.release_find (r : Replica) (k j : Key) : (r.release k).find j = r.find j := by
  unfold Replica.release
  split <;> rfl

theorem Replica.release_gate (r : Replica) (k : Key) :
    (r.release k).gate = if r.gate = some k then none else r.gate := by
  unfold Replica.release
  split <;> rfl

/-- A record that is changed keeps its place, and every other record stays. -/
theorem Replica.find_change_at {r : Replica} {k : Key} {c : Claim} (hc : r.find k = some c) {g : Claim → Claim}
    (hg : ∀ d, (g d).key = d.key) :
    (r.change k g).find k = some (g c) ∧ ∀ j, j ≠ k → (r.change k g).find j = r.find j := by
  refine ⟨?_, fun j hj => ?_⟩
  · rw [r.find_change k k hg, if_pos rfl, hc]
    rfl
  · rw [r.find_change k j hg, if_neg hj]

/-- Settles O41: the checks of the two frames, then the one record that each changes. -/
theorem stuckFrames : Obligations.StuckFrames := by
  intro f r b slot c hp hs hc k
  have hrecord := senderRecord_of_find hp hs hc
  refine ⟨fun hb => ?_, fun hb => ?_⟩
  · rw [shedFaultEffect_eq hb hrecord (key_eq_of_findClaim hc)]
    obtain ⟨hown, hother⟩ := Replica.find_change_at (g := fun c => { c with state := .stuck, held := c.requested }) hc
      fun _ => rfl
    refine ⟨fun hst => ?_, fun h1 h2 h3 => ?_⟩
    · rw [if_pos hst]
      exact ⟨rfl, hown, rfl, hother⟩
    · rw [if_neg (by simp [h1, h2, h3])]
      rfl
  · rw [stuckClearEffect_eq hb hrecord (key_eq_of_findClaim hc)]
    obtain ⟨hown, hother⟩ := Replica.find_change_at (g := fun c => { c with state := .shed, held := 0 }) hc fun _ => rfl
    refine ⟨fun hst => ?_, fun hst => ?_⟩
    · rw [if_pos hst]
      exact ⟨rfl, (Replica.release_find _ _ _).trans hown, Replica.release_gate _ _,
        fun j hj => (Replica.release_find _ _ _).trans (hother j hj)⟩
    · rw [if_neg hst]
      rfl

end Sys2Proof.Machine
end

section
/-! CLAIM (R161, R122): the slot becomes SENDING, in which it follows no more than in FREE. -/

namespace Sys2Proof.Machine

/-- R123, R127, R129, R131: what the end of an event makes of a FREE or SENDING slot. -/
theorem State.refreshed_unclaimed {s : State} {i : SlotNo} (hl : s.mode.live = true)
    (h : (s.slot i).state = .free ∨ (s.slot i).state = .sending) (r : SlotRecord) :
    s.refreshed i r = { r with
      enable := false, offWatch := false, offDeadline := none, retry := none, unclaimed := s.reading i == some true } := by
  rw [State.refreshed_live s i r hl]
  rcases h with h | h <;>
    simp [State.enableRule, State.offConditions, State.orderedOff, State.stuckCleared, State.unclaimedDraw, h]

/-- R122: a FREE slot that becomes SENDING, with any claim values. -/
theorem State.Settled.sends {s : State} (hs : s.Settled) {i : SlotNo} (hf : (s.slot i).state = .free)
    (v : Option ClaimValues) : (s.putSlot i { s.slot i with state := .sending, values := v }).Settled := by
  refine State.Settled.putSlot hs i ?_
  generalize ht : s.putSlot i { s.slot i with state := .sending, values := v } = t
  have hmode : t.mode = s.mode := by simp [← ht, State.mode]
  have hstate : (t.slot i).state = .sending := by simp [← ht]
  have hreading : t.reading i = s.reading i := by subst ht; rfl
  have hi := hs.1 i
  cases hl : s.mode.live with
  | false =>
    rw [State.refreshed_dead _ _ _ hl] at hi
    rw [State.refreshed_dead _ _ _ (by rw [hmode, hl])]
    exact congrArg (fun r : SlotRecord => { r with state := LocalState.sending, values := v }) hi
  | true =>
    rw [State.refreshed_unclaimed hl (.inl hf)] at hi
    rw [State.refreshed_unclaimed (by rw [hmode, hl]) (.inr hstate), hreading]
    exact congrArg (fun r : SlotRecord => { r with state := LocalState.sending, values := v }) hi

/-- R161: a CLAIM within its checks. -/
theorem State.claimCommand_sends {s : State} {i : SlotNo} {slot requested minimum : Byte} (hm : s.mode = .member)
    (hl : s.slotUnit.leavePending = false) (hi : slotOf slot = some i) (hu : (s.part i).used = true)
    (hf : (s.slot i).state = .free) (hr : 1 ≤ requested.toNat ∧ requested.toNat ≤ (s.part i).maxAmps)
    (hmin : minimum = 0 ∨ (minimum.toNat < requested.toNat ∧ (s.part i).minAllowed = true))
    (hg : s.link.general.length < 6) :
    s.claimCommand slot requested minimum = (s.sendClaim i requested minimum).accept := by
  have hmin' : minimumOk (s.part i) requested minimum = true := by simpa [minimumOk] using hmin
  have hask : s.mode = .member ∧ s.mayQueue = true := ⟨hm, by simp [State.mayQueue, hl]⟩
  simp only [State.claimCommand, if_pos hask, hi]
  simp [State.checked, hu, hf, hr, hmin', s.generalRoom_iff.mpr hg]

/-- Settles O12: the slot that sends is settled in its place, so the end of the event adds nothing to the answer. -/
theorem claimAccepted : Obligations.ClaimAccepted := by
  intro s i slot requested minimum h hm hl hi hu hf hr1 hr2 hmin hg
  have hperf : (s.holding (.claim slot requested minimum)).perform (.claim slot requested minimum) =
      ⟨(s.holding (.claim slot requested minimum)).sendClaim i requested minimum, ⟨.accepted, []⟩⟩ :=
    State.claimCommand_sends (s := s.holding _) hm hl hi hu hf ⟨hr1, hr2⟩ hmin hg
  refine (h.exec_eq (.claim slot requested minimum) (by simp [Command.sized, Command.bytes]) hperf ?_).trans rfl
  exact State.Settled.sends ((h.settled.holding _).setLink _) hf _

end Sys2Proof.Machine
end

section
/-! The test for STUCK_CLEAR and its retry, and the hold limit of a slot (R129, R134). -/

namespace Sys2Proof.Machine

/-! One slot record rewritten in what no slot follows. -/

/-- A record with the state, the values and the latch of the slot's own, settled in its place. -/
theorem State.Settled.putSlot_beside {s : State} (hs : s.Settled) {i : SlotNo} {r : SlotRecord}
    (hstate : r.state = (s.slot i).state) (hvalues : r.values = (s.slot i).values) (hlatch : r.latch = (s.slot i).latch)
    (hr : s.refreshed i r = r) : (s.putSlot i r).Settled :=
  State.Settled.putSlot hs i (SameSlotInputs.refreshed_self (s := s) (t := s.putSlot i r)
    ⟨rfl, rfl, rfl, rfl, rfl, rfl, rfl, rfl, rfl⟩ i r (by simp [hstate]) (by simp [hvalues]) (by simp [hlatch]) hr)

theorem State.putSlot_putSlot (s : State) (i : SlotNo) (a b : SlotRecord) :
    (s.putSlot i a).putSlot i b = s.putSlot i b := by
  refine congrArg s.setSlots (slotVector_ext fun j => ?_)
  rw [mapSlots_get, mapSlots_get]
  by_cases hj : j = i
  · rw [if_pos hj, if_pos hj]
  · rw [if_neg hj, if_neg hj]
    exact (State.putSlot_slot s i j a).trans (if_neg hj)

/-! The test for STUCK_CLEAR at one slot (R129). -/

section
variable {s : State} {i : SlotNo}

theorem State.testStuckClear_room (hr : s.mode.reporting = true) (hc : s.stuckCleared i = true)
    (hq : s.inGeneral (Queued.isStuckClear i) = false) (hl : s.link.general.length < 6) :
    s.testStuckClear i = (s.setLink { s.link with
      general := s.link.general ++ [.fixed (.stuckClear (byteOf i.val))] }).putSlot i { s.slot i with retry := none } := by
  rw [State.testStuckClear, hr, hc, hq, if_pos (by rfl), if_pos (s.generalRoom_iff.mpr hl)]
  rfl

theorem State.testStuckClear_full (hr : s.mode.reporting = true) (hc : s.stuckCleared i = true)
    (hq : s.inGeneral (Queued.isStuckClear i) = false) (hl : s.link.general.length = 6) :
    s.testStuckClear i = (s.capture .outboundFull .none (some .stuckClear)).putSlot i
      { s.slot i with retry := some (s.now + (s.part i).offDeadline) } := by
  have hfull : ¬ s.generalRoom = true := fun h => absurd (s.generalRoom_iff.mp h) (by omega)
  rw [State.testStuckClear, hr, hc, hq, if_pos (by rfl), if_neg hfull]

/-- R129: nothing is queued where the station does not report, and where one stands in the lane. -/
theorem State.testStuckClear_idle (h : s.mode.reporting = false ∨ s.inGeneral (Queued.isStuckClear i) = true) :
    s.testStuckClear i = s := by
  rw [State.testStuckClear, if_neg]
  rcases h with h | h <;> simp [h]

/-! A retry that runs. -/

/-- R129: a retry runs while the slot is stuck cleared, in a live station. -/
theorem State.Settled.retry_runs {d : Nat} (hs : s.Settled) (h : (s.slot i).retry = some d) :
    s.mode.live = true ∧ s.stuckCleared i = true := by
  have hr := hs.1 i
  cases hl : s.mode.live with
  | false =>
    rw [State.refreshed_dead _ _ _ hl] at hr
    rw [← hr] at h
    cases h
  | true =>
    rw [State.refreshed_live _ _ _ hl] at hr
    cases hc : s.stuckCleared i with
    | true => exact ⟨rfl, rfl⟩
    | false =>
      rw [hc] at hr
      rw [← hr] at h
      cases h

/-- R129: a retry that runs may run anew or end. -/
theorem State.Settled.setRetry {d : Nat} (hs : s.Settled) (h : (s.slot i).retry = some d) (x : Option Nat) :
    (s.putSlot i { s.slot i with retry := x }).Settled := by
  obtain ⟨hl, hc⟩ := hs.retry_runs h
  refine hs.putSlot_beside rfl rfl rfl ?_
  calc s.refreshed i { s.slot i with retry := x } = { s.refreshed i (s.slot i) with retry := x } := by
        rw [State.refreshed_live _ _ _ hl, State.refreshed_live _ _ _ hl, hc, if_pos rfl]
    _ = { s.slot i with retry := x } := by rw [hs.1 i]

theorem State.advanceTo_retry (s : State) (d : Nat) (i : SlotNo) :
    ((s.advanceTo d).slot i).retry = (s.slot i).retry := by rw [s.advanceTo_slot]

theorem State.exec_stuckClearRetry {d : Nat} (h : (s.slot i).retry = some d) :
    exec (.stuckClearRetry i) s = .next ((s.advanceTo d).retryClear i).conclude := by
  rw [← s.expire_some h fun t => t.retryClear i]
  rfl

theorem State.exec_stuckClearRetry_stopped (h : (s.slot i).retry = none) : exec (.stuckClearRetry i) s = .next s := by
  show Host.Outcome.next (s.expire (s.slot i).retry fun t => t.retryClear i) = _
  rw [h]
  rfl

/-- R129: the test at the retry's end sees what the test before it saw. -/
theorem State.stuckCleared_setRetry (s : State) (i : SlotNo) (x : Option Nat) :
    (s.putSlot i { s.slot i with retry := x }).stuckCleared i = s.stuckCleared i :=
  SameSlotInputs.stuckCleared (s := s) (t := s.putSlot i { s.slot i with retry := x })
    ⟨rfl, rfl, rfl, rfl, rfl, rfl, rfl, rfl, rfl⟩ i (by simp)

/-- R129: the retry's end, where a STUCK_CLEAR is due and the general lane has room. -/
theorem State.retryClear_room {d : Nat} (hs : s.Settled) (h : (s.slot i).retry = some d) (hr : s.mode.reporting = true)
    (hq : s.inGeneral (Queued.isStuckClear i) = false) (hl : s.link.general.length < 6) :
    s.retryClear i = (s.setLink { s.link with
      general := s.link.general ++ [.fixed (.stuckClear (byteOf i.val))] }).putSlot i { s.slot i with retry := none } := by
  rw [State.retryClear, State.testStuckClear_room (s := s.putSlot i { s.slot i with retry := none }) hr
    ((s.stuckCleared_setRetry i none).trans (hs.retry_runs h).2) hq hl, State.putSlot_slot, if_pos rfl]
  exact (s.setLink _).putSlot_putSlot i _ _

/-- R70, R129: the retry's end at a full general lane. -/
theorem State.retryClear_full {d : Nat} (hs : s.Settled) (h : (s.slot i).retry = some d) (hr : s.mode.reporting = true)
    (hq : s.inGeneral (Queued.isStuckClear i) = false) (hl : s.link.general.length = 6) :
    s.retryClear i = ((s.putSlot i { s.slot i with retry := none }).capture .outboundFull .none
      (some .stuckClear)).putSlot i { s.slot i with retry := some (s.now + (s.part i).offDeadline) } := by
  rw [State.retryClear, State.testStuckClear_full (s := s.putSlot i { s.slot i with retry := none }) hr
    ((s.stuckCleared_setRetry i none).trans (hs.retry_runs h).2) hq hl, State.putSlot_slot, if_pos rfl]
  rfl

/-- R70, R129: the event of a retry that a full general lane drops once more. -/
theorem stuckClearRetryDrops {d : Nat} (hs : s.Settled) (h : (s.slot i).retry = some d) (hr : s.mode.reporting = true)
    (hq : s.inGeneral (Queued.isStuckClear i) = false) (hl : s.link.general.length = 6) :
    ∃ t, exec (.stuckClearRetry i) s = .next t ∧ t.link = s.link ∧ Counted s t .outboundFull ∧
      t.slot i = { (s.advanceTo d).slot i with retry := some (max s.now d + (s.part i).offDeadline) } := by
  have hu := hs.advanceTo d
  have hretry := (s.advanceTo_retry d i).trans h
  have hlink := s.advanceTo_link d
  have hcounter := s.advanceTo_counter d .outboundFull
  rw [State.exec_stuckClearRetry h, State.retryClear_full hu hretry (by simpa using hr) (by simpa using hq)
    (by rwa [hlink]), s.advanceTo_now, s.advanceTo_part]
  generalize s.advanceTo d = u at *
  generalize hw : u.putSlot i { u.slot i with retry := none } = w
  generalize hv : w.capture .outboundFull .none (some .stuckClear) = v
  have hunit : v.slotUnit = w.slotUnit := by simp [← hv]
  have hcounts : Counted s v .outboundFull := by
    have hbefore : w.counter .outboundFull = s.counter .outboundFull := by rw [← hcounter, ← hw]; rfl
    exact hv ▸ Counted.capture (by decide) hbefore _ _
  obtain ⟨hslots, hfault⟩ := (hu.setRetry hretry (some (max s.now d + (s.part i).offDeadline))).conclude_beside
    (u := v.putSlot i { u.slot i with retry := some (max s.now d + (s.part i).offDeadline) })
    (by subst hv hw; constructor <;> simp [State.shedHigh, State.ownDrive])
    (by rw [State.putSlot_slotUnit_congr hunit, ← hw, State.putSlot_putSlot])
  refine ⟨_, rfl, by simp [← hv, ← hw, hlink], (hcounts.of_fault (t := v.putSlot i _) rfl).of_fault hfault, ?_⟩
  rw [State.slot_of_slotUnit hslots]
  simp

end

/-! The hold limit (R134). -/

theorem State.countsHold.holdLimitAt_eq {s : State} {i : SlotNo} {limit : Nat} (h : s.countsHold i limit) :
    s.holdLimitAt i = some (s.now + (1000 * limit - (s.slot i).holdTime)) := by
  obtain ⟨hlive, hused, hcls, hlimit, hstate⟩ := h
  have hstate' : ((s.slot i).state == .held || (s.slot i).state == .trimmed) = true := by simpa using hstate
  simp [State.holdLimitAt, hlimit, hlive, hused, hcls, hstate']

theorem State.holdLimitAt_eq_none_iff (s : State) (i : SlotNo) :
    s.holdLimitAt i = none ↔ ∀ limit, ¬ s.countsHold i limit := by
  refine ⟨fun h limit hc => ?_, fun h => ?_⟩
  · rw [hc.holdLimitAt_eq] at h
    cases h
  · simp only [State.holdLimitAt]
    split
    case h_1 limit hlimit =>
      refine if_neg fun hon => h limit ?_
      simp only [Bool.and_eq_true, Bool.or_eq_true, beq_iff_eq] at hon
      obtain ⟨⟨⟨hlive, hused⟩, hcls⟩, hstate⟩ := hon
      exact ⟨hlive, hused, hcls, hlimit, hstate⟩
    case h_2 => rfl

theorem State.countsHold_of_holdLimitAt {s : State} {i : SlotNo} {d : Nat} (h : s.holdLimitAt i = some d) :
    ∃ limit, s.countsHold i limit := by
  by_contra hn
  rw [(s.holdLimitAt_eq_none_iff i).mpr (not_exists.mp hn)] at h
  cases h

theorem State.exec_holdLimit {s : State} {i : SlotNo} {d : Nat} (h : s.holdLimitAt i = some d) :
    exec (.holdLimit i) s = .next ((s.advanceTo d).holdReached i).conclude := by
  rw [← s.expire_some h fun t => t.holdReached i]
  rfl

theorem State.exec_holdLimit_stopped {s : State} {i : SlotNo} (h : s.holdLimitAt i = none) :
    exec (.holdLimit i) s = .next s := by
  show Host.Outcome.next (s.expire (s.holdLimitAt i) fun t => t.holdReached i) = _
  rw [h]
  rfl

/-- No slot follows its hold time. -/
theorem State.Settled.setHoldTime {s : State} (hs : s.Settled) (i : SlotNo) (n : Nat) :
    (s.putSlot i { s.slot i with holdTime := n }).Settled :=
  hs.putSlot_beside rfl rfl rfl (by rw [State.refreshed_holdTime, hs.1 i])

/-- R134: the hold time is set back by one hold limit. -/
theorem State.holdBack_eq {s : State} {i : SlotNo} {limit : Nat} (h : (s.part i).holdLimit = some limit) :
    s.holdBack i = s.putSlot i { s.slot i with holdTime := (s.slot i).holdTime - 1000 * limit } := by
  rw [State.holdBack, h]

/-- R122, R134: at the hold limit the slot becomes RELEASING. -/
theorem holdLimitReleases {s : State} {i : SlotNo} {d : Nat} (hs : s.Settled) (h : s.holdLimitAt i = some d)
    (hr : s.mode.reporting = true) (hl : s.link.general.length < 6) :
    ∃ t, exec (.holdLimit i) s = .next t ∧ (t.slot i).state = .releasing ∧ (t.slot i).enable = false ∧
      t.link = { s.link with general := s.link.general ++ [.fixed (.release (byteOf i.val))] } ∧
      (∀ j, j ≠ i → t.slot j = (s.advanceTo d).slot j) ∧
      (s.port.notices.length < 16 → t.port.notices = s.port.notices ++
        [{ stamp := (s.advanceTo d).stamp, epoch := s.epoch, content := .slot i none none .holdLimit }]) := by
  have hu := hs.advanceTo d
  have hlink := s.advanceTo_link d
  have hport : (s.advanceTo d).port = s.port := by simp
  have hreached : (s.advanceTo d).holdReached i = ((s.advanceTo d).beginRelease i).postCause i .holdLimit := by
    rw [State.holdReached, s.advanceTo_mode, if_pos hr, if_pos ((s.advanceTo d).generalRoom_iff.mpr (by rwa [hlink]))]
  rw [State.exec_holdLimit h, hreached, ← s.advanceTo_epoch d]
  generalize s.advanceTo d = u at *
  generalize hw : (u.beginRelease i).postCause i .holdLimit = w
  have hin : SameSlotInputs u w := by
    subst hw
    constructor <;> simp [State.beginRelease, State.shedHigh, State.ownDrive]
  have hslot (j : SlotNo) : w.slot j = if j = i then { u.slot i with state := .releasing } else u.slot j := by
    rw [← hw, State.postCause_slot]
    exact State.putSlot_slot _ i j _
  have hstate : (w.slot i).state = .releasing := by rw [hslot, if_pos rfl]
  have hother (j : SlotNo) (hj : j ≠ i) : w.slot j = u.slot j := by rw [hslot, if_neg hj]
  have hquiet : w.episodes = [] :=
    hu.episodes_of_slot hin i hother fun _ hd => by simp [State.unclaimedDraw, hstate] at hd
  refine ⟨_, rfl, ?_, State.conclude_enable_off (.inr hstate), ?_,
    fun j hj => hu.conclude_slot hin (hother j hj), fun hn => ?_⟩
  · rw [State.conclude_slot, State.refreshed_state, hstate]
  · simp [← hw, State.beginRelease, State.pushGeneral, hlink]
  · rw [(State.conclude_quiet hquiet).1, ← hw, State.postCause,
      State.post_notices (by simpa [State.beginRelease, hport] using hn)]
    simp [State.beginRelease, hport, State.stamp, State.epoch]

/-- R70, R134: the hold limit at a full general lane. -/
theorem holdLimitDrops {s : State} {i : SlotNo} {d : Nat} (hs : s.Settled) (h : s.holdLimitAt i = some d)
    (hr : s.mode.reporting = true) (hl : s.link.general.length = 6) :
    ∃ t, exec (.holdLimit i) s = .next t ∧ t.link = s.link ∧ Counted s t .outboundFull ∧
      ∀ limit, (s.part i).holdLimit = some limit →
        t.slot i = { (s.advanceTo d).slot i with holdTime := ((s.advanceTo d).slot i).holdTime - 1000 * limit } := by
  obtain ⟨limit, -, -, -, hlimit, -⟩ := State.countsHold_of_holdLimitAt h
  have hu := hs.advanceTo d
  have hlink := s.advanceTo_link d
  have hfull : ¬ (s.advanceTo d).generalRoom = true := fun hroom =>
    absurd ((s.advanceTo d).generalRoom_iff.mp hroom) (by rw [hlink]; omega)
  have hpart := s.advanceTo_part d i
  have hcounter := s.advanceTo_counter d .outboundFull
  have hreached : (s.advanceTo d).holdReached i =
      ((s.advanceTo d).capture .outboundFull .none (some .release)).holdBack i := by
    rw [State.holdReached, s.advanceTo_mode, if_pos hr, if_neg hfull]
  rw [State.exec_holdLimit h, hreached]
  generalize s.advanceTo d = u at *
  generalize hv : u.capture .outboundFull .none (some .release) = v
  have hunit : v.slotUnit = u.slotUnit := by simp [← hv]
  have hback : v.holdBack i = v.putSlot i { u.slot i with holdTime := (u.slot i).holdTime - 1000 * limit } := by
    have hvpart : v.part i = s.part i := by rw [← hpart, ← hv]; simp [State.part]
    rw [State.holdBack_eq (by rw [hvpart, hlimit]), State.slot_of_slotUnit hunit]
  obtain ⟨hslots, hfault⟩ := (hu.setHoldTime i ((u.slot i).holdTime - 1000 * limit)).conclude_beside
    (u := v.putSlot i { u.slot i with holdTime := (u.slot i).holdTime - 1000 * limit })
    (by subst hv; constructor <;> simp [State.shedHigh, State.ownDrive]) (State.putSlot_slotUnit_congr hunit i _)
  rw [hback]
  refine ⟨_, rfl, by simp [← hv, hlink], ?_, fun limit' hlimit' => ?_⟩
  · have hcounts : Counted s v .outboundFull := hv ▸ Counted.capture (by decide) hcounter _ _
    exact (hcounts.of_fault (t := v.putSlot i _) rfl).of_fault hfault
  · obtain rfl : limit = limit' := Option.some.inj (hlimit.symm.trans hlimit')
    rw [State.slot_of_slotUnit hslots]
    simp

/-- R134: in JOINING and ENTERING the hold time is set back. -/
theorem holdLimitBack {s : State} {i : SlotNo} {d limit : Nat} (hs : s.Settled) (h : s.holdLimitAt i = some d)
    (hr : s.mode.reporting = false) (hlimit : (s.part i).holdLimit = some limit) :
    exec (.holdLimit i) s = .next ((s.advanceTo d).putSlot i { (s.advanceTo d).slot i with
      holdTime := ((s.advanceTo d).slot i).holdTime - 1000 * limit }) := by
  rw [State.exec_holdLimit h, State.holdReached, s.advanceTo_mode, hr, if_neg (by decide),
    State.holdBack_eq (by rw [s.advanceTo_part, hlimit]), ((hs.advanceTo d).setHoldTime i _).conclude]

/-- Settles O56: in a settled slot unit the retry and the hold time of one slot may be rewritten; the RELEASE changes that
slot alone. -/
theorem retryAndHoldLimit : Obligations.RetryAndHoldLimit := by
  intro s i hs
  refine ⟨State.exec_stuckClearRetry_stopped, State.exec_holdLimit_stopped, s.holdLimitAt_eq_none_iff i,
    fun limit hc => hc.holdLimitAt_eq, fun d => ⟨fun h => ⟨fun hr hq hl => ?_, stuckClearRetryDrops hs h, fun hidle => ?_⟩,
    fun h => ⟨holdLimitReleases hs h, holdLimitDrops hs h, fun hm limit hlimit => holdLimitBack hs h ?_ hlimit⟩⟩⟩
  · have hretry := (s.advanceTo_retry d i).trans h
    have hlink := s.advanceTo_link d
    rw [State.exec_stuckClearRetry h, State.retryClear_room (hs.advanceTo d) hretry (by simpa using hr) (by simpa using hq)
      (by rwa [hlink]), hlink]
    have hqueued := State.Settled.setRetry (i := i) ((hs.advanceTo d).setLink { s.link with
      general := s.link.general ++ [.fixed (.stuckClear (byteOf i.val))] }) hretry none
    exact congrArg _ hqueued.conclude
  · have hretry := (s.advanceTo_retry d i).trans h
    rw [State.exec_stuckClearRetry h, State.retryClear, State.testStuckClear_idle,
      ((hs.advanceTo d).setRetry hretry none).conclude]
    have hmode : ((s.advanceTo d).putSlot i { (s.advanceTo d).slot i with retry := none }).mode = s.mode :=
      s.advanceTo_mode d
    have hlane : ((s.advanceTo d).putSlot i { (s.advanceTo d).slot i with retry := none }).inGeneral
        (Queued.isStuckClear i) = s.inGeneral (Queued.isStuckClear i) := s.advanceTo_inGeneral d _
    rwa [hmode, hlane]
  · rcases hm with hm | hm <;> rw [hm] <;> rfl

end Sys2Proof.Machine
end

section
/-! A change of a feedback pin (R127, R129, R131). -/

namespace Sys2Proof.Machine

/-- The pin of slot i reads so. -/
def State.sees (s : State) (i : SlotNo) (drawing : Bool) : State :=
  s.setPins { s.pins with feedback := s.pins.feedback.set i.val drawing i.isLt }

/-- R127, R129: the change is seen, and the test for STUCK_CLEAR is made where the slot stops drawing. -/
theorem State.feedback_eq (s : State) (i : SlotNo) (drawing : Bool) : s.feedback i drawing =
    if s.pins.feedback[i.val] && !drawing then (s.sees i drawing).testStuckClear i else s.sees i drawing := rfl

theorem State.sees_pin (s : State) (i : SlotNo) (drawing : Bool) : (s.sees i drawing).pins.feedback[i.val] = drawing := by
  simp [State.sees]

theorem State.sees_pin_other (s : State) {i j : SlotNo} (hj : j ≠ i) (drawing : Bool) :
    (s.sees i drawing).pins.feedback[j.val] = s.pins.feedback[j.val] := by
  have hv : i.val ≠ j.val := fun hv => hj (Fin.ext hv.symm)
  simp [State.sees, hv]

theorem State.sees_reading_other (s : State) {i j : SlotNo} (hj : j ≠ i) (drawing : Bool) :
    (s.sees i drawing).reading j = s.reading j := by
  unfold State.reading
  rw [s.sees_pin_other hj]
  rfl

section
variable {s : State} {i : SlotNo}

theorem State.reading_eq {p : Bool} (hu : (s.part i).used = true) (hf : (s.part i).feedback = true)
    (hp : s.pins.feedback[i.val] = p) : s.reading i = some p := by
  rw [State.reading, hu, hf, hp]
  rfl

theorem State.sees_reading (hu : (s.part i).used = true) (hf : (s.part i).feedback = true) (drawing : Bool) :
    (s.sees i drawing).reading i = some drawing :=
  State.reading_eq hu hf (s.sees_pin i drawing)

/-- R127: a slot that begins to draw while it is ordered off. -/
theorem State.Settled.sees_orderedOff (hs : s.Settled) (hl : s.mode.live = true) (hu : (s.part i).used = true)
    (hf : (s.part i).feedback = true) (hp : s.pins.feedback[i.val] = false) (he : (s.slot i).enable = false)
    (ho : s.orderedOff i = true) :
    ((s.sees i true).conclude.slot i).offDeadline = some (s.now + (s.part i).offDeadline) := by
  have hrule : (s.sees i true).enableRule i = false := (hs.enable i).symm.trans he
  have hconditions : (s.sees i true).offConditions i = true := by
    have horder : (s.sees i true).orderedOff i = true := ho
    simp [State.offConditions, hrule, State.sees_reading hu hf, horder]
  have hbefore : (s.slot i).offWatch = false := by
    have hi := hs.1 i
    rw [State.refreshed_live _ _ _ hl] at hi
    rw [← hi]
    simp [State.offConditions, State.reading_eq hu hf hp]
  rw [State.conclude_slot, State.refreshed_live (s.sees i true) i _ hl, hconditions, if_pos rfl,
    show ((s.sees i true).slot i).offWatch = false from hbefore]
  rfl

/-! The captures of unclaimed draw (R131). -/

/-- One slot begins an episode, and no other. -/
theorem State.episodes_eq_singleton {u : State}
    (h : ∀ j, (u.mode.live && u.unclaimedDraw j && !(u.slot j).unclaimed) = decide (j = i)) : u.episodes = [i] := by
  rw [State.episodes, funext h]
  clear h
  revert i
  decide

theorem State.conclude_counts_episode {u : State} (h : u.episodes = [i]) : Counted u u.conclude .unclaimedDraw := by
  have hrefresh : u.refreshSlots =
      (u.setSlots (mapSlots u.refreshed u.slotUnit.slots)).capture .unclaimedDraw (.slot i) none := by
    rw [State.refreshSlots, h]
    rfl
  have hcounts : Counted u u.refreshSlots .unclaimedDraw := hrefresh ▸ Counted.capture (by decide) rfl _ _
  exact hcounts.of_fault rfl

/-- R131: a slot that begins to draw while FREE, SENDING or WAITING. -/
theorem State.Settled.sees_unclaimed (hs : s.Settled) (hl : s.mode.live = true) (hu : (s.part i).used = true)
    (hf : (s.part i).feedback = true) (hp : s.pins.feedback[i.val] = false)
    (hst : (s.slot i).state = .free ∨ (s.slot i).state = .sending ∨ (s.slot i).state = .waiting) :
    ((s.sees i true).conclude.slot i).unclaimed = true ∧ Counted s (s.sees i true).conclude .unclaimedDraw := by
  have hdraws : (s.sees i true).unclaimedDraw i = true := by
    have hslot : (s.sees i true).slot i = s.slot i := rfl
    rcases hst with hst | hst | hst <;> simp [State.unclaimedDraw, State.sees_reading hu hf, hslot, hst]
  have hclaimed (j : SlotNo) : ((s.sees i true).slot j).unclaimed = s.unclaimedDraw j := hs.unclaimed hl j
  refine ⟨?_, State.conclude_counts_episode (u := s.sees i true) (i := i) (State.episodes_eq_singleton fun j => ?_)⟩
  · rw [State.conclude_slot, State.refreshed_live (s.sees i true) i _ hl]
    exact hdraws
  · have hlive : (s.sees i true).mode.live = true := hl
    rw [hlive, hclaimed]
    by_cases hj : j = i
    · subst hj
      have hbefore : s.unclaimedDraw j = false := by simp [State.unclaimedDraw, State.reading_eq hu hf hp]
      simp [hdraws, hbefore]
    · have hsame : (s.sees i true).unclaimedDraw j = s.unclaimedDraw j := by
        rw [State.unclaimedDraw, s.sees_reading_other hj]
        rfl
      simp [hsame, hj]

/-- R129: a STUCK slot that stops drawing. -/
theorem State.sees_stuckCleared (hu : (s.part i).used = true) (hf : (s.part i).feedback = true)
    (hst : (s.slot i).state = .stuck) : (s.sees i false).stuckCleared i = true := by
  have hslot : (s.sees i false).slot i = s.slot i := rfl
  simp [State.stuckCleared, State.sees_reading hu hf, hslot, hst]

end

/-- R127: a feedback change reaches no block but the slot unit, the general lane and what a capture writes. -/
theorem State.feedback_conclude_frame (s : State) (i : SlotNo) (drawing : Bool) :
    (s.feedback i drawing).conclude.pins = (s.sees i drawing).pins ∧
      (s.feedback i drawing).conclude.replica = s.replica ∧ (s.feedback i drawing).conclude.station = s.station ∧
      (s.feedback i drawing).conclude.crank = s.crank ∧
      (s.feedback i drawing).conclude.link.urgent = s.link.urgent := by
  rw [State.feedback_eq]
  split <;> simp [State.sees]

/-- Settles O55: what the changed pin makes of the conditions of R127, R129 and R131. -/
theorem feedbackChanges : Obligations.FeedbackChanges := by
  intro s i drawing hs
  obtain ⟨hpins, hreplica, hstation, hcrank, hurgent⟩ := s.feedback_conclude_frame i drawing
  refine ⟨_, rfl, hpins, hreplica, hstation, hcrank, hurgent, fun hl hu hf => ⟨fun hd hp he ho => ?_, fun hd hp hst => ?_,
    fun hd hp hr hst hq hg => ?_⟩⟩
  · subst hd
    rw [State.feedback_eq, hp, if_neg (by decide)]
    exact hs.sees_orderedOff hl hu hf hp he ho
  · subst hd
    rw [State.feedback_eq, hp, if_neg (by decide)]
    exact hs.sees_unclaimed hl hu hf hp hst
  · subst hd
    have hlink : (s.sees i false).link = s.link := rfl
    rw [State.feedback_eq, hp, if_pos (by decide), State.testStuckClear_room (s := s.sees i false) hr
      (State.sees_stuckCleared hu hf hst) hq (by rwa [hlink])]
    simp [hlink]

end Sys2Proof.Machine
end

section
/-! SET_WATCH and ARM_WATCH (R145, R146). -/

namespace Sys2Proof.Machine

theorem WatchSource.ofCode_code (source : WatchSource) : WatchSource.ofCode source.code = some source := by
  cases source <;> rfl

theorem Relation.ofCode_code (relation : Relation) : Relation.ofCode relation.code = some relation := by
  cases relation <;> rfl

theorem unitOf_eq_some {unit : Byte} {second : Bool} (h : unit.toNat = if second then 1 else 0) :
    unitOf unit = some second := by
  cases hu : unitOf unit with
  | none => exact absurd (by rw [h]; cases second <;> decide) ((unitOf_eq_none_iff unit).mp hu)
  | some other =>
    rw [eq_of_unitOf hu, h]
    cases second <;> rfl

/-! What the two commands make of a unit. -/

/-- R145: a programming moves the state and the counter of the unit alone. -/
theorem WatchUnit.programmed_eq (u : WatchUnit) (on : Bool) : u.programmed on =
    { u with
      state := if on then (if u.state = .fired then .fired else if u.sequence then .disarmed else .armed) else .off
      counter := if on ∧ ¬ u.state = .fired ∧ ¬ u.sequence then u.reload else u.counter } := by
  obtain ⟨st, _, _, _, _, _, _, sequence, _, _⟩ := u
  cases on
  case false => rfl
  case true => cases st <;> cases sequence <;> rfl

@[simp] theorem WatchUnit.programmed_pulse (u : WatchUnit) (on : Bool) : (u.programmed on).pulse = u.pulse := by
  rw [WatchUnit.programmed_eq]

section
variable {u : WatchUnit}

theorem WatchUnit.rearmed_single (hf : u.state = .fired) (hs : u.sequence = false) :
    u.rearmed = { u with state := .armed, counter := u.reload } := by simp [WatchUnit.rearmed, hf, hs]

theorem WatchUnit.rearmed_sequence (hf : u.state = .fired) (hs : u.sequence = true) :
    u.rearmed = { u with state := .disarmed } := by simp [WatchUnit.rearmed, hf, hs]

theorem WatchUnit.rearmed_armed (ha : u.state = .armed) : u.rearmed = { u with counter := u.reload } := by
  simp [WatchUnit.rearmed, ha]

theorem WatchUnit.rearmed_disarmed (hd : u.state = .disarmed) : u.rearmed = u := by simp [WatchUnit.rearmed, hd]

end

/-- R146: ARM_WATCH does not end a running pulse. -/
@[simp] theorem WatchUnit.rearmed_pulse (u : WatchUnit) : u.rearmed.pulse = u.pulse := by
  cases hst : u.state with
  | off => simp [WatchUnit.rearmed, hst]
  | armed => rw [WatchUnit.rearmed_armed hst]
  | disarmed => rw [WatchUnit.rearmed_disarmed hst]
  | fired =>
    cases hs : u.sequence with
    | false => rw [WatchUnit.rearmed_single hst hs]
    | true => rw [WatchUnit.rearmed_sequence hst hs]

/-! The rows. -/

section
variable {s : State} {second : Bool} {unit : Byte}

/-- A command that is answered OK and writes one watch unit, whose pulse it keeps: the line stays, so no slot follows. -/
theorem State.Open.exec_setUnit (h : s.Open) (c : Command) (hc : c.sized) {u : WatchUnit}
    (hp : (s.holding c).perform c = ((s.holding c).setUnit second u).answer [])
    (hu : u.pulse = (s.unit second).pulse) : exec c.row s = .next ((s.setUnit second u).responds .ok []) := by
  have hsettled : ((s.holding c).setUnit second u).Settled :=
    (h.settled.holding c).setUnit second (congrArg Option.isSome hu)
  rw [h.exec_eq c hc hp hsettled]
  cases second <;> rfl

/-- R145: SET_WATCH within its checks. -/
theorem State.setWatch_programs {control selector reload : Byte} {compare mask : Half} {source : WatchSource}
    {relation : Relation} (hl : s.mode.live = true) (hu : unitOf unit = some second)
    (hs : WatchSource.ofCode (selector.extractLsb' 5 3).toNat = some source)
    (hr : Relation.ofCode (selector.extractLsb' 0 2).toNat = some relation)
    (ha : source.allows relation compare.toInt = true) (hm : source = .frame → mask ≠ 0)
    (hq : control.getLsbD 6 = true → second = true) :
    s.setWatch unit control selector compare mask reload = (s.setUnit second (WatchUnit.programmed
      { s.unit second with
        source := source, relation := relation, compare := compare.toInt, mask := mask, reload := reload,
        sequence := control.getLsbD 6, actions := actionsOf control } (control.getLsbD 7))).answer [] := by
  have hmode : (second || !control.getLsbD 6) = true := by
    cases hbit : control.getLsbD 6 with
    | false => simp
    | true => simp [hq hbit]
  have hmask : (source != .frame || mask != 0) = true := by simpa [or_iff_not_imp_left] using hm
  simp only [State.setWatch, hl, hu, hs, hr, hmode, ha, hmask, Bool.and_self, if_true]

/-- R146: ARM_WATCH of a unit that is not OFF. -/
theorem State.armWatch_rearms (hl : s.mode.live = true) (hu : unitOf unit = some second)
    (ho : (s.unit second).state ≠ .off) :
    s.armWatch unit = (s.setUnit second (s.unit second).rearmed).answer [] := by
  simp only [State.armWatch, hl, hu, if_neg ho, if_true]

theorem State.Open.exec_armWatch (h : s.Open) (hl : s.mode.live = true) (hu : unitOf unit = some second)
    (ho : (s.unit second).state ≠ .off) :
    exec (.armWatch unit) s = .next ((s.setUnit second (s.unit second).rearmed).responds .ok []) :=
  h.exec_setUnit (.armWatch unit) (by simp [Command.sized, Command.bytes])
    (State.armWatch_rearms (s := s.holding _) hl hu ho) (WatchUnit.rearmed_pulse _)

end

/-- Settles O23: the unit that SET_WATCH programs by R145, and by the states of R146 the one that ARM_WATCH re-arms. -/
theorem watchCommands : Obligations.WatchCommands := by
  refine ⟨?set, ?arm⟩
  case set =>
    intro s second unit control selector reload compare mask source relation h hl hu hs hr ha hm hq
    dsimp only
    have hrow := h.exec_setUnit (.setWatch unit control selector compare mask reload)
      (by simp [Command.sized, Command.bytes, halfBytes])
      (State.setWatch_programs (s := s.holding _) (reload := reload) hl (unitOf_eq_some hu)
        (hs ▸ source.ofCode_code) (hr ▸ relation.ofCode_code) ha hm hq) (WatchUnit.programmed_pulse _ _)
    rwa [WatchUnit.programmed_eq] at hrow
  case arm =>
    intro s second unit h hl hu
    have hrow (ho : (s.unit second).state ≠ .off) := h.exec_armWatch hl (unitOf_eq_some hu) ho
    refine ⟨fun hf hsingle => ?_, fun hf hsequence => ?_, fun ha => ?_, fun hd => ?_⟩
    · exact WatchUnit.rearmed_single hf hsingle ▸ hrow (by simp [hf])
    · exact WatchUnit.rearmed_sequence hf hsequence ▸ hrow (by simp [hf])
    · exact WatchUnit.rearmed_armed ha ▸ hrow (by simp [ha])
    · exact WatchUnit.rearmed_disarmed hd ▸ hrow (by simp [hd])

end Sys2Proof.Machine
end

section
/-! A locked fault record over every step (law 12: R148, R150). Laws/Steady has it of every operation of the station and
of every command but CLEAR_FAULT; what is left is to say which record each row takes: a row of the mailbox, a transfer,
and the row of a frame at whose end a command is due. -/

namespace Sys2Proof.Machine

/-! The taking of a record. -/

/-- R150: the record is that of a CLEAR_FAULT. -/
def CommandRecord.clearsFault (r : CommandRecord) : Prop := r.command = .ok .clearFault

/-- R159: the record that is taken where the condition for taking one begins. -/
def State.waiting (s : State) : Option CommandRecord := if s.port.response = none then s.port.command else none

theorem State.takeCommand_of_waiting {s : State} {r : CommandRecord} (h : s.waiting = some r) :
    s.takeCommand = (s.runRecord r).placed := by
  unfold State.waiting at h
  split at h
  · rename_i hresponse
    simp only [State.takeCommand, h, hresponse]
  · cases h

theorem State.takeCommand_idle {s : State} (h : s.waiting = none) : s.takeCommand = s := by
  unfold State.takeCommand
  split
  · rename_i hcommand hresponse
    simp [State.waiting, hresponse, hcommand] at h
  · rfl

section
variable {b s : State}

theorem State.runRecord_steady (h : Steady b s) {r : CommandRecord} (hr : ¬ r.clearsFault) :
    Steady b (s.runRecord r).state := by
  unfold State.runRecord
  split
  · rename_i c hc
    refine State.perform_steady h c fun he => hr ?_
    rwa [he] at hc
  · exact h

theorem State.takeCommand_steady (h : Steady b s) (hw : ∀ r, s.waiting = some r → ¬ r.clearsFault) :
    Steady b s.takeCommand := by
  cases hr : s.waiting with
  | none => rwa [State.takeCommand_idle hr]
  | some r =>
    rw [State.takeCommand_of_waiting hr]
    exact (State.runRecord_steady h (hw r hr)).setPort _ le_rfl

/-- R159: while the engine applies a frame, nothing is taken. -/
theorem State.takeAtRise_steady (h : Steady b s) {applying : Bool}
    (hw : s.engineBusy applying = false → ∀ r, s.waiting = some r → ¬ r.clearsFault) :
    Steady b (s.takeAtRise applying) := by
  unfold State.takeAtRise
  split
  · exact h.setPort _ le_rfl
  · rename_i hidle
    exact State.takeCommand_steady h (hw (by simpa using hidle))

/-- R158: a record written into a free mailbox, with the engine idle, is taken at once. -/
theorem State.offerRecord_steady (h : Steady b s) {applying : Bool} {record : CommandRecord}
    (hr : s.engineBusy applying = false → s.port.command = none → s.port.response = none → ¬ record.clearsFault) :
    Steady b (s.offerRecord applying record) := by
  unfold State.offerRecord
  split
  · exact h.setPort _ le_rfl
  · rename_i hfree
    have hheld : Steady b (s.setPort { s.port with command := some record }) := h.setPort _ le_rfl
    refine State.takeAtRise_steady hheld fun hidle r hw => ?_
    unfold State.waiting at hw
    split at hw
    · rename_i hresponse
      cases hw
      exact hr hidle (by simpa using hfree) hresponse
    · cases hw

/-! The rows of the mailbox. -/

/-- No other command's record, over-long ones of ECHO among them, reads as CLEAR_FAULT. -/
theorem Command.eq_clearFault {c : Command} (h : (CommandRecord.ofWrite c.bytes).clearsFault) : c = .clearFault := by
  by_cases hc : c.sized
  · rw [CommandRecord.clearsFault, c.ofWrite_command hc] at h
    exact Except.ok.inj h
  · cases c
    case echo bytes =>
      simp only [Command.sized, Command.bytes, List.length_cons] at hc
      have hlong : (CommandRecord.ofWrite (Command.echo bytes).bytes).command = .error .badArg := by
        simp [CommandRecord.ofWrite, CommandRecord.command, Command.bytes, show 24 ≤ bytes.length by omega]
      rw [CommandRecord.clearsFault, hlong] at h
      cases h
    all_goals exact absurd (by simp [Command.sized, Command.bytes, halfBytes]) hc

/-- A row of the mailbox but CLEAR_FAULT. -/
theorem State.give_steady (h : Steady b s) {c : Command} (hc : c ≠ .clearFault) : Steady b (s.give c) := by
  unfold State.give
  split
  · exact h
  · exact State.conclude_steady (State.offerRecord_steady h fun _ _ _ hr => hc (Command.eq_clearFault hr))

/-- A CLEAR_FAULT that is not taken: of a part held in reset, or with the mailbox not free. -/
theorem State.give_clearFault_steady (h : Steady b s)
    (hr : ∀ r, takenRecord .clearFault s = some r → ¬ r.clearsFault) : Steady b (s.give .clearFault) := by
  unfold State.give
  split
  · exact h
  · rename_i hawake
    refine State.conclude_steady (State.offerRecord_steady h fun _ hcommand hresponse => hr _ ?_)
    simp [takenRecord, hawake, hcommand, hresponse]

/-! The transfers. -/

theorem State.shiftOut_steady (h : Steady b s) (o : Selected) (out : List Byte) : Steady b (s.shiftOut o out) :=
  h.setPort _ le_rfl

/-- R159: what the rise of a READ takes is the record that waited for the response buffer to empty. -/
theorem State.readRise_steady (h : Steady b s) {o : Selected} {count : Nat} {applying : Bool}
    (hr : s.engineBusy applying = false → ∀ response, o.full = true → s.port.response = some response →
      response.length ≤ count → ∀ r, s.port.command = some r → ¬ r.clearsFault) :
    Steady b (s.readRise o count applying) := by
  unfold State.readRise
  dsimp only
  split
  · rename_i response hfull hresponse
    have hout : Steady b (s.shiftOut o (response.take count)) := State.shiftOut_steady h _ _
    split
    · rename_i hwhole
      have hemptied : Steady b ((s.shiftOut o (response.take count)).setPort
          { (s.shiftOut o (response.take count)).port with response := none }) := hout.setPort _ le_rfl
      exact State.takeAtRise_steady hemptied fun hidle => hr hidle response hfull hresponse hwhole
    · exact hout
  · exact State.shiftOut_steady h _ _

/-- R157 to R159: the rise of CS#. -/
theorem State.rise_steady (h : Steady b s) (hawake : s.resetLow = false) {shifted : List Byte} {applying : Bool}
    (hr : ∀ r, takenAtRise s (.rise applying) shifted = some r → ¬ r.clearsFault) :
    Steady b (s.rise shifted applying) := by
  unfold State.rise
  split
  · exact h
  · exact h.setPort _ le_rfl
  rename_i o kind rest hselect
  split
  · exact State.shiftOut_steady h _ _
  · rename_i hkind
    split
    · exact State.shiftOut_steady h _ _
    · rename_i hrest
      refine State.offerRecord_steady (State.shiftOut_steady h _ _) fun hidle hcommand hresponse => hr _ ?_
      have hi : s.engineBusy applying = false := hidle
      have hc : s.port.command = none := hcommand
      have hn : s.port.response = none := hresponse
      simp [takenAtRise, State.selected, State.idleRise, hselect, hawake, hi, hkind, hrest, hc, hn]
  · rename_i hkind
    refine State.readRise_steady h fun hidle response hfull hresponse hwhole r hcommand => hr r ?_
    simp [takenAtRise, State.selected, State.idleRise, hselect, hawake, hidle, hkind, hfull, hresponse, hwhole, hcommand]

/-- R156: a whole transfer is its fall, and the rise with the engine idle. -/
theorem takenAtRise_whole (s : State) (shifted : List Byte) :
    takenAtRise s .whole shifted = takenAtRise s.selectPort (.rise false) shifted := rfl

theorem State.transfer_steady (h : Steady b s) {span : Span} {shifted : List Byte}
    (hr : ∀ r, takenAtRise s span shifted = some r → ¬ r.clearsFault) : Steady b (s.transfer span shifted) := by
  have hselect : Steady b s.selectPort := h.setPort _ le_rfl
  unfold State.transfer
  split
  · exact h
  · rename_i hawake
    have ha : s.resetLow = false := by simpa using hawake
    cases span with
    | whole => exact State.rise_steady hselect ha (takenAtRise_whole s shifted ▸ hr)
    | fall => exact hselect
    | rise applying => exact State.rise_steady h ha hr

end

/-! The mailbox through an application. -/

/-- The command buffer and the response buffer stay. -/
structure KeepsMailbox (s t : State) : Prop where
  command : t.port.command = s.port.command
  response : t.port.response = s.port.response

theorem KeepsMailbox.refl (s : State) : KeepsMailbox s s := ⟨rfl, rfl⟩

theorem KeepsMailbox.trans {a b c : State} (h : KeepsMailbox a b) (k : KeepsMailbox b c) : KeepsMailbox a c :=
  ⟨k.command.trans h.command, k.response.trans h.response⟩

theorem KeepsMailbox.waiting {s t : State} (h : KeepsMailbox s t) : t.waiting = s.waiting := by
  rw [State.waiting, State.waiting, h.command, h.response]

theorem State.conclude_keepsMailbox (s : State) : KeepsMailbox s s.conclude := ⟨by simp, by simp⟩

theorem State.settleDown_keepsMailbox (s : State) (n : Nat) : KeepsMailbox s (s.settleDown n) := ⟨by simp, by simp⟩

theorem State.loadSnapshot_keepsMailbox (s : State) (epoch : Half) (image : List Byte) (f : Frame) :
    KeepsMailbox s (s.loadSnapshot epoch image f) := by
  unfold State.loadSnapshot
  split
  · exact ⟨by simp [State.loadReplica], by simp [State.loadReplica]⟩
  · exact ⟨by simp, by simp⟩

theorem State.yieldTo_keepsMailbox (s : State) (n : Nat) (f : Frame) : KeepsMailbox s (s.yieldTo n f) := by
  have htainted : KeepsMailbox s
      ((s.capture .digestYield (.station f.sender) (some f.body.kind)).enter .tainted .digestYield) :=
    ⟨by simp, by simp⟩
  simp only [State.yieldTo]
  refine KeepsMailbox.trans ?_ (State.settleDown_keepsMailbox _ n)
  split
  · split
    · exact htainted.trans (State.loadSnapshot_keepsMailbox _ _ _ _)
    · exact htainted
  · exact htainted

theorem State.takeOutcome_keepsMailbox (s : State) (f : Frame) (a : Applied) : KeepsMailbox s (s.takeOutcome f a) := by
  unfold State.takeOutcome
  dsimp only
  split <;> exact ⟨by simp, by simp⟩

theorem State.applyTable_keepsMailbox (s : State) (f : Frame) (effect : Frame → Replica → OwnEffect) (n : Nat) :
    KeepsMailbox s (s.applyTable f effect n) := by
  simp only [State.applyTable]
  split
  · rename_i r _
    refine (s.takeOutcome_keepsMailbox f (r.apply (effect f))).trans ?_
    split <;> exact ⟨by simp, by simp⟩
  · exact .refl s

theorem State.applyFrame_keepsMailbox (s : State) (f : Frame) {steps : State → Nat → State}
    (hs : ∀ t n, KeepsMailbox t (steps t n)) : KeepsMailbox s (s.applyFrame f steps) := by
  simp only [State.applyFrame]
  split
  · exact hs _ _
  · exact KeepsMailbox.trans ⟨by simp, by simp⟩ (hs _ _)
  · exact s.yieldTo_keepsMailbox _ f

theorem State.applyHead_keepsMailbox (s : State) (kind : FrameKind) {act : Frame → State → State}
    (ha : ∀ f t, KeepsMailbox t (act f t)) : KeepsMailbox s (s.applyHead kind act) := by
  unfold State.applyHead
  split
  · rename_i f rest _
    have hrest : KeepsMailbox s (s.setLink { s.link with inbound := rest }) := ⟨rfl, rfl⟩
    split
    · exact (hrest.trans (ha f _)).trans (State.conclude_keepsMailbox _)
    · exact .refl s
  · exact .refl s

theorem State.plainFrame_keepsMailbox (s : State) (kind : FrameKind) {take : State → Frame → State}
    (ht : ∀ t f, KeepsMailbox t (take t f)) : KeepsMailbox s (s.plainFrame kind take) :=
  s.applyHead_keepsMailbox kind fun f t => t.applyFrame_keepsMailbox f fun u _ => (ht u f).trans ⟨by simp, by simp⟩

theorem State.takePresence_keepsMailbox (s : State) (f : Frame) : KeepsMailbox s (s.takePresence f) := by
  unfold State.takePresence
  (repeat' split) <;> exact ⟨by simp, by simp⟩

theorem State.takeSyncRequest_keepsMailbox (s : State) (f : Frame) : KeepsMailbox s (s.takeSyncRequest f) := by
  simp only [State.takeSyncRequest]
  (repeat' split) <;> exact ⟨by simp, by simp⟩

theorem State.takeSnapshot_keepsMailbox (s : State) (f : Frame) : KeepsMailbox s (s.takeSnapshot f) := by
  simp only [State.takeSnapshot]
  (repeat' split) <;> exact ⟨by simp, by simp⟩

theorem State.applyKind_keepsMailbox (s : State) (kind : FrameKind) : KeepsMailbox s (s.applyKind kind) := by
  cases kind
  case presence => exact s.plainFrame_keepsMailbox _ State.takePresence_keepsMailbox
  case syncRequest => exact s.plainFrame_keepsMailbox _ State.takeSyncRequest_keepsMailbox
  case snapshot =>
    unfold State.applyKind State.snapshotFrame
    refine s.applyHead_keepsMailbox .snapshot fun f t => ?_
    split
    case h_1 | h_2 => exact (t.loadSnapshot_keepsMailbox _ _ f).trans (State.settleDown_keepsMailbox _ _)
    case h_3 => exact t.applyFrame_keepsMailbox f fun u _ => (u.takeSnapshot_keepsMailbox f).trans ⟨by simp, by simp⟩
  all_goals
    exact s.applyHead_keepsMailbox _ fun f t => t.applyFrame_keepsMailbox f fun u n => u.applyTable_keepsMailbox f _ n

theorem foldl_makeChange_keepsMailbox (l : List LateChange) (s : State) : KeepsMailbox s (l.foldl State.makeChange s) := by
  induction l generalizing s with
  | nil => exact .refl s
  | cons c l ih => exact KeepsMailbox.trans ⟨by simp, by simp⟩ (ih (s.makeChange c))

theorem State.makeLate_keepsMailbox (s : State) : KeepsMailbox s s.makeLate := by
  have hfreed : KeepsMailbox s (s.setLink { s.link with late := [] }) := ⟨rfl, rfl⟩
  exact (hfreed.trans (foldl_makeChange_keepsMailbox s.link.late _)).trans (State.conclude_keepsMailbox _)

/-- R159: the command that is due at the end of an application is the one that was due at its beginning. -/
theorem State.application_keepsMailbox (s : State) (kind : FrameKind) : KeepsMailbox s (s.application kind) := by
  unfold State.application
  split
  · exact (s.applyKind_keepsMailbox kind).trans (State.makeLate_keepsMailbox _)
  · exact s.applyKind_keepsMailbox kind

/-! The rows of the frames. -/

section
variable {b s : State}

theorem State.applyKind_steady (h : Steady b s) (kind : FrameKind) : Steady b (s.applyKind kind) := by
  cases kind
  case presence => exact State.plainFrame_steady h _ fun _ f k => State.takePresence_steady k f
  case syncRequest => exact State.plainFrame_steady h _ fun _ f k => State.takeSyncRequest_steady k f
  case snapshot => exact State.snapshotFrame_steady h
  all_goals exact State.tableFrame_steady h _ _

theorem State.application_steady (h : Steady b s) (kind : FrameKind) : Steady b (s.application kind) := by
  unfold State.application
  split
  · exact State.makeLate_steady (State.applyKind_steady h kind)
  · exact State.applyKind_steady h kind

/-- R159: the row of a frame takes the command that is due, where a frame of its kind stands at the head. -/
theorem takenRecord_frameRow {kind : FrameKind} (hh : s.headIs kind = true) (hd : s.port.due = true) :
    takenRecord (frameRow kind) s = s.waiting := by
  have hrow : takenRecord (frameRow kind) s = match s.link.inbound with
      | f :: _ => if frameRow kind = frameRow f.body.kind ∧ s.port.due = true ∧ s.port.response = none then
          s.port.command else none
      | [] => none := by cases kind <;> rfl
  rw [hrow]
  cases hq : s.link.inbound with
  | nil => simp [State.headIs, hq] at hh
  | cons f rest =>
    have hkind : f.body.kind = kind := by simpa [State.headIs, hq] using hh
    simp [hkind, hd, State.waiting]

theorem State.applyRow_steady {kind : FrameKind}
    (hr : ∀ r, takenRecord (frameRow kind) s = some r → ¬ r.clearsFault) : Steady s (s.applyRow kind) := by
  have happlied : Steady s (s.application kind) := State.application_steady (.refl s) kind
  unfold State.applyRow
  split
  · rename_i hdue
    obtain ⟨hh, hd⟩ := Bool.and_eq_true_iff.mp hdue
    refine State.conclude_steady (State.takeCommand_steady (happlied.setPort _ le_rfl) fun r hw => hr r ?_)
    rw [takenRecord_frameRow hh hd, ← (s.application_keepsMailbox kind).waiting]
    exact hw
  · exact happlied

end

/-! The step. -/

/-- R148: every row but a pin reset keeps a locked fault record, unless it takes a CLEAR_FAULT. -/
theorem exec_steady {c : Instr} {s t : State} (hspare : ¬ emptiesFault c s) (he : exec c s = .next t) : Steady s t := by
  have hr (r : CommandRecord) (h : takenRecord c s = some r) : ¬ r.clearsFault := fun hc => hspare (.inr ⟨r, h, hc⟩)
  have hnext {u : State} (hu : Steady s u) (e : Host.Outcome.next u = (.next t : Host.Outcome State Fault Refusal)) :
      Steady s t := by
    cases e
    exact hu
  have hs : Steady s s := .refl s
  have hend {u : State} (hu : Steady s u) : Steady s u.conclude := State.conclude_steady hu
  have hexpire {d : Option Nat} {act : State → State} (hact : ∀ u, Steady s u → Steady s (act u)) :
      Steady s (s.expire d act) := State.expire_steady hs d hact
  cases c
  case pinReset edge pins => exact absurd (.inl ⟨edge, pins, rfl⟩) hspare
  case clearFault => exact hnext (State.give_clearFault_steady hs hr) he
  case spiStatusTransfer | spiWriteTransfer | spiReadTransfer => exact hnext (hend (State.transfer_steady hs hr)) he
  case presenceFrame | syncRequestFrame | snapshotFrame | joinFrame | leaveFrame | claimFrame | releaseFrame |
      settledFrame | phaseFrame | budgetFrame | shedRequestFrame | liftFrame | shedFaultFrame | stuckClearFrame |
      absenceFrame | reclaimFrame =>
    exact hnext (State.applyRow_steady (by exact hr)) he
  case startBit => exact hnext (hend (State.takeStartBit_steady hs)) he
  case lostContention => exact hnext (hend (State.endTransmission_steady hs)) he
  case frameReceived w => exact hnext (hend (State.receive_steady hs w)) he
  case shedFallingEdge | shedRisingEdge => exact hnext (hend (State.peerDrive_steady hs _)) he
  case feedbackChange i drawing => exact hnext (hend (State.feedback_steady hs i drawing)) he
  case readbackFailure =>
    unfold exec execReadbackFailure at he
    dsimp only at he
    split at he
    · exact hnext (hend (State.failReadback_steady hs _)) he
    · exact hnext hs he
  case frameCompletedClean =>
    unfold exec execFrameCompletedClean at he
    dsimp only at he
    split at he
    · exact hnext (hend (State.completeClean_steady hs _)) he
    · exact hnext hs he
  case gateTimeoutExpiry =>
    unfold exec execGateTimeoutExpiry at he
    dsimp only at he
    split at he
    · exact hnext (hexpire fun _ hu => State.gateExpires_steady hu _) he
    · exact hnext hs he
  case heartbeatExpiry => exact hnext (hexpire fun _ hu => State.beat_steady hu) he
  case probeDue => exact hnext (hexpire fun _ hu => State.probeFalls_steady hu) he
  case syncTimeout => exact hnext (hexpire fun _ hu => State.syncExpires_steady hu) he
  case isolationBySilence => exact hnext (hexpire fun _ hu => State.changeOutside_steady hu _) he
  case silenceTimerExpiry p => exact hnext (hexpire fun _ hu => State.peerSilent_steady hu p) he
  case orphanHoldExpiry p => exact hnext (hexpire fun _ hu => State.orphansDue_steady hu p) he
  case crankSettleExpiry => exact hnext (hexpire fun _ hu => State.settleExpires_steady hu) he
  case lockoutExpiry => exact hnext (hexpire fun _ hu => State.lockoutExpires_steady hu) he
  case latchLimitExpiry => exact hnext (hexpire fun _ hu => State.latchExpires_steady hu) he
  case offDeadlineExpiry i => exact hnext (hexpire fun _ hu => State.offExpires_steady hu i) he
  case stuckClearRetry i => exact hnext (hexpire fun _ hu => State.retryClear_steady hu i) he
  case settleTimerExpiry i => exact hnext (hexpire fun _ hu => State.slotSettled_steady hu i) he
  case holdLimit i => exact hnext (hexpire fun _ hu => State.holdReached_steady hu i) he
  case vsenseSample v => exact hnext (hexpire fun _ hu => State.sample_steady hu v) he
  case watchPulseExpiry second => exact hnext (hexpire fun _ hu => State.endPulse_steady hu second) he
  all_goals exact hnext (State.give_steady hs (by simp)) he

/-- Settles O7: a tick and every row but those that empty the fault record are steady, so a locked record stays. -/
theorem stepKeepsLockedFault : Obligations.StepKeepsLockedFault := by
  intro s t he hspare
  unfold step at he
  split at he
  · cases he
    exact (State.advanceTo_steady (.refl s) _).fault
  · rename_i c rest hq
    have hrest : ¬ emptiesFault c (s.setPending rest) := by
      have htaken : takenRecord c (s.setPending rest) = takenRecord c s := by cases c <;> rfl
      rw [emptiesFault, htaken]
      exact hspare c rest hq
    exact (exec_steady hrest he).fault

end Sys2Proof.Machine
end

section
/-! READ_NOTICE, CLEAR_FAULT, FREEZE_HISTORY and THAW_HISTORY at a free mailbox (R150, R154, R155, R164). -/

namespace Sys2Proof.Machine

theorem noticeAnswer_some (left : Nat) (lost : Bool) (n : Notice) :
    noticeAnswer left lost (some n) = byteOf left :: flagByte lost :: n.bytes := by
  cases lost <;> simp [noticeAnswer, flagByte]

/-- Log entry 51: an empty queue is answered with 16 bytes 0. -/
theorem noticeAnswer_none (left : Nat) (lost : Bool) :
    noticeAnswer left lost none = byteOf left :: (2 + flagByte lost) :: List.replicate 16 0 := by cases lost <;> rfl

section
variable {s : State}

/-- R164: the queue without its oldest notice, and the answer that carries it. -/
theorem State.Open.exec_readNotice (h : s.Open) : exec .readNotice s =
    .next ((s.setPort { s.port with notices := s.port.notices.tail, noticeLost := false }).responds .ok
      (noticeAnswer s.port.notices.tail.length s.port.noticeLost s.port.notices.head?)) :=
  (h.exec_eq .readNotice (by simp [Command.sized, Command.bytes]) rfl ((h.settled.holding _).setPort _)).trans rfl

/-- R150. -/
theorem State.Open.exec_clearFault (h : s.Open) : exec .clearFault s =
    .next ((s.setFault { s.fault with record := none, lock := false, lost := false }).responds .ok []) :=
  (h.exec_eq .clearFault (by simp [Command.sized, Command.bytes]) rfl ((h.settled.holding _).setFault _)).trans rfl

/-- R154: the entries stay, so their number does. -/
theorem State.Open.exec_freezeHistory (h : s.Open) (hm : s.mode ≠ .unconfigured) : exec .freezeHistory s =
    .next ((s.setHistory { s.history with frozen := true }).responds .ok []) := by
  have hp : (s.holding .freezeHistory).perform .freezeHistory = (s.holding .freezeHistory).freeze.answer [] := by
    simp [State.perform, State.freezeCommand, State.checked, hm]
  exact (h.exec_eq .freezeHistory (by simp [Command.sized, Command.bytes]) hp
    ((h.settled.holding _).setHistory h.settled.2)).trans rfl

/-- R155. -/
theorem State.Open.exec_thawHistory (h : s.Open) (hm : s.mode ≠ .unconfigured) : exec .thawHistory s =
    .next ((s.setHistory .reset).responds .ok []) := by
  have hp : (s.holding .thawHistory).perform .thawHistory =
      ((s.holding .thawHistory).setHistory .reset).answer [] := by
    simp [State.perform, State.thaw, State.checked, hm]
  exact (h.exec_eq .thawHistory (by simp [Command.sized, Command.bytes]) hp
    ((h.settled.holding _).setHistory (Nat.zero_le _))).trans rfl

end

/-- Settles O22: the row of each of the four commands at a free mailbox; READ_NOTICE by whether a notice waits. -/
theorem noticeFaultAndHistoryCommands : Obligations.NoticeFaultAndHistoryCommands := by
  refine ⟨fun s h => ⟨fun n rest hq => ?waiting, fun hq => ?empty⟩, fun s h => ⟨h.exec_clearFault, fun hm => ?history⟩⟩
  case waiting =>
    rw [h.exec_readNotice, hq, List.head?_cons, noticeAnswer_some]
    rfl
  case empty =>
    have hleft : s.port.notices.tail = s.port.notices := by rw [hq]; rfl
    have hcount : byteOf s.port.notices.length = 0 := by rw [hq]; rfl
    rw [h.exec_readNotice, hleft, List.head?_eq_none_iff.mpr hq, noticeAnswer_none, hcount]
  case history => exact ⟨h.exec_freezeHistory hm, h.exec_thawHistory hm⟩

end Sys2Proof.Machine
end

section
/-! CONFIGURE (R166): the part that the argument bytes give, and its storing. -/

namespace Sys2Proof.Machine

/-- R166: a general part whose every field is in range, 0 standing for a default. -/
theorem GeneralPart.ofBytes_in_range {a0 a1 a2 a3 a4 a5 : Byte} (h1 : a1.toNat ≤ 60)
    (h2 : halfOf a2 a3 = 0 ∨ (100 ≤ (halfOf a2 a3).toNat ∧ (halfOf a2 a3).toNat ≤ 2000))
    (h4 : a4 = 0 ∨ (20 ≤ a4.toNat ∧ a4.toNat ≤ 200)) (h5 : a5 = 0 ∨ (2 ≤ a5.toNat ∧ a5.toNat ≤ 30)) :
    GeneralPart.ofBytes a0 a1 a2 a3 a4 a5 = some
      { given := true, mask := a0
        orphanHold := if a1 = 0 then 5 else a1.toNat
        latchLimit := if halfOf a2 a3 = 0 then 300 else (halfOf a2 a3).toNat
        crankSettle := if a4 = 0 then 60 else a4.toNat
        crankLockout := if a5 = 0 then 10 else a5.toNat } := by
  simp only [halfOf_eq_zero_iff, byte_eq_zero_iff] at h2 h4 h5 ⊢
  refine if_pos ?_
  simp only [orDefault]
  generalize (halfOf a2 a3).toNat = latch at h2 ⊢
  (repeat' split) <;> omega

/-- R166: a used slot part whose every field is in range, 0 standing for a default. -/
theorem SlotPart.ofBytes_in_range {a0 a1 a2 a3 a4 a5 : Byte} {cls : LoadClass} (h0 : a0.getLsbD 7 = true)
    (hc : LoadClass.ofCode (a0.extractLsb' 0 3).toNat = some cls) (h1 : 1 ≤ a1.toNat) (h1' : a1.toNat ≤ 200)
    (h2 : 5 ≤ a2.toNat) (h2' : a2.toNat ≤ 250) (h3 : a3 = 0 ∨ (5 ≤ a3.toNat ∧ a3.toNat ≤ 250))
    (h4 : halfOf a4 a5 = 0 ∨ ((halfOf a4 a5).toNat ≤ 3600 ∧ cls = .deferrable)) :
    SlotPart.ofBytes a0 a1 a2 a3 a4 a5 = some
      { given := true, used := true, cls := cls, maxAmps := a1.toNat, minAllowed := a0.getLsbD 6, settle := a2.toNat
        offDeadline := if a3 = 0 then 30 else a3.toNat
        feedback := a0.getLsbD 5
        holdLimit := if halfOf a4 a5 = 0 then none else some (halfOf a4 a5).toNat } := by
  simp only [halfOf_eq_zero_iff, byte_eq_zero_iff a3] at h3 h4 ⊢
  have hoff : 5 ≤ orDefault a3.toNat 30 ∧ orDefault a3.toNat 30 ≤ 250 := by
    unfold orDefault
    split <;> omega
  have hhold : (halfOf a4 a5).toNat ≤ 3600 ∧ ((halfOf a4 a5).toNat = 0 ∨ cls = .deferrable) := by
    rcases h4 with h | ⟨h, hd⟩
    · exact ⟨by omega, .inl h⟩
    · exact ⟨h, .inr hd⟩
  unfold SlotPart.ofBytes
  rw [if_pos h0, hc]
  exact if_pos ⟨h1, h1', h2, h2', hoff.1, hoff.2, hhold⟩

/-- Log entry 52. -/
theorem SlotPart.ofBytes_unused {a0 : Byte} (h0 : a0.getLsbD 7 = false) (a1 a2 a3 a4 a5 : Byte) :
    SlotPart.ofBytes a0 a1 a2 a3 a4 a5 = some { SlotPart.default with given := true } := by
  unfold SlotPart.ofBytes
  rw [h0]
  rfl

/-- The part number of a slot is one more than the slot's. -/
theorem slotOf_part {part : Byte} {i : SlotNo} (h : part.toNat = i.val + 1) :
    part ≠ 0 ∧ slotOf (part - 1) = some i := by
  have hsub : (part - 1).toNat = i.val := by
    have hone : (1 : Byte).toNat = 1 := rfl
    have hi := i.isLt
    rw [BitVec.toNat_sub, hone, h]
    omega
  refine ⟨fun h0 => ?_, ?_⟩
  · rw [(byte_eq_zero_iff part).mp h0] at h
    omega
  · simp only [slotOf, hsub, i.isLt, dif_pos]

section
variable {s : State} {part a0 a1 a2 a3 a4 a5 : Byte}

theorem State.configure_general (hm : s.mode = .unconfigured) (hl : s.config.locked = false) {g : GeneralPart}
    (hg : GeneralPart.ofBytes a0 a1 a2 a3 a4 a5 = some g) :
    s.configure 0 a0 a1 a2 a3 a4 a5 = (s.setConfig { s.config with general := g }).answer [] := by
  rw [State.configure, if_pos ⟨hm, hl⟩, if_pos rfl, hg]

theorem State.configure_slot (hm : s.mode = .unconfigured) (hl : s.config.locked = false) {i : SlotNo}
    (hi : part.toNat = i.val + 1) {p : SlotPart} (hp : SlotPart.ofBytes a0 a1 a2 a3 a4 a5 = some p) :
    s.configure part a0 a1 a2 a3 a4 a5 = (s.setPart i p).answer [] := by
  obtain ⟨hne, hslot⟩ := slotOf_part hi
  rw [State.configure, if_pos ⟨hm, hl⟩, if_neg hne, hslot, hp]

/-- The row of a CONFIGURE that stores v: in UNCONFIGURED no slot follows the configuration. -/
theorem State.Open.exec_configure (h : s.Open) (hm : s.mode = .unconfigured) {v : ConfigRecord}
    (hp : (s.holding (.configure part a0 a1 a2 a3 a4 a5)).configure part a0 a1 a2 a3 a4 a5 =
      ((s.holding (.configure part a0 a1 a2 a3 a4 a5)).setConfig v).answer []) :
    exec (.configure part a0 a1 a2 a3 a4 a5) s = .next ((s.setConfig v).responds .ok []) :=
  (h.exec_eq (.configure part a0 a1 a2 a3 a4 a5) (by simp [Command.sized, Command.bytes]) hp
    ((h.settled.holding _).setConfig (by rw [State.holding_mode, hm]; rfl) v)).trans rfl

end

/-- Settles O20: each part by the value that its bytes give it. -/
theorem configureStores : Obligations.ConfigureStores := by
  intro s part a0 a1 a2 a3 a4 a5 h hm hl
  refine ⟨fun hpart h1 h2 h4 h5 => ?_, fun i cls hi h0 hc h1 h1' h2 h2' h3 h4 => ?_, fun i hi h0 => ?_⟩
  · subst hpart
    exact h.exec_configure hm (State.configure_general (s := s.holding _) hm hl
      (GeneralPart.ofBytes_in_range h1 h2 h4 h5))
  · exact h.exec_configure hm (State.configure_slot (s := s.holding _) hm hl hi
      (SlotPart.ofBytes_in_range h0 hc h1 h1' h2 h2' h3 h4))
  · exact h.exec_configure hm (State.configure_slot (s := s.holding _) hm hl hi
      (SlotPart.ofBytes_unused h0 a1 a2 a3 a4 a5))

end Sys2Proof.Machine
end

section
/-! Pin reset and ATTN# (R165, R167): a part held in reset follows what others drive on the pins, and nothing else. -/

namespace Sys2Proof.Machine

section
variable {s : State}

/-! The blocks of a part held in reset. -/

theorem State.HeldInReset.resetLow (h : s.HeldInReset) : s.resetLow = true := congrArg State.resetLow h
theorem State.HeldInReset.config (h : s.HeldInReset) : s.config = .reset := congrArg State.config h
theorem State.HeldInReset.station (h : s.HeldInReset) : s.station = .reset := congrArg State.station h
theorem State.HeldInReset.link (h : s.HeldInReset) : s.link = .reset := congrArg State.link h
theorem State.HeldInReset.members (h : s.HeldInReset) : s.members = .reset := congrArg State.members h
theorem State.HeldInReset.crank (h : s.HeldInReset) : s.crank = .reset := congrArg State.crank h
theorem State.HeldInReset.slotUnit (h : s.HeldInReset) : s.slotUnit = .reset := congrArg State.slotUnit h
theorem State.HeldInReset.w0 (h : s.HeldInReset) : s.w0 = .reset := congrArg State.w0 h
theorem State.HeldInReset.w1 (h : s.HeldInReset) : s.w1 = .reset := congrArg State.w1 h
theorem State.HeldInReset.history (h : s.HeldInReset) : s.history = .reset := congrArg State.history h
theorem State.HeldInReset.port (h : s.HeldInReset) : s.port = .reset := congrArg State.port h

theorem State.HeldInReset.mode (h : s.HeldInReset) : s.mode = .unconfigured := by rw [State.mode, h.station]; rfl

theorem State.HeldInReset.slot (h : s.HeldInReset) (i : SlotNo) : s.slot i = .reset := by
  simp [State.slot, h.slotUnit, SlotUnit.reset]

theorem State.HeldInReset.part (h : s.HeldInReset) (i : SlotNo) : s.part i = .default := by
  simp [State.part, h.config, ConfigRecord.reset]

theorem State.HeldInReset.peer (h : s.HeldInReset) (n : Station) : s.peer n = .reset := by
  simp [State.peer, h.members, Membership.reset]

theorem State.HeldInReset.unit (h : s.HeldInReset) (second : Bool) : s.unit second = .reset := by
  cases second
  · exact h.w0
  · exact h.w1

/-- The pins are no block of the part. -/
theorem State.HeldInReset.setPins (h : s.HeldInReset) (v : Pins) : (s.setPins v).HeldInReset :=
  congrArg (fun t : State => t.setPins v) h

/-- R120: in UNCONFIGURED a slot record at its pin-reset value stays there at the end of an event. -/
theorem State.HeldInReset.settled (h : s.HeldInReset) : s.Settled := by
  refine ⟨fun i => ?_, by rw [h.history]; exact Nat.zero_le _⟩
  rw [State.refreshed_dead _ _ _ (by rw [h.mode]; rfl), h.slot]
  rfl

/-! What a part held in reset makes of each event. -/

theorem State.HeldInReset.conclude (h : s.HeldInReset) : s.conclude = s := h.settled.conclude

theorem State.HeldInReset.takeStartBit (h : s.HeldInReset) : s.takeStartBit = s := by
  have hclear : s.clearToSend = false := by simp [State.clearToSend, h.mode, StationState.live]
  simp only [State.takeStartBit, hclear]

theorem State.HeldInReset.endTransmission (h : s.HeldInReset) : s.endTransmission = s := by
  rw [State.endTransmission, h.link]
  exact congrArg s.setLink h.link.symm

theorem State.HeldInReset.receive (h : s.HeldInReset) (w : WireFrame) : s.receive w = s := by
  simp [State.receive, h.resetLow]

/-- R80: no frame stands in the inbound queue. -/
theorem State.applyKind_empty (h : s.link.inbound = []) (kind : FrameKind) : s.applyKind kind = s := by
  have hhead (k : FrameKind) (act : Frame → State → State) : s.applyHead k act = s := by simp only [State.applyHead, h]
  cases kind <;> simp only [State.applyKind, State.plainFrame, State.snapshotFrame, State.tableFrame, hhead]

theorem State.applyRow_empty (h : s.link.inbound = []) (kind : FrameKind) : s.applyRow kind = s := by
  have hhead : s.headIs kind = false := by simp only [State.headIs, h]
  simp [State.applyRow, State.application, hhead, State.applyKind_empty h]

theorem State.HeldInReset.testStuckClear (h : s.HeldInReset) (i : SlotNo) : s.testStuckClear i = s :=
  State.testStuckClear_idle (.inl (by rw [h.mode]; rfl))

theorem State.HeldInReset.silenceAt (h : s.HeldInReset) : s.silenceAt = none := by
  simp [State.silenceAt, h.mode, StationState.beating]

theorem State.HeldInReset.holdLimitAt (h : s.HeldInReset) (i : SlotNo) : s.holdLimitAt i = none := by
  simp [State.holdLimitAt, h.part, SlotPart.default]

theorem State.HeldInReset.sampleAt (h : s.HeldInReset) : s.sampleAt = none := by simp [State.sampleAt, h.resetLow]

/-- R167: what others drive on SHED# is followed, and no edge is taken. -/
theorem State.HeldInReset.peerDrive (h : s.HeldInReset) (low : Bool) :
    (s.peerDrive low).conclude = s.setPins { s.pins with peerShed := low } := by
  rw [State.peerDrive, if_pos h.resetLow, (h.setPins _).conclude]

/-- R167: the FB pins are followed. -/
theorem State.HeldInReset.feedback (h : s.HeldInReset) (i : SlotNo) (drawing : Bool) :
    (s.feedback i drawing).conclude =
      s.setPins { s.pins with feedback := s.pins.feedback.set i.val drawing i.isLt } := by
  have hdriven := h.setPins { s.pins with feedback := s.pins.feedback.set i.val drawing i.isLt }
  simp only [State.feedback, hdriven.testStuckClear, ite_self, hdriven.conclude]

/-- No event but a pin reset and a change of what others drive on the pins does anything. -/
theorem State.HeldInReset.exec_idle (h : s.HeldInReset) {c : Instr} (hr : ∀ edge pins, c ≠ .pinReset edge pins)
    (hb : ∀ i d, c ≠ .feedbackChange i d) (hf : c ≠ .shedFallingEdge) (hu : c ≠ .shedRisingEdge) :
    exec c s = .next s := by
  have htransfer (span : Span) (shifted : List Byte) : (s.transfer span shifted).conclude = s := by
    rw [s.transfer_reset span shifted h.resetLow, h.conclude]
  have hgive (c : Command) : Host.Outcome.next (s.give c) = (.next s : Host.Outcome State Fault Refusal) := by
    rw [s.give_reset c h.resetLow]
  have happly (kind : FrameKind) :
      Host.Outcome.next (s.applyRow kind) = (.next s : Host.Outcome State Fault Refusal) := by
    rw [State.applyRow_empty (by rw [h.link]; rfl)]
  have hexpire {d : Option Nat} (hd : d = none) (act : State → State) :
      Host.Outcome.next (s.expire d act) = (.next s : Host.Outcome State Fault Refusal) := by
    subst hd
    rfl
  cases c
  case pinReset edge pins => exact absurd rfl (hr edge pins)
  case feedbackChange i d => exact absurd rfl (hb i d)
  case shedFallingEdge => exact absurd rfl hf
  case shedRisingEdge => exact absurd rfl hu
  case spiStatusTransfer | spiWriteTransfer | spiReadTransfer => exact congrArg _ (htransfer _ _)
  case startBit => exact congrArg _ ((congrArg _ h.takeStartBit).trans h.conclude)
  case lostContention => exact congrArg _ ((congrArg _ h.endTransmission).trans h.conclude)
  case frameReceived w => exact congrArg _ ((congrArg _ (h.receive w)).trans h.conclude)
  case readbackFailure => simp only [exec, execReadbackFailure, h.link, LinkUnit.reset]
  case frameCompletedClean => simp only [exec, execFrameCompletedClean, h.link, LinkUnit.reset]
  case gateTimeoutExpiry => simp only [exec, execGateTimeoutExpiry, h.slotUnit, SlotUnit.reset]
  case presenceFrame | syncRequestFrame | snapshotFrame | joinFrame | leaveFrame | claimFrame | releaseFrame |
      settledFrame | phaseFrame | budgetFrame | shedRequestFrame | liftFrame | shedFaultFrame | stuckClearFrame |
      absenceFrame | reclaimFrame =>
    exact happly _
  case heartbeatExpiry => exact hexpire (congrArg LinkUnit.heartbeat h.link) _
  case probeDue => exact hexpire (congrArg LinkUnit.probeTimer h.link) _
  case syncTimeout => exact hexpire (congrArg StationUnit.syncTimer h.station) _
  case isolationBySilence => exact hexpire h.silenceAt _
  case silenceTimerExpiry n => exact hexpire (congrArg PeerRecord.silence (h.peer n)) _
  case orphanHoldExpiry n => exact hexpire (congrArg PeerRecord.orphanHold (h.peer n)) _
  case crankSettleExpiry => exact hexpire (congrArg CrankUnit.settle h.crank) _
  case lockoutExpiry => exact hexpire (congrArg CrankUnit.lockout h.crank) _
  case latchLimitExpiry => exact hexpire (congrArg SlotUnit.latchLimit h.slotUnit) _
  case offDeadlineExpiry i => exact hexpire (congrArg SlotRecord.offDeadline (h.slot i)) _
  case stuckClearRetry i => exact hexpire (congrArg SlotRecord.retry (h.slot i)) _
  case settleTimerExpiry i => exact hexpire (congrArg SlotRecord.settle (h.slot i)) _
  case holdLimit i => exact hexpire (h.holdLimitAt i) _
  case vsenseSample => exact hexpire h.sampleAt _
  case watchPulseExpiry second => exact hexpire (congrArg WatchUnit.pulse (h.unit second)) _
  all_goals exact hgive _

/-- R167: every event but a pin reset changes at most what others drive on the pins. -/
theorem State.HeldInReset.exec_pins (h : s.HeldInReset) {c : Instr} (hr : ∀ edge pins, c ≠ .pinReset edge pins) :
    ∃ v, exec c s = .next (s.setPins v) ∧
      ((∀ i d, c ≠ .feedbackChange i d) → c ≠ .shedFallingEdge → c ≠ .shedRisingEdge → v = s.pins) := by
  by_cases hpin : (∀ i d, c ≠ .feedbackChange i d) ∧ c ≠ .shedFallingEdge ∧ c ≠ .shedRisingEdge
  · obtain ⟨hb, hf, hu⟩ := hpin
    exact ⟨s.pins, h.exec_idle hr hb hf hu, fun _ _ _ => rfl⟩
  · have hnot (P : Prop) : (∀ i d, c ≠ .feedbackChange i d) → c ≠ .shedFallingEdge → c ≠ .shedRisingEdge → P :=
      fun hb hf hu => absurd ⟨hb, hf, hu⟩ hpin
    cases c
    case feedbackChange i d => exact ⟨_, congrArg _ (h.feedback i d), hnot _⟩
    case shedFallingEdge => exact ⟨_, congrArg _ (h.peerDrive true), hnot _⟩
    case shedRisingEdge => exact ⟨_, congrArg _ (h.peerDrive false), hnot _⟩
    all_goals exact absurd (by simp) hpin

/-- R165: the level of ATTN#. -/
theorem State.attention_iff (s : State) : s.attention = true ↔
    s.port.response.isSome = true ∨ ∃ n ∈ s.port.notices, s.config.general.mask.getLsbD n.content.kind = true := by
  rw [State.attention, Bool.or_eq_true, List.any_eq_true]

end

/-- Settles O25: the two edges are the model's own, and of a part held in reset every block is known. -/
theorem pinResetSamples : Obligations.PinResetSamples := by
  refine ⟨fun s straps => ⟨rfl, rfl⟩, fun s h => ⟨fun i => ?_, ?_, ?_, ?_, fun c hr => ?_⟩, State.attention_iff⟩
  · rw [State.enabled, h.slot]
    rfl
  · rw [State.ownDrive, h.crank, h.w0, h.w1]
    rfl
  · rw [h.link]
    rfl
  · rw [State.attention, h.port]
    rfl
  · obtain ⟨v, he, hv⟩ := h.exec_pins hr
    refine ⟨s.setPins v, he, rfl, h.setPins v, fun hb hf hu => ?_⟩
    rw [hv hb hf hu]
    rfl

end Sys2Proof.Machine
end

section
/-! What every event but a pin reset keeps (R166, R167): the queue, the straps, the level of RESET# and a configuration
that is locked. -/

namespace Sys2Proof.Machine

/-- The queue, the straps, the level of RESET# and the configuration stay. -/
@[simp] abbrev SameOuter (s t : State) : Prop :=
  t.pending = s.pending ∧ t.straps = s.straps ∧ t.resetLow = s.resetLow ∧ t.config = s.config

theorem SameOuter.trans {a b c : State} (h : SameOuter a b) (k : SameOuter b c) : SameOuter a c := by
  obtain ⟨hp, hs, hr, hc⟩ := h
  obtain ⟨kp, ks, kr, kc⟩ := k
  exact ⟨kp.trans hp, ks.trans hs, kr.trans hr, kc.trans hc⟩

theorem State.conclude_outer (s : State) : SameOuter s s.conclude := by simp

theorem State.advanceTo_outer (s : State) (d : Nat) : SameOuter s (s.advanceTo d) := by simp

/-! The link. -/

@[simp] theorem State.endTransmission_outer (s : State) : SameOuter s s.endTransmission := ⟨rfl, rfl, rfl, rfl⟩
@[simp] theorem State.probeEnded_outer (s : State) : SameOuter s s.probeEnded := ⟨rfl, rfl, rfl, rfl⟩
@[simp] theorem State.pushInbound_outer (s : State) (f : Frame) : SameOuter s (s.pushInbound f) := ⟨rfl, rfl, rfl, rfl⟩
@[simp] theorem State.setIsolation_outer (s : State) (c : IsolationCause) : SameOuter s (s.setIsolation c) :=
  ⟨rfl, rfl, rfl, rfl⟩

@[simp] theorem State.takeStartBit_outer (s : State) : SameOuter s s.takeStartBit := by
  unfold State.takeStartBit
  split <;> simp

@[simp] theorem State.failReadback_outer (s : State) (t : Transmission) : SameOuter s (s.failReadback t) := by
  unfold State.failReadback
  dsimp only
  (repeat' split) <;> simp

@[simp] theorem State.heardItself_outer (s : State) : SameOuter s s.heardItself := by
  unfold State.heardItself
  (repeat' split) <;> simp

@[simp] theorem State.heardOther_outer (s : State) : SameOuter s s.heardOther := by
  unfold State.heardOther
  (repeat' split) <;> simp

@[simp] theorem State.completeClean_outer (s : State) (t : Transmission) : SameOuter s (s.completeClean t) := by
  unfold State.completeClean
  dsimp only
  split <;> simp

@[simp] theorem State.overrun_outer (s : State) (f : Frame) : SameOuter s (s.overrun f) := by
  unfold State.overrun
  split <;> simp

@[simp] theorem State.takeFrame_outer (s : State) (f : Frame) : SameOuter s (s.takeFrame f) := by
  unfold State.takeFrame
  (repeat' split) <;> simp

@[simp] theorem State.receive_outer (s : State) (w : WireFrame) : SameOuter s (s.receive w) := by
  unfold State.receive State.duplicate
  (repeat' split) <;> simp

theorem foldl_makeChange_outer (l : List LateChange) (s : State) : SameOuter s (l.foldl State.makeChange s) := by
  induction l generalizing s with
  | nil => exact ⟨rfl, rfl, rfl, rfl⟩
  | cons c l ih => exact SameOuter.trans (by simp) (ih (s.makeChange c))

theorem State.makeLate_outer (s : State) : SameOuter s s.makeLate := by
  have hfold := foldl_makeChange_outer s.link.late (s.setLink { s.link with late := [] })
  exact SameOuter.trans hfold (by simp [State.makeLate])

/-! Loads and applications. -/

@[simp] theorem State.loadReplica_outer (s : State) (r : Replica) : SameOuter s (s.loadReplica r) := by
  simp [State.loadReplica]

@[simp] theorem State.loadSnapshot_outer (s : State) (epoch : Half) (image : List Byte) (f : Frame) :
    SameOuter s (s.loadSnapshot epoch image f) := by
  unfold State.loadSnapshot
  split <;> simp

@[simp] theorem State.adoptStart_outer (s : State) : SameOuter s s.adoptStart := by simp [State.adoptStart]

@[simp] theorem State.yieldTo_outer (s : State) (n : Nat) (f : Frame) : SameOuter s (s.yieldTo n f) := by
  unfold State.yieldTo
  dsimp only
  (repeat' split) <;> simp

@[simp] theorem State.takeOutcome_outer (s : State) (f : Frame) (a : Applied) : SameOuter s (s.takeOutcome f a) := by
  unfold State.takeOutcome
  dsimp only
  split <;> simp

@[simp] theorem State.applyTable_outer (s : State) (f : Frame) (effect : Frame → Replica → OwnEffect) (n : Nat) :
    SameOuter s (s.applyTable f effect n) := by
  unfold State.applyTable
  dsimp only
  (repeat' split) <;> simp

@[simp] theorem State.takePresence_outer (s : State) (f : Frame) : SameOuter s (s.takePresence f) := by
  unfold State.takePresence
  (repeat' split) <;> simp

@[simp] theorem State.takeSyncRequest_outer (s : State) (f : Frame) : SameOuter s (s.takeSyncRequest f) := by
  unfold State.takeSyncRequest
  dsimp only
  (repeat' split) <;> simp

@[simp] theorem State.takeSnapshot_outer (s : State) (f : Frame) : SameOuter s (s.takeSnapshot f) := by
  unfold State.takeSnapshot
  (repeat' split) <;> simp

theorem State.applyFrame_outer (s : State) (f : Frame) {steps : State → Nat → State}
    (hs : ∀ t n, SameOuter t (steps t n)) : SameOuter s (s.applyFrame f steps) := by
  unfold State.applyFrame
  dsimp only
  split
  · exact hs _ _
  · exact SameOuter.trans (by simp) (hs _ _)
  · exact s.yieldTo_outer _ f

theorem State.applyHead_outer (s : State) (kind : FrameKind) {act : Frame → State → State}
    (ha : ∀ f t, SameOuter t (act f t)) : SameOuter s (s.applyHead kind act) := by
  unfold State.applyHead
  split
  · rename_i f rest _
    split
    · exact SameOuter.trans (ha f (s.setLink { s.link with inbound := rest })) (by simp)
    · exact ⟨rfl, rfl, rfl, rfl⟩
  · exact ⟨rfl, rfl, rfl, rfl⟩

theorem State.plainFrame_outer (s : State) (kind : FrameKind) {take : State → Frame → State}
    (ht : ∀ t f, SameOuter t (take t f)) : SameOuter s (s.plainFrame kind take) :=
  s.applyHead_outer kind fun f t => t.applyFrame_outer f fun u _ => (ht u f).trans (by simp)

theorem State.snapshotFrame_outer (s : State) : SameOuter s s.snapshotFrame := by
  refine s.applyHead_outer .snapshot fun f t => ?_
  split
  case h_1 | h_2 => simp
  case h_3 => exact t.applyFrame_outer f fun u _ => SameOuter.trans (u.takeSnapshot_outer f) (by simp)

theorem State.applyKind_outer (s : State) (kind : FrameKind) : SameOuter s (s.applyKind kind) := by
  cases kind
  case presence => exact s.plainFrame_outer _ State.takePresence_outer
  case syncRequest => exact s.plainFrame_outer _ State.takeSyncRequest_outer
  case snapshot => exact s.snapshotFrame_outer
  all_goals exact s.applyHead_outer _ fun f t => t.applyFrame_outer f fun u n => u.applyTable_outer f _ n

theorem State.application_outer (s : State) (kind : FrameKind) : SameOuter s (s.application kind) := by
  unfold State.application
  split
  · exact (s.applyKind_outer kind).trans (State.makeLate_outer _)
  · exact s.applyKind_outer kind

/-! Expiries and pins. -/

theorem State.expire_outer {act : State → State} (ha : ∀ t, SameOuter t (act t)) (s : State) (d : Option Nat) :
    SameOuter s (s.expire d act) := by
  unfold State.expire
  split
  · rename_i d
    exact SameOuter.trans (s.advanceTo_outer d) ((ha _).trans (State.conclude_outer _))
  · exact ⟨rfl, rfl, rfl, rfl⟩

@[simp] theorem State.probeFalls_outer (s : State) : SameOuter s s.probeFalls := ⟨rfl, rfl, rfl, rfl⟩

@[simp] theorem State.beat_outer (s : State) : SameOuter s s.beat := by
  unfold State.beat
  dsimp only
  (repeat' split) <;> simp

@[simp] theorem State.keepReplica_outer (s : State) : SameOuter s s.keepReplica := by
  unfold State.keepReplica
  dsimp only
  (repeat' split) <;> simp

@[simp] theorem State.askAgain_outer (s : State) : SameOuter s s.askAgain := by
  unfold State.askAgain
  dsimp only
  split <;> simp

@[simp] theorem State.syncExpires_outer (s : State) : SameOuter s s.syncExpires := by
  unfold State.syncExpires
  (repeat' split) <;> simp

@[simp] theorem State.peerSilent_outer (s : State) (p : Station) : SameOuter s (s.peerSilent p) := by
  unfold State.peerSilent
  dsimp only
  split <;> simp

@[simp] theorem State.orphansDue_outer (s : State) (p : Station) : SameOuter s (s.orphansDue p) := by
  unfold State.orphansDue
  dsimp only
  split <;> simp

@[simp] theorem State.settleExpires_outer (s : State) : SameOuter s s.settleExpires := by
  unfold State.settleExpires State.beginCrank
  dsimp only
  (repeat' split) <;> simp

@[simp] theorem State.lockoutExpires_outer (s : State) : SameOuter s s.lockoutExpires := by
  unfold State.lockoutExpires State.restartLockout
  (repeat' split) <;> simp

@[simp] theorem State.latchExpires_outer (s : State) : SameOuter s s.latchExpires := by
  unfold State.latchExpires
  dsimp only
  (repeat' split) <;> simp

@[simp] theorem State.offExpires_outer (s : State) (i : SlotNo) : SameOuter s (s.offExpires i) := by
  unfold State.offExpires State.restartOff State.setOffDeadline
  (repeat' split) <;> simp

@[simp] theorem State.retryClear_outer (s : State) (i : SlotNo) : SameOuter s (s.retryClear i) := by
  simp [State.retryClear]

@[simp] theorem State.slotSettled_outer (s : State) (i : SlotNo) : SameOuter s (s.slotSettled i) := by
  unfold State.slotSettled State.restartSettle State.setSettle
  (repeat' split) <;> simp

@[simp] theorem State.gateExpires_outer (s : State) (g : GateTimeout) : SameOuter s (s.gateExpires g) := by
  unfold State.gateExpires State.restartGate State.setGate
  (repeat' split) <;> simp

@[simp] theorem State.beginRelease_outer (s : State) (i : SlotNo) : SameOuter s (s.beginRelease i) := by
  simp [State.beginRelease]

@[simp] theorem State.holdReached_outer (s : State) (i : SlotNo) : SameOuter s (s.holdReached i) := by
  unfold State.holdReached State.holdBack
  (repeat' split) <;> simp

@[simp] theorem State.peerDrive_outer (s : State) (low : Bool) : SameOuter s (s.peerDrive low) := by
  unfold State.peerDrive
  dsimp only
  split <;> simp

@[simp] theorem State.feedback_outer (s : State) (i : SlotNo) (drawing : Bool) :
    SameOuter s (s.feedback i drawing) := by
  unfold State.feedback
  dsimp only
  split <;> simp

@[simp] theorem State.sample_outer (s : State) (v : Byte) : SameOuter s (s.sample v) := by simp [State.sample]

@[simp] theorem State.endPulse_outer (s : State) (second : Bool) : SameOuter s (s.endPulse second) := by
  simp [State.endPulse]

/-! Commands: CONFIGURE and JOIN alone write the configuration. -/

/-- The queue, the straps and the level of RESET# stay, and the configuration if it is locked. -/
structure KeepsOuter (s t : State) : Prop where
  pending : t.pending = s.pending
  straps : t.straps = s.straps
  resetLow : t.resetLow = s.resetLow
  config : s.config.locked = true → t.config = s.config

theorem SameOuter.keeps {s t : State} (h : SameOuter s t) : KeepsOuter s t := by
  obtain ⟨hp, hs, hr, hc⟩ := h
  exact ⟨hp, hs, hr, fun _ => hc⟩

theorem KeepsOuter.refl (s : State) : KeepsOuter s s := ⟨rfl, rfl, rfl, fun _ => rfl⟩

theorem KeepsOuter.trans {a b c : State} (h : KeepsOuter a b) (k : KeepsOuter b c) : KeepsOuter a c := by
  refine ⟨k.pending.trans h.pending, k.straps.trans h.straps, k.resetLow.trans h.resetLow, fun hl => ?_⟩
  have hb := h.config hl
  exact (k.config (by rw [hb, hl])).trans hb

theorem KeepsOuter.conclude {s t : State} (h : KeepsOuter s t) : KeepsOuter s t.conclude :=
  h.trans (SameOuter.keeps (by simp))

/-- R166: CONFIGURE is refused where the configuration is locked. -/
theorem State.configure_keeps (s : State) (part a0 a1 a2 a3 a4 a5 : Byte) :
    KeepsOuter s (s.configure part a0 a1 a2 a3 a4 a5).state := by
  refine ⟨?_, ?_, ?_, fun hl => by rw [State.configure, if_neg (by simp [hl])]; rfl⟩
  all_goals
    unfold State.configure State.setPart
    (repeat' split) <;> rfl

/-- R166: a JOIN locks the configuration; one that is locked stays. -/
theorem State.lockConfig_keeps (s : State) : KeepsOuter s (s.setConfig { s.config with locked := true }) := by
  refine ⟨rfl, rfl, rfl, fun hl => ?_⟩
  show { s.config with locked := true } = s.config
  rw [← hl]

theorem State.joinCommand_keeps (s : State) : KeepsOuter s s.joinCommand.state := by
  unfold State.joinCommand
  split
  · split
    · exact s.lockConfig_keeps.trans (SameOuter.keeps (by simp [State.accept]))
    · exact .refl s
  · split
    · exact SameOuter.keeps (by simp [State.accept, State.freshTables])
    · exact .refl s
  · exact .refl s

theorem State.softReset_outer (s : State) : SameOuter s s.softReset := by simp [State.softReset]

theorem State.restartCommand_outer (s : State) : SameOuter s s.restartCommand.state := by
  unfold State.restartCommand
  split
  · exact ⟨rfl, rfl, rfl, rfl⟩
  · exact s.softReset_outer.trans (by simp [State.answer])

@[simp] theorem State.spendFree_outer (s : State) : SameOuter s s.spendFree := by
  unfold State.spendFree
  split <;> exact ⟨rfl, rfl, rfl, rfl⟩

/-- R160: the checks of a command leave the state. -/
theorem State.checked_keeps {s : State} {done : Taken} (h : KeepsOuter s done.state)
    (checks : List (Bool × ResponseCode)) : KeepsOuter s (s.checked checks done).state :=
  State.checked_state (P := KeepsOuter s) (.refl s) h checks

theorem State.perform_keeps (s : State) (c : Command) : KeepsOuter s (s.perform c).state := by
  have hsame {t : State} (h : SameOuter s t) : KeepsOuter s t := h.keeps
  cases c <;> simp only [State.perform]
  case configure => exact s.configure_keeps ..
  case join => exact s.joinCommand_keeps
  case restart => exact hsame s.restartCommand_outer
  case readConfig | readNotice | readFault | clearFault | echo => exact hsame ⟨rfl, rfl, rfl, rfl⟩
  case leave | requestCrank | announceBudget | lift | readHistory | freezeHistory | thawHistory | engineRunning |
      engineStopped =>
    refine State.checked_keeps ?_ _
    exact hsame ⟨rfl, rfl, rfl, rfl⟩
  case crankDone => exact State.checked_keeps (hsame (by simp [State.accept, State.reportPhase])) _
  case crankFailed =>
    refine State.checked_keeps (hsame ?_) _
    simp only [State.accept, State.failCrank, State.reportPhase]
    split <;> simp
  case cancelCrank =>
    refine State.checked_keeps ?_ _
    split
    · exact hsame (by simp [State.answer])
    · exact State.checked_keeps (hsame (by simp [State.accept, State.reportPhase])) _
  case claim =>
    unfold State.claimCommand
    split
    · split
      · refine State.checked_keeps ?_ _
        exact hsame ⟨rfl, rfl, rfl, rfl⟩
      · exact .refl s
    · exact .refl s
  case release =>
    unfold State.releaseCommand
    (repeat' split)
    case h_1.isTrue.isTrue => exact hsame (by simp [State.answer, State.withdrawClaim])
    case h_1.isTrue.isFalse => exact State.checked_keeps (hsame (by simp [State.accept])) _
    all_goals exact .refl s
  case readStatus =>
    unfold State.readStatus
    split <;> exact .refl s
  case readClaim =>
    unfold State.readClaim
    (repeat' split) <;> exact .refl s
  case readPeer =>
    unfold State.readPeer
    split <;> exact .refl s
  case setWatch =>
    unfold State.setWatch
    dsimp only
    (repeat' split) <;> exact hsame (by simp [State.answer, State.refuse])
  case armWatch =>
    unfold State.armWatch
    (repeat' split) <;> exact hsame (by simp [State.answer, State.refuse])

/-! The mailbox and the transfers. -/

section
variable {b s : State}

theorem KeepsOuter.setPort (h : KeepsOuter b s) (v : Port) : KeepsOuter b (s.setPort v) :=
  h.trans ⟨rfl, rfl, rfl, fun _ => rfl⟩

theorem State.runRecord_keeps (s : State) (r : CommandRecord) : KeepsOuter s (s.runRecord r).state := by
  unfold State.runRecord
  split
  · exact s.perform_keeps _
  · exact .refl s

theorem KeepsOuter.takeCommand (h : KeepsOuter b s) : KeepsOuter b s.takeCommand := by
  unfold State.takeCommand
  split
  · exact (h.trans (s.runRecord_keeps _)).setPort _
  · exact h

theorem KeepsOuter.takeAtRise (h : KeepsOuter b s) (applying : Bool) : KeepsOuter b (s.takeAtRise applying) := by
  unfold State.takeAtRise
  split
  · exact h.setPort _
  · exact h.takeCommand

theorem KeepsOuter.offerRecord (h : KeepsOuter b s) (applying : Bool) (record : CommandRecord) :
    KeepsOuter b (s.offerRecord applying record) := by
  unfold State.offerRecord
  split
  · exact h.setPort _
  · exact (h.setPort _).takeAtRise applying

theorem KeepsOuter.give (h : KeepsOuter b s) (c : Command) : KeepsOuter b (s.give c) := by
  unfold State.give
  split
  · exact h
  · exact (h.offerRecord false _).conclude

theorem KeepsOuter.readRise (h : KeepsOuter b s) (o : Selected) (count : Nat) (applying : Bool) :
    KeepsOuter b (s.readRise o count applying) := by
  unfold State.readRise
  dsimp only
  split
  · split
    · exact ((h.setPort _).setPort _).takeAtRise applying
    · exact h.setPort _
  · exact h.setPort _

theorem KeepsOuter.rise (h : KeepsOuter b s) (shifted : List Byte) (applying : Bool) :
    KeepsOuter b (s.rise shifted applying) := by
  unfold State.rise
  split
  · exact h
  · exact h.setPort _
  split
  · exact h.setPort _
  · split
    · exact h.setPort _
    · exact (h.setPort _).offerRecord applying _
  · exact h.readRise _ _ applying

theorem KeepsOuter.transfer (h : KeepsOuter b s) (span : Span) (shifted : List Byte) :
    KeepsOuter b (s.transfer span shifted) := by
  unfold State.transfer
  split
  · exact h
  · cases span with
    | whole => exact (h.setPort _).rise shifted false
    | fall => exact h.setPort _
    | rise applying => exact h.rise shifted applying

theorem State.applyRow_keeps (s : State) (kind : FrameKind) : KeepsOuter s (s.applyRow kind) := by
  have happlied := (s.application_outer kind).keeps
  unfold State.applyRow
  split
  · exact ((happlied.setPort _).takeCommand).conclude
  · exact happlied

end

/-! The rows. -/

/-- Every row has a next state, and every row but a pin reset keeps what lies outside the blocks. -/
theorem exec_keeps (c : Instr) (s : State) :
    ∃ t, exec c s = .next t ∧ t.pending = s.pending ∧ ((∀ edge pins, c ≠ .pinReset edge pins) → KeepsOuter s t) := by
  have hnext {t : State} (h : KeepsOuter s t) : ∃ u,
      Host.Outcome.next t = (.next u : Host.Outcome State Fault Refusal) ∧ u.pending = s.pending ∧
        ((∀ edge pins, c ≠ .pinReset edge pins) → KeepsOuter s u) :=
    ⟨t, rfl, h.pending, fun _ => h⟩
  have hself := KeepsOuter.refl s
  have hend {t : State} (h : SameOuter s t) := hnext h.keeps.conclude
  have hexpire {d : Option Nat} {act : State → State} (ha : ∀ u, SameOuter u (act u)) :=
    hnext (State.expire_outer ha s d).keeps
  cases c
  case pinReset edge pins =>
    exact ⟨s.pinReset edge pins, rfl, by cases edge <;> rfl, fun h => absurd rfl (h edge pins)⟩
  case spiStatusTransfer | spiWriteTransfer | spiReadTransfer => exact hnext (hself.transfer _ _).conclude
  case presenceFrame | syncRequestFrame | snapshotFrame | joinFrame | leaveFrame | claimFrame | releaseFrame |
      settledFrame | phaseFrame | budgetFrame | shedRequestFrame | liftFrame | shedFaultFrame | stuckClearFrame |
      absenceFrame | reclaimFrame =>
    exact hnext (s.applyRow_keeps _)
  case startBit => exact hend s.takeStartBit_outer
  case lostContention => exact hend s.endTransmission_outer
  case frameReceived w => exact hend (s.receive_outer w)
  case shedFallingEdge => exact hend (s.peerDrive_outer true)
  case shedRisingEdge => exact hend (s.peerDrive_outer false)
  case feedbackChange i d => exact hend (s.feedback_outer i d)
  case readbackFailure =>
    unfold exec execReadbackFailure
    dsimp only
    split
    · exact hend (s.failReadback_outer _)
    · exact hnext hself
  case frameCompletedClean =>
    unfold exec execFrameCompletedClean
    dsimp only
    split
    · exact hend (s.completeClean_outer _)
    · exact hnext hself
  case gateTimeoutExpiry =>
    unfold exec execGateTimeoutExpiry
    dsimp only
    split
    · exact hexpire fun _ => State.gateExpires_outer _ _
    · exact hnext hself
  case heartbeatExpiry => exact hexpire State.beat_outer
  case probeDue => exact hexpire State.probeFalls_outer
  case syncTimeout => exact hexpire State.syncExpires_outer
  case isolationBySilence => exact hexpire (act := fun t => t.changeOutside .silence) fun _ => by simp
  case silenceTimerExpiry p => exact hexpire fun t => t.peerSilent_outer p
  case orphanHoldExpiry p => exact hexpire fun t => t.orphansDue_outer p
  case crankSettleExpiry => exact hexpire State.settleExpires_outer
  case lockoutExpiry => exact hexpire State.lockoutExpires_outer
  case latchLimitExpiry => exact hexpire State.latchExpires_outer
  case offDeadlineExpiry i => exact hexpire fun t => t.offExpires_outer i
  case stuckClearRetry i => exact hexpire fun t => t.retryClear_outer i
  case settleTimerExpiry i => exact hexpire fun t => t.slotSettled_outer i
  case holdLimit i => exact hexpire fun t => t.holdReached_outer i
  case vsenseSample v => exact hexpire fun t => t.sample_outer v
  case watchPulseExpiry second => exact hexpire fun t => t.endPulse_outer second
  all_goals exact hnext (hself.give _)

/-- Settles O3: a pin reset keeps the queue, and every other row all that lies outside the blocks. -/
theorem commandsKeepQueueAndLock : Obligations.CommandsKeepQueueAndLock := by
  refine ⟨fun c s => ?_, fun c s t hl hr he => ?_⟩
  · obtain ⟨t, he, hp, hk⟩ := exec_keeps c s
    exact ⟨t, he, hp, fun hr => (hk hr).straps⟩
  · obtain ⟨u, hu, -, hk⟩ := exec_keeps c s
    cases hu.symm.trans he
    exact (hk hr).config hl

end Sys2Proof.Machine
end

section
/-! The three transfers of the port (R156 to R159, R173): the fall, the rise by the type of the transfer, and the
command that is due at the end of an application. -/

namespace Sys2Proof.Machine

/-! The fall and the rise. -/

section
variable {s : State} {o : Selected} {applying : Bool}

theorem State.transfer_rise (h : s.resetLow = false) (shifted : List Byte) :
    s.transfer (.rise applying) shifted = s.rise shifted applying := by simp [State.transfer, h]

theorem State.transfer_fall (h : s.resetLow = false) (shifted : List Byte) :
    s.transfer .fall shifted = s.selectPort := by simp [State.transfer, h]

/-- R156: a whole transfer is its fall, and the rise with the engine idle (log entry 5). -/
theorem State.transfer_whole (h : s.resetLow = false) (shifted : List Byte) :
    s.transfer .whole shifted = s.selectPort.transfer (.rise false) shifted := by
  rw [State.transfer_rise (s := s.selectPort) h]
  simp [State.transfer, h]

/-- Log entry 2. -/
theorem State.rise_unselected (h : s.port.select = none) (shifted : List Byte) : s.rise shifted applying = s := by
  simp only [State.rise, h]

/-- Log entry 5: the transfer is cut short inside its status byte. -/
theorem State.rise_short (h : s.port.select = some o) :
    s.rise [] applying = s.setPort { s.port with select := none, sdo := [] } := by simp only [State.rise, h]

theorem State.rise_status (h : s.port.select = some o) {kind : Byte} (h1 : kind ≠ 1) (h2 : kind ≠ 2)
    (rest : List Byte) : s.rise (kind :: rest) applying = s.shiftOut o [] := by
  have htype : TransferType.ofByte kind = .status := by rw [TransferType.ofByte, if_neg h1, if_neg h2]
  simp only [State.rise, h, htype]

/-- R158: a WRITE without a record byte. -/
theorem State.rise_write_nil (h : s.port.select = some o) : s.rise [1] applying = s.shiftOut o [] := by
  have htype : TransferType.ofByte 1 = .write := rfl
  simp only [State.rise, h, htype]
  exact if_pos rfl

theorem State.rise_write (h : s.port.select = some o) {record : List Byte} (hr : record ≠ []) :
    s.rise (1 :: record) applying = (s.shiftOut o []).offerRecord applying (.ofWrite record) := by
  have htype : TransferType.ofByte 1 = .write := rfl
  simp only [State.rise, h, htype]
  exact if_neg (by simpa using hr)

theorem State.rise_read (h : s.port.select = some o) (rest : List Byte) :
    s.rise (2 :: rest) applying = s.readRise o rest.length applying := by
  have htype : TransferType.ofByte 2 = .read := rfl
  simp only [State.rise, h, htype]

/-- R159: of what a READ shifts in, only the number of bytes matters. -/
theorem State.rise_read_congr {xs ys : List Byte} (h : xs.length = ys.length) :
    s.rise (2 :: xs) applying = s.rise (2 :: ys) applying := by
  cases hsel : s.port.select with
  | none => rw [State.rise_unselected hsel, State.rise_unselected hsel]
  | some o => rw [State.rise_read hsel, State.rise_read hsel, h]

theorem State.transfer_read (s : State) (span : Span) (rest : List Byte) :
    s.transfer span (2 :: rest) = s.transfer span (readBytes rest.length) := by
  have hlen : rest.length = (List.replicate rest.length (0 : Byte)).length := by simp
  unfold State.transfer
  split
  · rfl
  · cases span with
    | whole => exact State.rise_read_congr hlen
    | fall => rfl
    | rise applying => exact State.rise_read_congr hlen

/-- R159: a READ begun with RSP_FULL clear, or whose response is gone. -/
theorem State.readRise_nothing (h : o.full = false ∨ s.port.response = none) (count : Nat) :
    s.readRise o count applying = s.shiftOut o ([0xFF].take count) := by
  unfold State.readRise
  split
  · rename_i hfull hresponse
    rcases h with h | h
    · rw [h] at hfull
      cases hfull
    · rw [h] at hresponse
      cases hresponse
  · rfl

/-- R159: a READ that stops short. -/
theorem State.readRise_short {response : List Byte} (hf : o.full = true) (hr : s.port.response = some response)
    {count : Nat} (hc : count < response.length) :
    s.readRise o count applying = s.shiftOut o (response.take count) := by
  simp [State.readRise, hf, hr, Nat.not_le.mpr hc]

/-- The state with an empty response buffer. -/
def State.emptied (s : State) : State := s.setPort { s.port with response := none }

/-- R159: a READ that shifts out every byte of the response. -/
theorem State.readRise_whole {response : List Byte} (hf : o.full = true) (hr : s.port.response = some response)
    {count : Nat} (hc : response.length ≤ count) :
    s.readRise o count applying = (s.shiftOut o response).emptied.takeAtRise applying := by
  simp [State.readRise, hf, hr, hc, List.take_of_length_le hc, State.emptied]

/-! The mailbox at a rise. -/

theorem State.engineBusy_iff : s.engineBusy applying = true ↔ applying = true ∧ s.link.inbound ≠ [] := by
  simp [State.engineBusy]

theorem State.engineBusy_eq_false (h : ¬ (applying = true ∧ s.link.inbound ≠ [])) : s.engineBusy applying = false :=
  Bool.eq_false_iff.mpr fun hb => h (State.engineBusy_iff.mp hb)

/-- R159: during an application the command is due. -/
theorem State.takeAtRise_busy (h : s.engineBusy applying = true) : s.takeAtRise applying =
    s.setPort { s.port with due := s.port.command.isSome && s.port.response.isNone } := by simp [State.takeAtRise, h]

/-- R158: a record that meets a waiting command is dropped. -/
theorem State.offerRecord_dropped (h : s.port.command.isSome = true) (record : CommandRecord) :
    s.offerRecord applying record = s.setPort { s.port with overwrite := true } := by simp [State.offerRecord, h]

/-- R158: a record enters an empty command buffer. -/
theorem State.offerRecord_entered (h : s.port.command = none) (record : CommandRecord) :
    s.offerRecord applying record = (s.setPort { s.port with command := some record }).takeAtRise applying := by
  simp [State.offerRecord, h]

theorem State.takeCommand_unread (h : s.port.response.isSome = true) : s.takeCommand = s :=
  State.takeCommand_idle (by simp [State.waiting, Option.isSome_iff_ne_none.mp h])

theorem State.takeCommand_empty (h : s.port.command = none) : s.takeCommand = s :=
  State.takeCommand_idle (by simp [State.waiting, h])

/-- The row of a command at an empty command buffer takes what it writes, if nothing stands unread. -/
theorem State.give_entered (hr : s.resetLow = false) (hc : s.port.command = none) (c : Command) : s.give c =
    (s.setPort { s.port with command := some (.ofWrite c.bytes) }).takeCommand.conclude := by
  rw [State.give, if_neg (by simp [hr]), State.offerRecord_entered hc, State.takeAtRise_idle _ _ rfl]

/-- The taking of a waiting command is its row, at the mailbox without it. -/
theorem State.exec_row_waiting {c : Command} (hr : s.resetLow = false)
    (hc : s.port.command = some (.ofWrite c.bytes)) :
    exec c.row (s.setPort { s.port with command := none }) = .next s.takeCommand.conclude := by
  have hback : { s.port with command := some (.ofWrite c.bytes) } = s.port := by rw [← hc]
  rw [exec_row, State.give_entered (s := s.setPort { s.port with command := none }) hr rfl]
  exact congrArg (fun p => Host.Outcome.next (s.setPort p).takeCommand.conclude) hback

end

/-! The rows of the transfers. -/

section
variable {s : State} {applying : Bool}

theorem exec_spiStatusTransfer (t : Transfer (List Byte)) (s : State) :
    exec (.spiStatusTransfer t) s = .next (s.transfer t.span t.shifts).conclude := rfl

theorem exec_spiWriteTransfer (t : Transfer (List Byte)) (s : State) :
    exec (.spiWriteTransfer t) s = .next (s.transfer t.span (1 :: t.shifts)).conclude := rfl

theorem exec_spiReadTransfer (t : Transfer Nat) (s : State) :
    exec (.spiReadTransfer t) s = .next (s.transfer t.span (readBytes t.shifts)).conclude := rfl

/-- R173: the first byte shifted in selects the type. -/
theorem spiTransfer_type (s : State) (span : Span) (kind : Byte) (rest : List Byte) :
    (kind = 1 → exec (.spiStatusTransfer ⟨span, kind :: rest⟩) s = exec (.spiWriteTransfer ⟨span, rest⟩) s) ∧
      (kind = 2 →
        exec (.spiStatusTransfer ⟨span, kind :: rest⟩) s = exec (.spiReadTransfer ⟨span, rest.length⟩) s) := by
  refine ⟨fun h => by rw [h]; rfl, fun h => ?_⟩
  rw [h, exec_spiStatusTransfer, exec_spiReadTransfer, State.transfer_read]

/-- A transfer that ends in a settled state. -/
theorem State.Settled.transfer_ends {t : State} (ht : t.Settled) {span : Span} {shifted : List Byte}
    (h : s.transfer span shifted = t) :
    (.next (s.transfer span shifted).conclude : Host.Outcome State Fault Refusal) = .next t := by rw [h, ht.conclude]

/-- R156, R157: the fall samples the status byte, whatever is to be shifted in. -/
theorem transfer_fall_ends (hs : s.Settled) (ha : s.resetLow = false) (shifted : List Byte) :
    (.next (s.transfer .fall shifted).conclude : Host.Outcome State Fault Refusal) = .next s.selectPort :=
  State.Settled.transfer_ends (hs.setPort _) (State.transfer_fall ha shifted)

/-- R156: a rise with no transfer under way. -/
theorem transfer_unselected_ends (hs : s.Settled) (ha : s.resetLow = false) (hn : s.port.select = none)
    (shifted : List Byte) :
    (.next (s.transfer (.rise applying) shifted).conclude : Host.Outcome State Fault Refusal) = .next s :=
  hs.transfer_ends ((State.transfer_rise ha shifted).trans (State.rise_unselected hn shifted))

end

/-! The rise, by type. -/

theorem State.Settled.emptied {s : State} (hs : s.Settled) : s.emptied.Settled := hs.setPort _

section
variable {s : State} {o : Selected} {applying : Bool}

/-- A rise that ends in a settled state. -/
theorem State.Settled.rise_ends {t : State} (ht : t.Settled) (ha : s.resetLow = false) {shifted : List Byte}
    (h : s.rise shifted applying = t) :
    (.next (s.transfer (.rise applying) shifted).conclude : Host.Outcome State Fault Refusal) = .next t :=
  ht.transfer_ends ((State.transfer_rise ha shifted).trans h)

theorem State.Settled.shiftOut (hs : s.Settled) (o : Selected) (bytes : List Byte) : (s.shiftOut o bytes).Settled :=
  hs.setPort _

/-- R158: a WRITE of a record that is not empty. -/
theorem spiWrite_rise (ha : s.resetLow = false) (ho : s.port.select = some o) {record : List Byte} (hr : record ≠ []) :
    exec (.spiWriteTransfer ⟨.rise applying, record⟩) s =
      .next ((s.shiftOut o []).offerRecord applying (.ofWrite record)).conclude := by
  rw [exec_spiWriteTransfer, State.transfer_rise ha, State.rise_write ho hr]

/-- R158: into an empty command buffer with the engine idle, a WRITE is the row of its command. -/
theorem spiWrite_rise_row (ha : s.resetLow = false) (ho : s.port.select = some o) (hc : s.port.command = none)
    (hb : s.engineBusy applying = false) (c : Command) :
    exec (.spiWriteTransfer ⟨.rise applying, c.bytes⟩) s = exec c.row (s.shiftOut o []) := by
  have hbytes : c.bytes ≠ [] := by cases c <;> simp [Command.bytes]
  have hb' : ((s.shiftOut o []).setPort { (s.shiftOut o []).port with
      command := some (.ofWrite c.bytes) }).engineBusy applying = false := hb
  rw [spiWrite_rise ha ho hbytes, exec_row, State.give_entered (s := s.shiftOut o []) ha hc,
    State.offerRecord_entered (s := s.shiftOut o []) hc, State.takeAtRise_idle _ _ hb']

theorem spiRead_rise (ha : s.resetLow = false) (ho : s.port.select = some o) (count : Nat) :
    exec (.spiReadTransfer ⟨.rise applying, count⟩) s = .next (s.readRise o count applying).conclude := by
  rw [exec_spiReadTransfer, State.transfer_rise ha, readBytes, State.rise_read ho, List.length_replicate]

/-- R159: a READ that shifts out the whole response. -/
theorem spiRead_rise_whole (ha : s.resetLow = false) (ho : s.port.select = some o) (hf : o.full = true)
    {response : List Byte} (hr : s.port.response = some response) {count : Nat} (hc : response.length ≤ count) :
    exec (.spiReadTransfer ⟨.rise applying, count⟩) s =
      .next ((s.shiftOut o response).emptied.takeAtRise applying).conclude := by
  rw [spiRead_rise ha ho, State.readRise_whole hf hr hc]

/-- R159: with the engine idle, the command that waits is then taken as its row would be. -/
theorem spiRead_rise_row (ha : s.resetLow = false) (ho : s.port.select = some o) (hf : o.full = true)
    {response : List Byte} (hr : s.port.response = some response) {count : Nat} (hc : response.length ≤ count)
    (hb : s.engineBusy applying = false) {c : Command} (hw : s.port.command = some (.ofWrite c.bytes)) :
    exec (.spiReadTransfer ⟨.rise applying, count⟩) s = exec c.row
      ((s.shiftOut o response).emptied.setPort { (s.shiftOut o response).emptied.port with command := none }) := by
  rw [spiRead_rise_whole ha ho hf hr hc, State.takeAtRise_idle _ _ (by exact hb),
    State.exec_row_waiting (s := (s.shiftOut o response).emptied) ha hw]

end

/-- R159: the command that is due is taken at the end of the application, as its row would be. -/
theorem frameRow_takes_due {s : State} {f : Frame} {rest : List Frame} {c : Command} (hq : s.link.inbound = f :: rest)
    (ha : s.resetLow = false) (hd : s.port.due = true) (hc : s.port.command = some (.ofWrite c.bytes)) :
    exec (frameRow f.body.kind) s = exec c.row ((s.application f.body.kind).setPort
      { (s.application f.body.kind).port with command := none, due := false }) := by
  have hhead : s.headIs f.body.kind = true := by simp [State.headIs, hq]
  rw [exec_frameRow, s.applyRow_due _ hhead hd]
  obtain ⟨-, -, hreset, -⟩ := s.application_outer f.body.kind
  have hcommand := (s.application_keepsMailbox f.body.kind).command
  generalize s.application f.body.kind = applied at *
  exact (State.exec_row_waiting (s := applied.setPort { applied.port with due := false }) (hreset.trans ha)
    (hcommand.trans hc)).symm

/-- Settles O24: the type of a transfer, its fall and its rise, and then the rise by the type and the mailbox. -/
theorem spiTransfers : Obligations.SpiTransfers := by
  refine ⟨spiTransfer_type, fun s shifted record count applying hs ha => ⟨?fall, ?whole, ?unselected⟩,
    fun s o applying hs ha ho => ?rise, fun s f rest c hq ha hd hc hr _ => frameRow_takes_due hq ha hd hc⟩
  case fall => exact ⟨transfer_fall_ends hs ha _, transfer_fall_ends hs ha _, transfer_fall_ends hs ha _⟩
  case whole =>
    have hwhole (shifted : List Byte) :
        (.next (s.transfer .whole shifted).conclude : Host.Outcome State Fault Refusal) =
          .next (s.selectPort.transfer (.rise false) shifted).conclude := by rw [State.transfer_whole ha]
    exact ⟨hwhole _, hwhole _, hwhole _⟩
  case unselected =>
    exact fun hn => ⟨transfer_unselected_ends hs ha hn _, transfer_unselected_ends hs ha hn _,
      transfer_unselected_ends hs ha hn _⟩
  case rise =>
    have hout (bytes : List Byte) : (s.shiftOut o bytes).Settled := hs.shiftOut o bytes
    have hidle (hb : ¬ (applying = true ∧ s.link.inbound ≠ [])) : s.engineBusy applying = false :=
      State.engineBusy_eq_false hb
    refine ⟨fun kind rest h1 h2 => ?_, ?_, ?_,
      fun record hrecord => ⟨fun hc => ?_, fun hc hr hb => ?_, fun hc hb => ?_⟩,
      fun c hc hb _ => spiWrite_rise_row ha ho hc (hidle hb) c, fun count hn => ?_,
      fun count response hf hr => ⟨fun hlt => ?_, fun hle hc hb => ?_, fun c hle _ hw hb => ?_, fun hle hb => ?_⟩⟩
    · exact (hout []).rise_ends ha (State.rise_status ho h1 h2 rest)
    · exact State.Settled.rise_ends (hs.setPort _) ha (State.rise_short ho)
    · exact (hout []).rise_ends ha (State.rise_write_nil ho)
    · rw [spiWrite_rise ha ho hrecord, State.offerRecord_dropped (s := s.shiftOut o []) hc,
        ((hout []).setPort _).conclude]
      rfl
    · rw [spiWrite_rise ha ho hrecord, State.offerRecord_entered (s := s.shiftOut o []) hc,
        State.takeAtRise_idle _ _ (by exact hidle hb), State.takeCommand_unread (by exact hr),
        ((hout []).setPort _).conclude]
      rfl
    · rw [spiWrite_rise ha ho hrecord, State.offerRecord_entered (s := s.shiftOut o []) hc,
        State.takeAtRise_busy (by exact State.engineBusy_iff.mpr hb), (((hout []).setPort _).setPort _).conclude]
      rfl
    · rw [spiRead_rise ha ho, State.readRise_nothing hn, (hout _).conclude]
      rfl
    · rw [spiRead_rise ha ho, State.readRise_short hf hr hlt, (hout _).conclude]
      rfl
    · rw [spiRead_rise_whole ha ho hf hr hle, State.takeAtRise_idle _ _ (by exact hidle hb),
        State.takeCommand_empty (by exact hc), (hout response).emptied.conclude]
      rfl
    · exact spiRead_rise_row ha ho hf hr hle (hidle hb) hw
    · rw [spiRead_rise_whole ha ho hf hr hle, State.takeAtRise_busy (by exact State.engineBusy_iff.mpr hb),
        ((hout response).emptied.setPort _).conclude]
      simp [State.emptied, State.shiftOut]

end Sys2Proof.Machine
end

section
/-! The queue of commands: a step takes its front, and what is left of the state is as before the command was put there. -/

namespace Sys2Proof.Machine

@[simp] theorem State.setPending_setPending (s : State) (v w : List Instr) :
    (s.setPending v).setPending w = s.setPending w := rfl

@[simp] theorem State.setPending_self (s : State) : s.setPending s.pending = s := rfl

theorem step_eq_exec {s : State} {c : Instr} {rest : List Instr} (hq : s.pending = c :: rest) :
    step s = exec c (s.setPending rest) := by
  rw [step, hq]

/-- Settles O1: the queue that is left is the one that the command was put in front of. -/
theorem stepTakesFront : Obligations.StepTakesFront := by
  intro c s
  calc step (s.setPending (c :: s.pending))
      = exec c ((s.setPending (c :: s.pending)).setPending s.pending) := step_eq_exec (s.setPending_pending _)
    _ = exec c s := by rw [State.setPending_setPending, State.setPending_self]

end Sys2Proof.Machine
end

section
/-! The crank settle's expiry and the lockout's end (R57, R60, R70). -/

namespace Sys2Proof.Machine

@[simp] theorem State.advanceTo_replica (s : State) (d : Nat) : (s.advanceTo d).replica = s.replica := by simp
@[simp] theorem State.advanceTo_config (s : State) (d : Nat) : (s.advanceTo d).config = s.config := by simp
@[simp] theorem State.advanceTo_crank (s : State) (d : Nat) : (s.advanceTo d).crank = s.crank := by simp
@[simp] theorem State.advanceTo_phaseRecord (s : State) (d : Nat) : (s.advanceTo d).phaseRecord = s.phaseRecord := by
  simp [State.phaseRecord]
@[simp] theorem State.advanceTo_namedCrank (s : State) (d : Nat) : (s.advanceTo d).namedCrank = s.namedCrank := by
  simp [State.namedCrank, State.self]

section
variable {s : State} {d : Nat}

/-- R70: a full urgent lane drops the frame, and the sequencer's timer runs anew. -/
theorem State.Settled.dropsUrgent (hs : s.Settled) {crank : CrankUnit} (hh : crank.hold = s.crank.hold) {t : State}
    (ht : t = (((s.advanceTo d).capture .outboundFull .none (some .phase)).setCrank crank).conclude) :
    t.link = s.link ∧ t.crank = crank ∧ Untouched s t ∧ t.members = s.members ∧
      Drops s t (s.advanceTo d).stamp .phase := by
  have hw : ((s.advanceTo d).setCrank crank).Settled := (hs.advanceTo d).setCrank (by simpa using hh)
  obtain ⟨-, hfault⟩ := hw.conclude_beside
    (u := ((s.advanceTo d).capture .outboundFull .none (some .phase)).setCrank crank)
    (by constructor <;> simp [State.shedHigh, State.ownDrive]) (by simp)
  have hdrops : Drops s ((s.advanceTo d).capture .outboundFull .none (some .phase)) (s.advanceTo d).stamp .phase :=
    State.capture_drops (by simp) (by simp) _
  exact ⟨by simp [ht], by simp [ht], by simp [ht, Untouched], by simp [ht], hdrops.of_fault (by rw [ht, hfault]; rfl)⟩

/-! The crank settle (R57). -/

theorem State.exec_crankSettle (h : s.crank.settle = some d) :
    exec .crankSettleExpiry s = .next ((s.advanceTo d).settleExpires).conclude := by
  rw [← s.expire_some h State.settleExpires]
  rfl

/-- R57: the settle timer for the configured settle period, from this moment. -/
def State.settleAgain (s : State) (d : Nat) : Option Nat := some (max s.now d + s.config.general.crankSettle)

theorem State.startSettle_eq (u : State) :
    u.startSettle = u.setCrank { u.crank with settle := some (u.now + u.config.general.crankSettle) } := rfl

theorem State.settleExpires_other (hm : s.mode ≠ .member) : (s.advanceTo d).settleExpires =
    (s.advanceTo d).setCrank { s.crank with settle := s.settleAgain d } := by
  have hother : (s.advanceTo d).settleExpires = (s.advanceTo d).startSettle := by
    simp only [State.settleExpires, State.advanceTo_mode]
    split
    · exact absurd ‹s.mode = .member› hm
    · rfl
  rw [hother, State.startSettle_eq, s.advanceTo_crank, s.advanceTo_now, s.advanceTo_config, State.settleAgain]

/-- R57: the timer is extended over a STUCK claim of a low class. -/
theorem State.settleExpires_extends {r : Replica} (hm : s.mode = .member) (hr : s.replica = some r)
    (hl : r.lowStuck = true) (he : s.crank.extensions < 2) : (s.advanceTo d).settleExpires =
      ((s.advanceTo d).setCrank { s.crank with
        extensions := s.crank.extensions + 1, settle := s.settleAgain d }).postPhase
          (.settleExtended (s.crank.extensions + 1)) := by
  simp [State.settleExpires, hm, hr, hl, Config.extensionLimit, he, s.advanceTo_now, State.settleAgain]

theorem State.settleExpires_begins {r : Replica} (hm : s.mode = .member) (hr : s.replica = some r)
    (h : r.lowStuck = false ∨ 2 ≤ s.crank.extensions) :
    (s.advanceTo d).settleExpires = (s.advanceTo d).beginCrank r.phase.attempts := by
  have hnot : (r.lowStuck && decide (s.crank.extensions < Config.extensionLimit)) = false := by
    rcases h with h | h
    · rw [h, Bool.false_and]
    · rw [decide_eq_false (by exact Nat.not_lt.mpr h), Bool.and_false]
  simp [State.settleExpires, hm, hr, hnot]

theorem crankSettleExtends {r : Replica} (hs : s.Settled) (h : s.crank.settle = some d) (hm : s.mode = .member)
    (hr : s.replica = some r) (hl : r.lowStuck = true) (he : s.crank.extensions < 2) :
    ∃ t, exec .crankSettleExpiry s = .next t ∧ t.link = s.link ∧
      t.crank = { s.crank with extensions := s.crank.extensions + 1, settle := s.settleAgain d } ∧
      (s.port.notices.length < 16 → t.port.notices = s.port.notices ++
        [{ stamp := (s.advanceTo d).stamp, epoch := some r.epoch,
           content := .phase (.settleExtended (s.crank.extensions + 1)) (some r.phase) }]) := by
  rw [State.exec_crankSettle h, State.settleExpires_extends hm hr hl he]
  have hw : ((s.advanceTo d).setCrank { s.crank with
      extensions := s.crank.extensions + 1, settle := s.settleAgain d }).Settled := (hs.advanceTo d).setCrank (by simp)
  refine ⟨_, rfl, by simp, by simp, fun hn => ?_⟩
  rw [(State.conclude_quiet (hw.quiet (by simp) (by simp) (by simp) (by simp))).1, State.postPhase,
    State.post_notices (by simpa using hn)]
  simp [State.epoch, State.phaseRecord, hr, State.stamp]

/-- R57, R70: the CRANK is queued and CRANKING entered, or the lane is full. -/
theorem crankSettleBegins {r : Replica} (hs : s.Settled) (h : s.crank.settle = some d) (hm : s.mode = .member)
    (hr : s.replica = some r) (hb : r.lowStuck = false ∨ 2 ≤ s.crank.extensions) :
    (s.link.urgent.length < 3 → exec .crankSettleExpiry s = .next (((s.advanceTo d).setLink { s.link with
        urgent := s.link.urgent ++ [.fixed (phaseFrameBody .crank r.phase.attempts)] }).setCrank
      { s.crank with state := .cranking, settle := none, goPosted := false })) ∧
    (s.link.urgent.length = 3 → ∃ t, exec .crankSettleExpiry s = .next t ∧ t.link = s.link ∧
      t.crank = { s.crank with settle := s.settleAgain d } ∧
      Untouched s t ∧ t.members = s.members ∧ Drops s t (s.advanceTo d).stamp .phase) := by
  have hroom : (s.advanceTo d).urgentRoom = true ↔ s.link.urgent.length < 3 := by
    rw [State.urgentRoom_iff, s.advanceTo_link]
  rw [State.exec_crankSettle h, State.settleExpires_begins hm hr hb, State.beginCrank]
  refine ⟨fun hl => ?_, fun hl => ?_⟩
  · have hsettled := ((hs.advanceTo d).setLink { s.link with
      urgent := s.link.urgent ++ [.fixed (phaseFrameBody .crank r.phase.attempts)] }).setCrank
        (v := { s.crank with state := .cranking, settle := none, goPosted := false }) (by simp)
    rw [if_pos (hroom.mpr hl), State.pushUrgent, s.advanceTo_link, s.advanceTo_crank]
    exact congrArg _ hsettled.conclude
  · rw [if_neg (mt hroom.mp (by omega))]
    refine ⟨_, rfl, hs.dropsUrgent (crank := { s.crank with settle := s.settleAgain d }) rfl ?_⟩
    rw [State.startSettle_eq]
    simp [State.settleAgain, s.advanceTo_now]

/-! The lockout (R60). -/

theorem State.exec_lockout (h : s.crank.lockout = some d) :
    exec .lockoutExpiry s = .next ((s.advanceTo d).lockoutExpires).conclude := by
  rw [← s.expire_some h State.lockoutExpires]
  rfl

/-- R60: the sequencer whose lockout runs anew. -/
def State.lockedAgain (s : State) (d : Nat) : CrankUnit :=
  { s.crank with lockout := some (max s.now d + 1000 * s.config.general.crankLockout) }

theorem State.restartLockout_eq {u : State} (hn : u.now = max s.now d) (hc : u.config = s.config)
    (hk : u.crank = s.crank) : u.restartLockout = u.setCrank (s.lockedAgain d) := by
  rw [State.restartLockout, State.lockedAgain, hn, hc, hk]

/-- R60: a lockout that ends owes the closing STOP. -/
def State.OwesStop (s : State) : Prop := s.namedCrank = true ∧ s.phaseIs [.stop] = true ∧ s.attempts ≠ 0

theorem State.lockoutExpires_owed {u : State} (hm : u.mode = .member) (ho : u.OwesStop) : u.lockoutExpires =
    if u.urgentRoom then (u.pushUrgent closingStop).toIdle.postPhase .lockoutEnded
    else (u.capture .outboundFull .none (some .phase)).restartLockout := by
  obtain ⟨hnamed, hstop, hattempts⟩ := ho
  simp only [State.phaseIs, State.attempts] at hstop hattempts
  rw [State.lockoutExpires, if_pos hm]
  cases hp : u.phaseRecord <;> simp_all

theorem State.lockoutExpires_paid {u : State} (hm : u.mode = .member) (ho : ¬ u.OwesStop) :
    u.lockoutExpires = u.toIdle.postPhase .lockoutEnded := by
  simp only [State.OwesStop, State.phaseIs, State.attempts] at ho
  rw [State.lockoutExpires, if_pos hm]
  cases hp : u.phaseRecord <;> simp_all

theorem State.lockoutExpires_other (hm : s.mode ≠ .member) :
    (s.advanceTo d).lockoutExpires = (s.advanceTo d).setCrank (s.lockedAgain d) := by
  rw [State.lockoutExpires, if_neg (by simpa using hm)]
  exact State.restartLockout_eq (s.advanceTo_now d) (s.advanceTo_config d) (s.advanceTo_crank d)

theorem State.advanceTo_owesStop (s : State) (d : Nat) : (s.advanceTo d).OwesStop ↔ s.OwesStop := by
  simp [State.OwesStop, State.phaseIs, State.attempts]

/-- R60, R70: the lockout's end. -/
theorem lockoutEnds (hs : s.Settled) (h : s.crank.lockout = some d) :
    (s.mode ≠ .member → exec .lockoutExpiry s = .next ((s.advanceTo d).setCrank (s.lockedAgain d))) ∧
    (s.mode = .member → s.OwesStop → s.link.urgent.length < 3 →
      ∃ t, exec .lockoutExpiry s = .next t ∧ t.crank = .reset ∧ t.replica = s.replica ∧
        t.link = { s.link with urgent := s.link.urgent ++ [.fixed (phaseFrameBody .stop 0)] }) ∧
    (s.mode = .member → s.OwesStop → s.link.urgent.length = 3 →
      ∃ t, exec .lockoutExpiry s = .next t ∧ t.link = s.link ∧ t.crank = s.lockedAgain d ∧
        Untouched s t ∧ t.members = s.members ∧ Drops s t (s.advanceTo d).stamp .phase) ∧
    (s.mode = .member → ¬ s.OwesStop →
      ∃ t, exec .lockoutExpiry s = .next t ∧ t.crank = .reset ∧ t.replica = s.replica ∧ t.link = s.link) := by
  have howes := s.advanceTo_owesStop d
  have hroom : (s.advanceTo d).urgentRoom = true ↔ s.link.urgent.length < 3 := by
    rw [State.urgentRoom_iff, s.advanceTo_link]
  rw [State.exec_lockout h]
  refine ⟨fun hm => ?_, fun hm ho hl => ?_, fun hm ho hl => ?_, fun hm ho => ?_⟩
  · rw [State.lockoutExpires_other hm, ((hs.advanceTo d).setCrank (by simp [State.lockedAgain])).conclude]
  · rw [State.lockoutExpires_owed ((s.advanceTo_mode d).trans hm) (howes.mpr ho), if_pos (hroom.mpr hl)]
    refine ⟨_, rfl, by simp, by simp, ?_⟩
    simp only [State.conclude_frame, State.postPhase_frame, State.toIdle_quiet, State.pushUrgent, s.advanceTo_link]
    rfl
  · rw [State.lockoutExpires_owed ((s.advanceTo_mode d).trans hm) (howes.mpr ho), if_neg (mt hroom.mp (by omega)),
      State.restartLockout_eq (s := s) (d := d) (by simp [s.advanceTo_now]) (by simp) (by simp)]
    exact ⟨_, rfl, hs.dropsUrgent (crank := s.lockedAgain d) rfl rfl⟩
  · rw [State.lockoutExpires_paid ((s.advanceTo_mode d).trans hm) (mt howes.mp ho)]
    exact ⟨_, rfl, by simp, by simp, by simp⟩

end

end Sys2Proof.Machine
end

section
/-! What one evaluation makes of a watch unit and of the station (R138 to R144). -/

namespace Sys2Proof.Machine

@[simp] theorem State.setUnit_other (s : State) (second : Bool) (u : WatchUnit) :
    (s.setUnit second u).unit (!second) = s.unit (!second) := by
  cases second <;> rfl

@[simp] theorem State.setUnit_self (s : State) (second : Bool) : s.setUnit second (s.unit second) = s := by
  cases second <;> rfl

/-! The units (R140, R141). -/

/-- R141, R143: a unit that has fired at this moment. -/
def WatchUnit.firing (u : WatchUnit) (now : Nat) : WatchUnit :=
  { u with
    state := if u.actions.rearm then .armed else .fired
    counter := if u.actions.rearm then u.reload else u.counter
    pulse := if u.actions.pullShed then some (now + 50) else u.pulse }

/-- R140: W1 behind a firing of W0. -/
def WatchUnit.following (u : WatchUnit) : WatchUnit :=
  if u.sequence && (u.state == .armed || u.state == .disarmed) then { u with state := .armed, counter := u.reload } else u

/-- R139: a unit at an evaluation that does not match. -/
def WatchUnit.missed (u : WatchUnit) : WatchUnit :=
  if u.source = .supply ∨ u.source = .headroom then { u with counter := u.reload } else u

theorem WatchUnit.firing_counts {u : WatchUnit} (hc : u.counter = 0) {hit : Prop} (hh : hit) (now : Nat) :
    Counts u (u.firing now) hit := by
  refine ⟨fun hn => absurd hh hn, fun _ hn => absurd hc hn, fun _ _ => ⟨?_, fun hp => by simp [WatchUnit.firing, hp]⟩⟩
  rw [WatchUnit.firing, hc]

theorem WatchUnit.missed_counts {u : WatchUnit} {hit : Prop} (hh : ¬ hit) : Counts u u.missed hit :=
  ⟨fun _ => rfl, fun h => absurd h hh, fun h => absurd h hh⟩

theorem WatchUnit.counted_counts {u : WatchUnit} {hit : Prop} (hh : hit) (hc : u.counter ≠ 0) :
    Counts u { u with counter := u.counter - 1 } hit :=
  ⟨fun h => absurd hh h, fun _ _ => rfl, fun _ h => absurd h hc⟩

theorem WatchUnit.following_disarmed {u : WatchUnit} (hs : u.sequence = true) (hd : u.state = .disarmed) :
    u.following = { u with state := .armed, counter := u.reload } := by
  simp [WatchUnit.following, hs, hd]

theorem WatchUnit.following_armed {u : WatchUnit} (hs : u.sequence = true) (ha : u.state = .armed) :
    u.following = { u with counter := u.reload } := by
  simp [WatchUnit.following, hs, ha]

theorem WatchUnit.following_stays {u : WatchUnit} (ha : u.state ≠ .armed)
    (hd : ¬ (u.state = .disarmed ∧ u.sequence = true)) : u.following = u := by
  refine if_neg fun h => ?_
  simp only [Bool.and_eq_true, Bool.or_eq_true, beq_iff_eq] at h
  exact h.2.elim ha fun hs => hd ⟨hs, h.1⟩

@[simp] theorem WatchUnit.following_source (u : WatchUnit) : u.following.source = u.source := by
  unfold WatchUnit.following
  split <;> rfl

@[simp] theorem WatchUnit.following_pulse (u : WatchUnit) : u.following.pulse = u.pulse := by
  unfold WatchUnit.following
  split <;> rfl

/-! A firing, step by step (R141): the entry, the notice, the pulse, the freeze, and the units. -/

/-- R141: the history entry of a firing. -/
def State.fireEvent (s : State) (second : Bool) (v : EvalValue) : HistEvent :=
  .watch second (s.unit second).state (if (s.unit second).actions.rearm then .armed else .fired) v

/-- R142: the notice of a firing. -/
def State.fireNotice (s : State) (second : Bool) (v : EvalValue) : NoticeContent :=
  .watch second (s.unit second).source v (s.unit second).actions
    (if (s.unit second).actions.rearm then .armed else .fired) (s.armsSecond second)

/-- R142: a firing up to its notice. -/
def State.fireTold (s : State) (second : Bool) (v : EvalValue) : State :=
  if (s.unit second).actions.notify then (s.record (s.fireEvent second v)).post (s.fireNotice second v)
  else s.record (s.fireEvent second v)

/-- R143: a firing up to its pulse. -/
def State.firePulled (s : State) (second : Bool) (v : EvalValue) : State :=
  if (s.unit second).actions.pullShed then (s.fireTold second v).pullShed second else s.fireTold second v

/-- R144: a firing up to its freeze. -/
def State.fireFrozen (s : State) (second : Bool) (v : EvalValue) : State :=
  if (s.unit second).actions.freeze then (s.firePulled second v).freeze else s.firePulled second v

/-- R140, R141: the units behind a firing. -/
def State.fireEnds (s u : State) (second : Bool) : State :=
  let w := u.unit second
  let moved := u.setUnit second
    { w with
      state := if (s.unit second).actions.rearm then .armed else .fired
      counter := if (s.unit second).actions.rearm then w.reload else w.counter }
  if second then moved else moved.armSecond

theorem State.fire_eq (s : State) (second : Bool) (v : EvalValue) :
    s.fire second v = s.fireEnds (s.fireFrozen second v) second := rfl

@[simp] theorem State.fireTold_frame (s : State) (second : Bool) (v : EvalValue) :
    KeptBase s (s.fireTold second v) ∧ (s.fireTold second v).now = s.now ∧ (s.fireTold second v).station = s.station
      ∧ (s.fireTold second v).link = s.link ∧ (s.fireTold second v).crank = s.crank
      ∧ (s.fireTold second v).w0 = s.w0 ∧ (s.fireTold second v).w1 = s.w1 := by
  unfold State.fireTold
  split <;> simp [KeptBase]

theorem State.firePulled_frame (s : State) (second : Bool) (v : EvalValue) :
    KeptBase s (s.firePulled second v) ∧ (s.firePulled second v).now = s.now := by
  unfold State.firePulled
  split <;> simp [KeptBase]

@[simp] theorem State.fireFrozen_parts (s : State) (second : Bool) (v : EvalValue) :
    (s.fireFrozen second v).link = (s.firePulled second v).link
      ∧ (s.fireFrozen second v).port = (s.firePulled second v).port
      ∧ (s.fireFrozen second v).w0 = (s.firePulled second v).w0
      ∧ (s.fireFrozen second v).w1 = (s.firePulled second v).w1
      ∧ (s.fireFrozen second v).history.entries = (s.firePulled second v).history.entries := by
  unfold State.fireFrozen
  split <;> simp [State.freeze]

@[simp] theorem State.fireEnds_parts (s u : State) (second : Bool) :
    (s.fireEnds u second).link = u.link ∧ (s.fireEnds u second).port = u.port
      ∧ (s.fireEnds u second).history = u.history := by
  simp only [State.fireEnds]
  split <;> simp

/-- R143: PULL_SHED writes the pulse of its own unit alone. -/
theorem State.firePulled_unit (s : State) (second b : Bool) (v : EvalValue) :
    (s.firePulled second v).unit b =
      if (s.unit second).actions.pullShed = true ∧ b = second then
        { s.unit second with pulse := some (s.now + 50) } else s.unit b := by
  have htold (b : Bool) : (s.fireTold second v).unit b = s.unit b := State.unit_congr (by simp) (by simp) b
  unfold State.firePulled
  cases hp : (s.unit second).actions.pullShed with
  | false => simp [htold]
  | true =>
    rw [if_pos rfl, State.pullShed_units]
    by_cases hb : b = second
    · subst hb
      simp [htold, Config.pulsePeriod]
    · obtain rfl : b = !second := by revert hb; cases b <;> cases second <;> decide
      rw [State.setUnit_other, htold]
      simp

theorem State.fireFrozen_unit (s : State) (second b : Bool) (v : EvalValue) :
    (s.fireFrozen second v).unit b = (s.firePulled second v).unit b :=
  State.unit_congr (by simp) (by simp) b

theorem State.armSecond_eq (s : State) : s.armSecond = s.setW1 s.w1.following := by
  unfold State.armSecond WatchUnit.following
  split <;> rfl

/-- R141: the unit that fires. -/
theorem State.fire_unit (s : State) (second : Bool) (v : EvalValue) :
    (s.fire second v).unit second = (s.unit second).firing s.now := by
  have hunit : (s.fireFrozen second v).unit second = if (s.unit second).actions.pullShed = true then
      { s.unit second with pulse := some (s.now + 50) } else s.unit second := by
    rw [State.fireFrozen_unit, State.firePulled_unit]
    simp
  have harm (u : State) : u.armSecond.unit false = u.unit false := by simp [State.unit]
  have hends (u : State) : (s.fireEnds u second).unit second =
      { u.unit second with
        state := if (s.unit second).actions.rearm then .armed else .fired
        counter := if (s.unit second).actions.rearm then (u.unit second).reload else (u.unit second).counter } := by
    simp only [State.fireEnds]
    cases second
    · exact (harm _).trans (State.setUnit_unit _ _ _)
    · exact State.setUnit_unit _ _ _
  rw [State.fire_eq, hends, hunit, WatchUnit.firing]
  split <;> simp_all

/-- R140: the other unit at a firing: W1 follows W0. -/
theorem State.fire_other (s : State) (second : Bool) (v : EvalValue) :
    (s.fire second v).unit (!second) = if second then s.unit false else s.w1.following := by
  have hunit : (s.fireFrozen second v).unit (!second) = s.unit (!second) := by
    rw [State.fireFrozen_unit, State.firePulled_unit]
    cases second <;> simp
  rw [State.fire_eq]
  cases second with
  | true => exact hunit
  | false =>
    have hw1 : (s.fireFrozen false v).w1 = s.w1 := hunit
    show ((s.fireFrozen false v).setUnit false _).armSecond.w1 = _
    rw [State.armSecond_eq]
    exact congrArg WatchUnit.following hw1

end Sys2Proof.Machine
end

section
/-! What the watch units do to the rest of the station (R141 to R144): they append notices, history entries and SHED_REQUESTs
of cause WATCH, and may freeze the history. -/

namespace Sys2Proof.Machine

/-- An entry of this event stands in the history, with at most n behind it. -/
def History.Holds (n : Nat) (h : History) (event : HistEvent) : Prop :=
  ∃ front e back, h.entries = front ++ e :: back ∧ back.length ≤ n ∧ e.event = event

/-- From g to h at most n entries have joined the history. -/
def History.Grows (n : Nat) (g h : History) : Prop := ∃ l, l.length ≤ n ∧ h.entries = g.entries ++ l

theorem History.Grows.refl (h : History) : h.Grows 0 h := ⟨[], Nat.le_refl 0, (List.append_nil _).symm⟩

theorem History.Grows.of_entries {n : Nat} {g h : History} (he : h.entries = g.entries) : g.Grows n h :=
  ⟨[], Nat.zero_le n, by rw [he, List.append_nil]⟩

theorem History.Grows.trans {m n : Nat} {a b c : History} (h : a.Grows m b) (k : b.Grows n c) : a.Grows (m + n) c := by
  obtain ⟨l, hl, hb⟩ := h
  obtain ⟨l', hl', hc⟩ := k
  refine ⟨l ++ l', ?_, by rw [hc, hb, List.append_assoc]⟩
  rw [List.length_append]
  omega

theorem History.Grows.mono {m n : Nat} {a b : History} (h : a.Grows m b) (hmn : m ≤ n) : a.Grows n b :=
  h.imp fun _ hl => ⟨hl.1.trans hmn, hl.2⟩

theorem History.Writes.grows {n : Nat} {a b : History} (h : a.Writes n b) : a.Grows n b := by
  cases hf : a.frozen with
  | true => exact .of_entries (h.still hf)
  | false => exact h.entries hf

theorem History.Holds.grows {m n : Nat} {g h : History} {event : HistEvent} (k : g.Holds m event) (hg : g.Grows n h) :
    h.Holds (m + n) event := by
  obtain ⟨front, e, back, hentries, hback, hevent⟩ := k
  obtain ⟨l, hl, hh⟩ := hg
  refine ⟨front, e, back ++ l, by rw [hh, hentries]; simp, ?_, hevent⟩
  rw [List.length_append]
  omega

/-- R153: the newest 32 entries stay. -/
theorem History.Holds.trim {n : Nat} {h : History} {event : HistEvent} (k : h.Holds n event) (hn : n < 32) :
    ∃ e ∈ h.trim.entries, e.event = event := by
  obtain ⟨front, e, back, hentries, hback, hevent⟩ := k
  refine ⟨e, ?_, hevent⟩
  have hlen : h.entries.length - 32 ≤ front.length := by
    rw [hentries, List.length_append, List.length_cons]
    omega
  show e ∈ h.entries.drop (h.entries.length - 32)
  rw [hentries] at hlen ⊢
  rw [List.drop_append_of_le_length hlen]
  exact List.mem_append_right _ (List.mem_cons_self ..)

theorem State.record_writes (s : State) (e : HistEvent) : s.history.Writes 1 (s.record e).history :=
  History.write_writes _ _

theorem State.post_writes (s : State) (c : NoticeContent) : s.history.Writes 1 (s.post c).history := by
  unfold State.post
  split
  · exact (History.Writes.refl _).mono (Nat.zero_le 1)
  · exact History.write_writes _ _

theorem State.capture_writes (s : State) (kind : FaultKind) (u : Subject) (f : Option FrameKind) :
    s.history.Writes 2 (s.capture kind u f).history :=
  (History.write_writes s.history _).trans (State.post_writes (s.captureQuiet kind u f) _)

/-- From s to t the watch units have acted, writing at most n history entries. -/
structure WatchActs (n : Nat) (s t : State) : Prop where
  station : t.station = s.station
  lane : ∃ l, t.link = { s.link with urgent := s.link.urgent ++ l } ∧
    ∀ q ∈ l, q.isShedRequest (some 0) = true ∧ (s.mode = .member ∨ s.mode = .tainted)
  entries : s.history.Grows n t.history
  frozen : s.history.frozen = true → t.history.frozen = true
  notices : s.port.notices <+: t.port.notices

theorem WatchActs.of_lane {n : Nat} {s t : State} (hs : t.station = s.station) (hl : t.link = s.link)
    (he : s.history.Grows n t.history) (hf : s.history.frozen = true → t.history.frozen = true)
    (hn : s.port.notices <+: t.port.notices) : WatchActs n s t :=
  ⟨hs, ⟨[], by rw [hl, List.append_nil], nofun⟩, he, hf, hn⟩

/-- What moves none of what the units write. -/
theorem WatchActs.of_same {n : Nat} {s t : State} (hs : t.station = s.station) (hl : t.link = s.link)
    (hh : t.history = s.history) (hp : t.port = s.port) : WatchActs n s t :=
  .of_lane hs hl (.of_entries (by rw [hh])) (by rw [hh]; exact id) (by rw [hp])

theorem WatchActs.refl (s : State) : WatchActs 0 s s := .of_same rfl rfl rfl rfl

theorem WatchActs.trans {m n : Nat} {a b c : State} (h : WatchActs m a b) (k : WatchActs n b c) : WatchActs (m + n) a c := by
  obtain ⟨l, hb, hl⟩ := h.lane
  obtain ⟨l', hc, hl'⟩ := k.lane
  have hmode : b.mode = a.mode := by rw [State.mode, h.station, State.mode]
  refine ⟨k.station.trans h.station, ⟨l ++ l', by rw [hc, hb, List.append_assoc], fun q hq => ?_⟩,
    h.entries.trans k.entries, fun hf => k.frozen (h.frozen hf), h.notices.trans k.notices⟩
  rcases List.mem_append.mp hq with hq | hq
  · exact hl q hq
  · rw [← hmode]
    exact hl' q hq

theorem WatchActs.mono {m n : Nat} {s t : State} (h : WatchActs m s t) (hmn : m ≤ n) : WatchActs n s t :=
  { h with entries := h.entries.mono hmn }

theorem State.record_acts (s : State) (e : HistEvent) : WatchActs 1 s (s.record e) :=
  .of_lane (by simp) (by simp) (s.record_writes e).grows (by rw [(s.record_writes e).frozen]; exact id) (by simp)

theorem State.post_acts (s : State) (c : NoticeContent) : WatchActs 1 s (s.post c) :=
  .of_lane (by simp) (by simp) (s.post_writes c).grows (by rw [(s.post_writes c).frozen]; exact id) (s.post_tells c).prefix

/-- R63, R124: a fall writes its LINE entry. -/
theorem State.noteFall_acts (s : State) : WatchActs 1 s s.noteFall :=
  (s.record_acts (.line true false)).trans (.of_same (n := 0) (by simp [State.noteFall]) (by simp [State.noteFall])
    (by simp [State.noteFall]) (by simp [State.noteFall]))

theorem State.freeze_acts (s : State) : WatchActs 0 s s.freeze :=
  .of_lane (by simp) (by simp) (.of_entries rfl) (fun _ => rfl) (by simp)

theorem State.setUnit_acts (s : State) (second : Bool) (u : WatchUnit) : WatchActs 0 s (s.setUnit second u) :=
  .of_same (by simp) (by simp) (by simp) (by simp)

theorem State.autoUrgent_link (s : State) (b : Body) : (s.autoUrgent b).link =
    if s.urgentRoom then { s.link with urgent := s.link.urgent ++ [.fixed b] } else s.link := by
  unfold State.autoUrgent
  split <;> simp [State.pushUrgent]

/-- R143: the SHED_REQUEST of cause WATCH. -/
theorem State.autoUrgent_acts {s : State} (hm : s.mode = .member ∨ s.mode = .tainted) (sample : Byte) :
    WatchActs 2 s (s.autoUrgent (.shedRequest causeWatch sample)) := by
  unfold State.autoUrgent
  split
  · refine ⟨by simp, ⟨[_], rfl, fun q hq => ?_⟩, .of_entries (by simp), by simp, by simp⟩
    rw [List.mem_singleton.mp hq]
    exact ⟨rfl, hm⟩
  · have hw := s.capture_writes .outboundFull .none (some (Body.shedRequest causeWatch sample).kind)
    exact .of_lane (by simp) (by simp) hw.grows (by rw [hw.frozen]; exact id) (s.capture_tells rfl _ _).prefix

/-- R143: the pulse with the edge that it may make. -/
def State.pulsed (s : State) (second : Bool) : State :=
  let pulsed := s.setUnit second { s.unit second with pulse := some (s.now + Config.pulsePeriod) }
  if s.shedHigh then pulsed.noteFall else pulsed

theorem State.pulsed_acts (s : State) (second : Bool) : WatchActs 1 s (s.pulsed second) := by
  have hset := s.setUnit_acts second { s.unit second with pulse := some (s.now + Config.pulsePeriod) }
  simp only [State.pulsed]
  split
  · exact (hset.trans (State.noteFall_acts _)).mono (by omega)
  · exact hset.mono (by omega)

@[simp] theorem State.pulsed_frame (s : State) (second : Bool) :
    (s.pulsed second).link = s.link ∧ (s.pulsed second).station = s.station ∧ (s.pulsed second).pins = s.pins := by
  simp only [State.pulsed]
  split <;> simp

/-- R143: the SHED_REQUEST goes with the pulse of a MEMBER or TAINTED station, unless one stands in the lane. -/
theorem State.pullShed_eq (s : State) (second : Bool) : s.pullShed second =
    if (s.mode = .member ∨ s.mode = .tainted) ∧ s.inUrgent (Queued.isShedRequest (some 0)) = false then
      (s.pulsed second).autoUrgent (.shedRequest causeWatch s.pins.vsense)
    else s.pulsed second := by
  have hlane : (s.pulsed second).inUrgent (Queued.isShedRequest (some causeWatch)) =
      s.inUrgent (Queued.isShedRequest (some 0)) := by
    rw [State.inUrgent, (s.pulsed_frame second).1, State.inUrgent]
    rfl
  have hpull : s.pullShed second = if (s.mode == .member || s.mode == .tainted) &&
      !(s.pulsed second).inUrgent (Queued.isShedRequest (some causeWatch)) then
        (s.pulsed second).autoUrgent (.shedRequest causeWatch s.pins.vsense) else s.pulsed second := rfl
  rw [hpull, hlane]
  simp

theorem State.pullShed_acts (s : State) (second : Bool) : WatchActs 3 s (s.pullShed second) := by
  have hpulsed := s.pulsed_acts second
  rw [State.pullShed_eq]
  split
  · rename_i h
    refine hpulsed.trans (State.autoUrgent_acts ?_ _)
    rw [State.mode, (s.pulsed_frame second).2.1]
    exact h.1
  · exact hpulsed.mono (by omega)

/-- R143: what PULL_SHED does to the lanes. -/
theorem State.pullShed_link (s : State) (second : Bool) : (s.pullShed second).link =
    if ((s.mode = .member ∨ s.mode = .tainted) ∧ s.inUrgent (Queued.isShedRequest (some 0)) = false) ∧
        s.urgentRoom = true then
      { s.link with urgent := s.link.urgent ++ [.fixed (.shedRequest 0 s.pins.vsense)] }
    else s.link := by
  have hlink := (s.pulsed_frame second).1
  have hroom : (s.pulsed second).urgentRoom = s.urgentRoom := by rw [State.urgentRoom, hlink, State.urgentRoom]
  rw [State.pullShed_eq]
  split
  · rename_i h
    have hboth (p : Prop) : (((s.mode = .member ∨ s.mode = .tainted) ∧
        s.inUrgent (Queued.isShedRequest (some 0)) = false) ∧ p) = p := propext ⟨And.right, fun hp => ⟨h, hp⟩⟩
    simp only [State.autoUrgent_link, hroom, hlink, hboth]
    rfl
  · rename_i h
    rw [if_neg (fun hboth => h hboth.1)]
    exact hlink

/-! A firing. -/

theorem State.fireTold_acts (s : State) (second : Bool) (v : EvalValue) : WatchActs 2 s (s.fireTold second v) := by
  unfold State.fireTold
  split
  · exact (s.record_acts _).trans (State.post_acts _ _)
  · exact (s.record_acts _).mono (by omega)

/-- R143, R144: a firing behind its entry and its notice. -/
theorem State.fire_acts_told (s : State) (second : Bool) (v : EvalValue) :
    WatchActs 3 (s.fireTold second v) (s.fire second v) := by
  have hpulled : WatchActs 3 (s.fireTold second v) (s.firePulled second v) := by
    unfold State.firePulled
    split
    · exact State.pullShed_acts _ _
    · exact (WatchActs.refl _).mono (by omega)
  have hfrozen : WatchActs 0 (s.firePulled second v) (s.fireFrozen second v) := by
    unfold State.fireFrozen
    split
    · exact State.freeze_acts _
    · exact .refl _
  have hends (u : State) : WatchActs 0 u (s.fireEnds u second) := by
    obtain ⟨hlink, hport, hhistory⟩ := s.fireEnds_parts u second
    refine .of_same ?_ hlink hhistory hport
    simp only [State.fireEnds]
    split <;> simp
  rw [State.fire_eq]
  exact (hpulled.trans hfrozen).trans (hends _)

theorem State.fire_acts (s : State) (second : Bool) (v : EvalValue) : WatchActs 5 s (s.fire second v) :=
  (s.fireTold_acts second v).trans (s.fire_acts_told second v)

/-- R141: the entry of a firing, with at most four behind it. -/
theorem State.fire_holds {s : State} (hf : s.history.frozen = false) (second : Bool) (v : EvalValue) :
    (s.fire second v).history.Holds 4 (s.fireEvent second v) := by
  have hrecord : (s.record (s.fireEvent second v)).history.Holds 0 (s.fireEvent second v) :=
    ⟨s.history.entries, _, [], History.write_entries hf _, Nat.le_refl 0, rfl⟩
  have htold : (s.fireTold second v).history.Holds 1 (s.fireEvent second v) := by
    unfold State.fireTold
    split
    · exact hrecord.grows (State.post_writes _ _).grows
    · exact hrecord.grows (.of_entries (n := 1) rfl)
  exact htold.grows (s.fire_acts_told second v).entries

/-- R142: the notice of a firing comes first. -/
theorem State.fire_posts {s : State} {second : Bool} (hn : (s.unit second).actions.notify = true) (v : EvalValue) :
    PostsFirst s (s.fire second v) s.epoch (s.fireNotice second v) := by
  intro hroom
  have htold : (s.fireTold second v).port.notices =
      s.port.notices ++ [{ stamp := s.stamp, epoch := s.epoch, content := s.fireNotice second v }] := by
    rw [State.fireTold, if_pos hn, State.post_notices (by simpa using hroom)]
    simp [State.stamp, State.epoch]
  rw [← htold]
  exact (s.fire_acts_told second v).notices

theorem State.fire_link (s : State) (second : Bool) (v : EvalValue) : (s.fire second v).link =
    if (s.unit second).actions.pullShed = true then ((s.fireTold second v).pullShed second).link else s.link := by
  have hfrozen := (s.fireFrozen_parts second v).1
  rw [State.fire_eq, (s.fireEnds_parts _ second).1, hfrozen, State.firePulled]
  split <;> simp

/-- R143: the lanes behind a firing that pulls SHED#. -/
theorem State.fire_link_pulled {s : State} {second : Bool} (hp : (s.unit second).actions.pullShed = true) (v : EvalValue) :
    (s.fire second v).link =
      if ((s.mode = .member ∨ s.mode = .tainted) ∧ s.inUrgent (Queued.isShedRequest (some 0)) = false) ∧
          s.urgentRoom = true then
        { s.link with urgent := s.link.urgent ++ [.fixed (.shedRequest 0 s.pins.vsense)] }
      else s.link := by
  rw [State.fire_link, if_pos hp, State.pullShed_link]
  simp [State.mode, State.inUrgent, State.urgentRoom]

/-- R144: a firing freezes the history. -/
theorem State.fire_freezes {s : State} {second : Bool} (hf : (s.unit second).actions.freeze = true) (v : EvalValue) :
    (s.fire second v).history.frozen = true := by
  rw [State.fire_eq, (s.fireEnds_parts _ second).2.2, State.fireFrozen, if_pos hf]
  rfl

/-! What an event that fires a unit leaves (R141 to R144). -/

/-- What a firing from s has left in t, with at most n history entries behind its own. -/
structure FiredAt (n : Nat) (s t : State) (second : Bool) (v : EvalValue) : Prop where
  entry : s.history.frozen = false → t.history.Holds n (s.fireEvent second v)
  notify : (s.unit second).actions.notify = true → t.port.notices.length < 16 →
    { stamp := s.stamp, epoch := s.epoch, content := s.fireNotice second v } ∈ t.port.notices
  pulse : (s.unit second).actions.pullShed = true → (t.unit second).pulse = some (s.now + 50)
  request : (s.unit second).actions.pullShed = true → s.mode = .member ∨ s.mode = .tainted →
    t.link.urgent.length < 3 → t.inUrgent (Queued.isShedRequest (some 0)) = true
  freeze : (s.unit second).actions.freeze = true → t.history.frozen = true

theorem State.fire_firedAt (s : State) (second : Bool) (v : EvalValue) : FiredAt 4 s (s.fire second v) second v := by
  refine ⟨fun hf => State.fire_holds hf second v, fun hn hroom => ?_, fun hp => ?_, fun hp hm hroom => ?_,
    fun hf => State.fire_freezes hf v⟩
  · have hbefore := (s.fire_acts second v).notices.length_le
    exact (State.fire_posts hn v (by omega)).subset (List.mem_append_right _ (List.mem_singleton_self _))
  · rw [State.fire_unit, WatchUnit.firing, hp]
    rfl
  · rw [State.inUrgent]
    have hlink := State.fire_link_pulled hp v
    cases hq : s.inUrgent (Queued.isShedRequest (some 0)) with
    | true =>
      rw [hlink, if_neg (by rw [hq]; simp)]
      exact hq
    | false =>
      have hfree : s.urgentRoom = true := by
        by_contra hfull
        rw [hlink, if_neg (fun h => hfull h.2)] at hroom
        exact hfull ((State.urgentRoom_iff s).mpr hroom)
      rw [hlink, if_pos ⟨⟨hm, hq⟩, hfree⟩]
      simp [Queued.isShedRequest]

theorem FiredAt.mono {m n : Nat} {s t : State} {second : Bool} {v : EvalValue} (h : FiredAt m s t second v)
    (hmn : m ≤ n) : FiredAt n s t second v :=
  { h with entry := fun hf => (h.entry hf).imp fun _ hfront => hfront.imp fun _ he => he.imp fun _ hb =>
      ⟨hb.1, hb.2.1.trans hmn, hb.2.2⟩ }

/-- What a unit of the same event does behind a firing leaves it standing. -/
theorem FiredAt.acts {m n : Nat} {s t u : State} {second : Bool} {v : EvalValue} (h : FiredAt m s t second v)
    (k : WatchActs n t u) (hp : (u.unit second).pulse = (t.unit second).pulse) : FiredAt (m + n) s u second v := by
  obtain ⟨l, hlink, -⟩ := k.lane
  have hurgent : u.link.urgent = t.link.urgent ++ l := by rw [hlink]
  refine ⟨fun hf => (h.entry hf).grows k.entries, fun hn hroom => ?_, fun hs => hp.trans (h.pulse hs),
    fun hs hm hroom => ?_, fun hf => k.frozen (h.freeze hf)⟩
  · exact k.notices.subset (h.notify hn (k.notices.length_le.trans_lt hroom))
  · have hin := h.request hs hm (by rw [hurgent, List.length_append] at hroom; omega)
    rw [State.inUrgent] at hin ⊢
    rw [hurgent, List.any_append, hin, Bool.true_or]

end Sys2Proof.Machine
end

section
/-! One event's evaluations (R137 to R140): what a unit that is offered its value makes of it, and what an edge of the
same event adds. -/

namespace Sys2Proof.Machine

/-! The evaluation of one unit (R139). -/

section
variable {s : State} {second : Bool} {v : EvalValue}

theorem State.evaluate_none (s : State) (second : Bool) : s.evaluate second none = (s, false) := by
  simp only [State.evaluate]
  split <;> simp_all

theorem State.evaluate_missed (ha : (s.unit second).state = .armed) (hm : (s.unit second).matchesValue v = false) :
    s.evaluate second (some v) = (s.setUnit second (s.unit second).missed, false) := by
  simp only [State.evaluate, ha, hm, WatchUnit.missed]
  by_cases h : (s.unit second).source = .supply ∨ (s.unit second).source = .headroom <;> simp [h]

theorem State.evaluate_counted (ha : (s.unit second).state = .armed) (hm : (s.unit second).matchesValue v = true)
    (hc : (s.unit second).counter ≠ 0) : s.evaluate second (some v) =
      (s.setUnit second { s.unit second with counter := (s.unit second).counter - 1 }, false) := by
  simp only [State.evaluate, ha, hm, if_true, if_neg hc]

theorem State.evaluate_fires (ha : (s.unit second).state = .armed) (hm : (s.unit second).matchesValue v = true)
    (hc : (s.unit second).counter = 0) : s.evaluate second (some v) = (s.fire second v, true) := by
  simp [State.evaluate, ha, hm, hc]

/-- R139: what an evaluation can do to the station. -/
theorem State.evaluate_cases (s : State) (second : Bool) (o : Option EvalValue) :
    (s.evaluate second o = (s, false)) ∨
    (∃ w : WatchUnit, w.source = (s.unit second).source ∧
      s.evaluate second o = (s.setUnit second w, false)) ∨
    (∃ v, s.evaluate second o = (s.fire second v, true)) := by
  simp only [State.evaluate]
  split
  · split
    · split
      · exact .inr (.inr ⟨_, rfl⟩)
      · refine .inr (.inl ⟨_, ?_, rfl⟩)
        rfl
    · split
      · refine .inr (.inl ⟨_, ?_, rfl⟩)
        rfl
      · exact .inl rfl
  · exact .inl rfl

theorem State.evaluate_acts (s : State) (second : Bool) (o : Option EvalValue) :
    WatchActs 5 s (s.evaluate second o).1 := by
  rcases s.evaluate_cases second o with h | ⟨w, -, h⟩ | ⟨v, h⟩ <;> rw [h]
  · exact (WatchActs.refl s).mono (by omega)
  · exact (s.setUnit_acts second w).mono (by omega)
  · exact s.fire_acts second v

theorem State.fire_source (s : State) (second b : Bool) (v : EvalValue) :
    ((s.fire second v).unit b).source = (s.unit b).source := by
  by_cases hb : b = second
  · subst hb
    rw [State.fire_unit]
    rfl
  · obtain rfl := Bool.eq_not.mpr hb
    rw [State.fire_other]
    cases second <;> simp [State.unit]

/-- No evaluation moves a unit's source. -/
theorem State.evaluate_source (s : State) (second b : Bool) (o : Option EvalValue) :
    ((s.evaluate second o).1.unit b).source = (s.unit b).source := by
  rcases s.evaluate_cases second o with h | ⟨w, hsource, h⟩ | ⟨v, h⟩ <;> rw [h]
  · by_cases hb : b = second
    · subst hb
      rw [State.setUnit_unit, hsource]
    · obtain rfl := Bool.eq_not.mpr hb
      rw [State.setUnit_other]
  · exact s.fire_source second b v

/-- An evaluation of W1 leaves W0. -/
theorem State.evaluate_first (s : State) (o : Option EvalValue) : (s.evaluate true o).1.unit false = s.unit false := by
  rcases s.evaluate_cases true o with h | ⟨w, -, h⟩ | ⟨v, h⟩ <;> rw [h]
  · exact s.setUnit_other true w
  · exact s.fire_other true v

end

/-! The evaluations of one event. -/

section
variable {m : State} {values : WatchSource → Option EvalValue}

theorem State.offer_idle {a0 a1 : Bool} (h0 : a0 = true → values m.w0.source = none)
    (h1 : a1 = true → values m.w1.source = none) : m.offer a0 a1 values = m := by
  cases a0 <;> cases a1 <;> simp_all [State.offer, State.evaluate_none]

/-- A unit that is ARMED alone is offered its source's value. -/
theorem State.offer_alone (second : Bool) : m.offer (!second) second values =
    (m.evaluate second (values (m.unit second).source)).1 := by
  cases second <;> simp [State.offer, State.unit]

theorem State.offer_both : m.offer true true values =
    if (m.evaluate false (values m.w0.source)).2 = true ∧ m.w1.sequence = true ∧ m.w0.source = m.w1.source then
      (m.evaluate false (values m.w0.source)).1
    else ((m.evaluate false (values m.w0.source)).1.evaluate true (values m.w1.source)).1 := by
  have hoffer : m.offer true true values =
      if (!((m.evaluate false (values m.w0.source)).2 && m.w1.sequence && m.w0.source == m.w1.source)) = true then
        ((m.evaluate false (values m.w0.source)).1.evaluate true (values m.w1.source)).1
      else (m.evaluate false (values m.w0.source)).1 := rfl
  rw [hoffer, ← ite_not]
  refine if_congr ?_ rfl rfl
  rw [Bool.not_eq_true', Bool.eq_false_iff, ne_eq, not_not, Bool.and_eq_true, Bool.and_eq_true, beq_iff_eq, and_assoc]

/-- R137: W0's part of an event. -/
def State.offerFirst (m : State) (a0 : Bool) (values : WatchSource → Option EvalValue) : State :=
  if a0 then (m.evaluate false (values m.w0.source)).1 else m

theorem State.offer_cases (m : State) (a0 a1 : Bool) (values : WatchSource → Option EvalValue) :
    m.offer a0 a1 values = m.offerFirst a0 values ∨
      m.offer a0 a1 values = ((m.offerFirst a0 values).evaluate true (values m.w1.source)).1 := by
  have hoffer (x : State × Bool) (skip : Bool) (h : x.1 = m.offerFirst a0 values) :
      (if a1 && !skip then (x.1.evaluate true (values m.w1.source)).1 else x.1) = m.offerFirst a0 values ∨
        (if a1 && !skip then (x.1.evaluate true (values m.w1.source)).1 else x.1) =
          ((m.offerFirst a0 values).evaluate true (values m.w1.source)).1 := by
    rw [h]
    split
    · exact .inr rfl
    · exact .inl rfl
  refine hoffer (if a0 then m.evaluate false (values m.w0.source) else (m, false)) _ ?_
  cases a0 <;> rfl

theorem State.offer_source (m : State) (a0 a1 b : Bool) (values : WatchSource → Option EvalValue) :
    ((m.offer a0 a1 values).unit b).source = (m.unit b).source := by
  have hfirst : ((m.offerFirst a0 values).unit b).source = (m.unit b).source := by
    unfold State.offerFirst
    split
    · exact m.evaluate_source false b _
    · rfl
  rcases m.offer_cases a0 a1 values with h | h <;> rw [h]
  · exact hfirst
  · rw [State.evaluate_source, hfirst]

theorem State.offer_acts (m : State) (a0 a1 : Bool) (values : WatchSource → Option EvalValue) :
    WatchActs 10 m (m.offer a0 a1 values) := by
  have hfirst : WatchActs 5 m (m.offerFirst a0 values) := by
    unfold State.offerFirst
    split
    · exact m.evaluate_acts false _
    · exact (WatchActs.refl m).mono (by omega)
  rcases m.offer_cases a0 a1 values with h | h <;> rw [h]
  · exact hfirst.mono (by omega)
  · exact hfirst.trans (State.evaluate_acts _ true _)

theorem State.watchEvent_acts (m : State) (values : WatchSource → Option EvalValue) :
    WatchActs 20 m (m.watchEvent values) := by
  have hoffer (u : State) (a0 a1 : Bool) (values) : WatchActs 10 u (u.offer a0 a1 values) := u.offer_acts a0 a1 values
  simp only [State.watchEvent]
  split
  · split
    · exact (hoffer m _ _ _).trans (hoffer _ _ _ _)
    · exact (hoffer m _ _ _).mono (by omega)
  · exact (WatchActs.refl m).mono (by omega)

/-- R137: nothing is offered to an ARMED unit. -/
theorem State.watchEvent_idle (h : ∀ second, (m.unit second).state = .armed → values (m.unit second).source = none) :
    m.watchEvent values = m := by
  have hoffer : m.offer (m.w0.state == .armed) (m.w1.state == .armed) values = m :=
    State.offer_idle (fun h0 => h false (beq_iff_eq.mp h0)) (fun h1 => h true (beq_iff_eq.mp h1))
  simp only [State.watchEvent, hoffer]
  cases m.shedHigh <;> simp

/-- R137: an edge of this event, with no unit ARMED on LINE, adds nothing. -/
theorem State.watchEvent_offer (hl : m.mode.live = true)
    (hline : m.shedHigh = true → ∀ second, (m.unit second).state = .armed → (m.unit second).source ≠ .line) :
    m.watchEvent values = m.offer (m.w0.state == .armed) (m.w1.state == .armed) values := by
  have hnone {source : WatchSource} (h : source ≠ .line) : lineOffer source = none := by cases source <;> trivial
  have hsource (b : Bool) := m.offer_source (m.w0.state == .armed) (m.w1.state == .armed) b values
  rw [State.watchEvent, if_pos hl]
  dsimp only
  split
  · rename_i hedge
    have hhigh : m.shedHigh = true := by
      rw [Bool.and_eq_true] at hedge
      exact hedge.1
    refine State.offer_idle (fun h0 => ?_) (fun h1 => ?_)
    · exact hnone ((hsource false).trans_ne (hline hhigh false (beq_iff_eq.mp h0)))
    · exact hnone ((hsource true).trans_ne (hline hhigh true (beq_iff_eq.mp h1)))
  · rfl

theorem State.watchEvent_alone {second : Bool} (hl : m.mode.live = true) (ha : (m.unit second).state = .armed)
    (ho : (m.unit (!second)).state ≠ .armed) (hline : m.shedHigh = true → (m.unit second).source ≠ .line) :
    m.watchEvent values = (m.evaluate second (values (m.unit second).source)).1 := by
  rw [State.watchEvent_offer hl fun hh b hb => ?_, ← State.offer_alone]
  · have hother : ((m.unit (!second)).state == .armed) = false := by simpa using ho
    cases second
    · rw [show (m.w0.state == .armed) = true from beq_iff_eq.mpr ha, show (m.w1.state == .armed) = false from hother]
      rfl
    · rw [show (m.w1.state == .armed) = true from beq_iff_eq.mpr ha, show (m.w0.state == .armed) = false from hother]
      rfl
  · by_cases hsecond : b = second
    · exact hsecond ▸ hline hh
    · obtain rfl := Bool.eq_not.mpr hsecond
      exact absurd hb ho

end

/-! An event whose values match as stated. -/

/-- The event offers the sources in `offered` the value that `value` gives, which matches a unit as `hit` says; no line
that may fall within it is one of them. -/
structure Offers (m : State) (values : WatchSource → Option EvalValue) (offered : WatchSource → Prop)
    (hit : WatchUnit → Prop) (value : WatchUnit → EvalValue) : Prop where
  given : ∀ w : WatchUnit, offered w.source → values w.source = some (value w)
  withheld : ∀ source, ¬ offered source → values source = none
  hits : ∀ w : WatchUnit, offered w.source → (w.matchesValue (value w) = true ↔ hit w)
  line : m.shedHigh = true → ¬ offered .line

section
variable {m : State} {values : WatchSource → Option EvalValue} {offered : WatchSource → Prop} {hit : WatchUnit → Prop}
  {value : WatchUnit → EvalValue}

theorem WatchUnit.matchesValue_counter (u : WatchUnit) (n : Byte) (v : EvalValue) :
    ({ u with counter := n } : WatchUnit).matchesValue v = u.matchesValue v := by
  cases v <;> rfl

/-- R139, R141: what one evaluation makes of its unit. -/
theorem State.evaluate_counts {second : Bool} {v : EvalValue} {h : Prop} (ha : (m.unit second).state = .armed)
    (hm : (m.unit second).matchesValue v = true ↔ h) :
    Counts (m.unit second) ((m.evaluate second (some v)).1.unit second) h := by
  by_cases hh : h
  · by_cases hc : (m.unit second).counter = 0
    · rw [State.evaluate_fires ha (hm.mpr hh) hc, State.fire_unit]
      exact WatchUnit.firing_counts hc hh _
    · rw [State.evaluate_counted ha (hm.mpr hh) hc, State.setUnit_unit]
      exact WatchUnit.counted_counts hh hc
  · rw [State.evaluate_missed ha (by simpa using mt hm.mp hh), State.setUnit_unit]
    exact WatchUnit.missed_counts hh

/-- W0 fires and W1 is ARMED in SEQUENCE on the same source. -/
theorem Offers.skips (k : Offers m values offered hit value) (hl : m.mode.live = true) (h0 : m.w0.state = .armed)
    (h1 : m.w1.state = .armed) (hq : m.w1.sequence = true) (hsame : m.w1.source = m.w0.source)
    (ho : offered m.w0.source) (hh : hit m.w0) (hc : m.w0.counter = 0) :
    m.watchEvent values = m.fire false (value m.w0) := by
  have hfires : m.evaluate false (values m.w0.source) = (m.fire false (value m.w0), true) := by
    rw [k.given m.w0 ho]
    exact State.evaluate_fires h0 ((k.hits m.w0 ho).mpr hh) hc
  rw [State.watchEvent_offer hl fun hhigh b _ => ?_, h0, h1]
  · rw [beq_self_eq_true, State.offer_both, hfires, if_pos ⟨rfl, hq, hsame.symm⟩]
  · intro hline
    refine k.line hhigh ?_
    have : (m.unit b).source = m.w0.source := by cases b <;> simp [State.unit, hsame]
    rw [← hline, this]
    exact ho

/-- W0 fires and W1 is ARMED in SEQUENCE on another source that is offered too. -/
theorem Offers.follows (k : Offers m values offered hit value) (hl : m.mode.live = true) (h0 : m.w0.state = .armed)
    (h1 : m.w1.state = .armed) (hother : m.w1.source ≠ m.w0.source) (ho : offered m.w0.source)
    (ho1 : offered m.w1.source) (hh : hit m.w0) (hc : m.w0.counter = 0) :
    m.watchEvent values = ((m.fire false (value m.w0)).evaluate true (some (value m.w1))).1 := by
  have hfires : m.evaluate false (values m.w0.source) = (m.fire false (value m.w0), true) := by
    rw [k.given m.w0 ho]
    exact State.evaluate_fires h0 ((k.hits m.w0 ho).mpr hh) hc
  rw [State.watchEvent_offer hl fun hhigh b _ => ?_, h0, h1]
  · rw [beq_self_eq_true, State.offer_both, hfires, if_neg fun h => hother h.2.2.symm, k.given m.w1 ho1]
  · intro hline
    refine k.line hhigh ?_
    rw [← hline]
    cases b
    · exact ho
    · exact ho1

/-- R140: W1 behind a firing of W0 that no evaluation of its own follows. -/
theorem Reacts.of_following {s t : State} (h : t.w1 = s.w1.following) : Reacts s t :=
  ⟨fun hd hq => h.trans (WatchUnit.following_disarmed hq hd), fun ha hq _ => h.trans (WatchUnit.following_armed hq ha),
    fun ha hd => h.trans (WatchUnit.following_stays ha hd)⟩

/-- R137 to R140: the evaluations of the event at m take the units as stated from s to t, where s has the units of m and
t those the event leaves, and every firing of the event stands as stated in t. -/
theorem Offers.evaluates (k : Offers m values offered hit value) (hl : m.mode.live = true) {s t : State}
    (hs : ∀ b, s.unit b = m.unit b) (ht : ∀ b, t.unit b = (m.watchEvent values).unit b)
    (hfired : ∀ second v, (m.unit second).state = .armed → FiredAt 9 m (m.watchEvent values) second v →
      Fired s t second v) :
    Evaluates s t offered hit value := by
  have hs0 : s.w0 = m.w0 := hs false
  have hs1 : s.w1 = m.w1 := hs true
  have ht0 : t.w0 = (m.watchEvent values).w0 := ht false
  have ht1 : t.w1 = (m.watchEvent values).w1 := ht true
  have hfires (v : EvalValue) (hc : m.w0.counter = 0) : Counts m.w0 ((m.fire false v).unit false) True := by
    rw [m.fire_unit false v]
    exact WatchUnit.firing_counts hc trivial _
  refine ⟨fun second => ?_, ?_, ?_⟩
  · rw [hs, hs, ht]
    intro ha hother
    dsimp only
    refine ⟨fun ho => ?_, fun ho => ?_⟩
    · have hevent : m.watchEvent values = (m.evaluate second (some (value (m.unit second)))).1 := by
        rw [← k.given _ ho]
        exact State.watchEvent_alone hl ha hother fun hhigh hline => k.line hhigh (hline ▸ ho)
      refine ⟨hevent ▸ State.evaluate_counts ha (k.hits _ ho), fun hh hc => ?_⟩
      rw [State.evaluate_fires ha ((k.hits _ ho).mpr hh) hc] at hevent
      refine ⟨hfired _ _ ha (hevent ▸ (m.fire_firedAt second _).mono (by omega)), ?_⟩
      rintro rfl
      refine .of_following ?_
      rw [ht1, hs1, hevent]
      exact m.fire_other false _
    · rw [State.watchEvent_idle fun b hb => ?_]
      by_cases hsecond : b = second
      · exact hsecond ▸ k.withheld _ ho
      · obtain rfl := Bool.eq_not.mpr hsecond
        exact absurd hb hother
  · rw [hs0, hs1, ht0]
    intro h0 h1 hq hsame ho hh hc
    have hevent := k.skips hl h0 h1 hq hsame ho hh hc
    refine ⟨?_, hfired _ _ h0 (hevent ▸ (m.fire_firedAt false _).mono (by omega)), .of_following ?_⟩
    · rw [hevent]
      exact hfires _ hc
    · rw [ht1, hs1, hevent]
      exact m.fire_other false _
  · rw [hs0, hs1, ht0, ht1]
    intro h0 h1 hq hother ho ho1 hh hc
    have hevent := k.follows hl h0 h1 hother ho ho1 hh hc
    have hw1 : (m.fire false (value m.w0)).unit true = { m.w1 with counter := m.w1.reload } :=
      (m.fire_other false _).trans (WatchUnit.following_armed hq h1)
    refine ⟨?_, hfired _ _ h0 ?_, ?_⟩
    · rw [hevent]
      have hkept : ((m.fire false (value m.w0)).evaluate true (some (value m.w1))).1.w0 = (m.fire false (value m.w0)).w0 :=
        State.evaluate_first _ _
      exact hkept ▸ hfires _ hc
    · rw [hevent]
      exact (m.fire_firedAt false _).acts (State.evaluate_acts _ true _)
        (congrArg WatchUnit.pulse (State.evaluate_first _ _))
    · rw [hevent, ← hw1]
      refine State.evaluate_counts (by rw [hw1]; exact h1) ?_
      rw [hw1, WatchUnit.matchesValue_counter]
      exact k.hits m.w1 ho1

end

end Sys2Proof.Machine
end

section
/-! From the moment of the evaluations to the end of their event; the VSENSE samples, the falling edge of SHED# and the end
of a pulse (R137 to R144, R63). -/

namespace Sys2Proof.Machine

theorem foldl_capture_writes (l : List SlotNo) (s : State) :
    s.history.Writes (2 * l.length) (l.foldl (fun t i => t.capture .unclaimedDraw (.slot i) none) s).history := by
  induction l generalizing s with
  | nil => exact .refl _
  | cons i l ih =>
    refine ((s.capture_writes _ _ _).trans (ih _)).mono ?_
    rw [List.length_cons]
    omega

/-- R131: at the end of an event at most one capture for each slot. -/
theorem State.refreshSlots_writes (s : State) : s.history.Writes 8 s.refreshSlots.history := by
  have hlength : s.episodes.length ≤ 4 := List.length_filter_le _ allSlots
  have hcaptures := foldl_capture_writes s.episodes (s.setSlots (mapSlots s.refreshed s.slotUnit.slots))
  exact hcaptures.mono (by omega)

/-- R153: an entry with no more than 23 behind it outlasts the event. -/
theorem State.conclude_holds {s : State} {n : Nat} {event : HistEvent} (h : s.history.Holds n event) (hn : n < 24) :
    ∃ e ∈ s.conclude.history.entries, e.event = event :=
  (h.grows s.refreshSlots_writes.grows).trim (by omega)

theorem State.conclude_frozen (s : State) : s.conclude.history.frozen = s.history.frozen := s.refreshSlots_writes.frozen

/-- The time, the watch units and the freeze stay. -/
@[simp] abbrev SameWatch (s t : State) : Prop :=
  t.now = s.now ∧ t.w0 = s.w0 ∧ t.w1 = s.w1 ∧ t.history.frozen = s.history.frozen

theorem SameWatch.trans {a b c : State} (h : SameWatch a b) (k : SameWatch b c) : SameWatch a c := by
  obtain ⟨hn, h0, h1, hf⟩ := h
  obtain ⟨kn, k0, k1, kf⟩ := k
  exact ⟨kn.trans hn, k0.trans h0, k1.trans h1, kf.trans hf⟩

/-- An event that finds s comes to its evaluations at m, which is s in all that the units and their firings see. -/
structure Found (s m : State) : Prop where
  watch : SameWatch s m
  mode : m.mode = s.mode
  asked : m.inUrgent (Queued.isShedRequest (some 0)) = s.inUrgent (Queued.isShedRequest (some 0))

/-- An event whose evaluations leave w ends at t. -/
structure EndsFrom (w t : State) : Prop where
  units : ∀ b, t.unit b = w.unit b
  replica : t.replica = w.replica
  urgent : t.link.urgent = w.link.urgent
  notices : w.port.notices <+: t.port.notices
  history : ∃ y : State, w.history.Writes 1 y.history ∧ t.history = y.conclude.history

theorem EndsFrom.of_conclude (w : State) : EndsFrom w w.conclude :=
  ⟨State.unit_congr (by simp) (by simp), by simp, by simp, (State.conclude_tells w).prefix,
    w, (History.Writes.refl _).mono (Nat.zero_le 1), rfl⟩

/-- R143: in a state other than MEMBER and TAINTED the units queue nothing. -/
theorem WatchActs.unasked {n : Nat} {s t : State} (h : WatchActs n s t) (hm : s.mode ≠ .member) (ht : s.mode ≠ .tainted) :
    t.link.urgent = s.link.urgent := by
  obtain ⟨l, hlink, hl⟩ := h.lane
  have hnil : l = [] := List.eq_nil_iff_forall_not_mem.mpr fun q hq => (hl q hq).2.elim hm ht
  rw [hlink, hnil, List.append_nil]

/-- R141 to R144: a firing at the evaluations, told of the whole event. -/
theorem FiredAt.fired {s m w t : State} {n : Nat} {second : Bool} {v : EvalValue} (h : FiredAt n m w second v)
    (hs : Found s m) (he : EndsFrom w t) (hacts : WatchActs 20 m w) (hr : w.replica = m.replica) (hn : n ≤ 9)
    (ha : (m.unit second).state = .armed) : Fired s t second v := by
  obtain ⟨hnow, h0, h1, hfrozen⟩ := hs.watch
  obtain ⟨y, hwrites, hend⟩ := he.history
  have hunit : s.unit second = m.unit second := State.unit_congr h0.symm h1.symm second
  have hlane (p : Queued → Bool) : t.inUrgent p = w.inUrgent p := by rw [State.inUrgent, he.urgent, State.inUrgent]
  refine ⟨fun hf => ?_, fun hnotify hroom => ?_, fun hp => ?_, fun hp hmode hroom => ?_, fun hm ht => ?_, fun hf => ?_⟩
  · have hheld := State.conclude_holds ((h.entry (hfrozen.trans hf)).grows hwrites.grows) (by omega)
    rwa [← hend, State.fireEvent, ha, ← hunit] at hheld
  · rw [hunit] at hnotify
    have hmem := h.notify hnotify (he.notices.length_le.trans_lt hroom)
    refine ⟨_, he.notices.subset hmem, ?_, ?_, ?_⟩
    · rw [State.stamp, hnow, State.stamp]
    · rw [State.epoch, ← hr, ← he.replica, State.epoch]
    · rw [hunit, ← h1]
      rfl
  · rw [hunit] at hp
    have hpulse : (t.unit second).pulse = some (s.now + 50) := by rw [he.units, h.pulse hp, hnow]
    exact ⟨hpulse, State.shedHigh_of_pulse (by rw [hpulse]; rfl)⟩
  · rw [hunit] at hp
    rw [he.urgent] at hroom
    rw [hlane]
    exact h.request hp (hs.mode ▸ hmode) hroom
  · rw [hlane, ← hs.asked, State.inUrgent, hacts.unasked (hs.mode ▸ hm) (hs.mode ▸ ht), State.inUrgent]
  · rw [hunit] at hf
    rw [hend, State.conclude_frozen, hwrites.frozen]
    exact h.freeze hf

/-- R137 to R144: an event that offers as stated evaluates as stated. -/
theorem Found.evaluates {s m t : State} {values : WatchSource → Option EvalValue} {offered : WatchSource → Prop}
    {hit : WatchUnit → Prop} {value : WatchUnit → EvalValue} (hs : Found s m) (k : Offers m values offered hit value)
    (hl : s.mode.live = true) (he : EndsFrom (m.watchEvent values) t) : Evaluates s t offered hit value := by
  obtain ⟨-, h0, h1, -⟩ := hs.watch
  exact k.evaluates (hs.mode ▸ hl) (State.unit_congr h0.symm h1.symm) he.units fun _ _ ha h =>
    h.fired hs he (m.watchEvent_acts values) (by simp) (Nat.le_refl 9) ha

/-! The falling edge that another station makes (R63, R137). -/

/-- R137: a falling edge is offered to LINE alone. -/
theorem Offers.line_fall {m : State} (h : m.shedHigh = false) :
    Offers m lineOffer (fun source => source = .line) (fun _ => True) (fun _ => .line) where
  given w hw := by rw [hw]; rfl
  withheld source hs := by
    cases source with
    | line => exact absurd rfl hs
    | _ => rfl
  hits _ _ := ⟨fun _ => trivial, fun _ => rfl⟩
  line hh := absurd hh (by rw [h]; decide)

theorem lineFallEvaluates {s : State} (hh : s.shedHigh = true) (hm : s.mode.live = true) (hr : s.resetLow = false) :
    ∃ t, exec .shedFallingEdge s = .next t ∧
      Evaluates s t (fun source => source = .line) (fun _ => True) (fun _ => .line) := by
  have hlow : ((s.setPins { s.pins with peerShed := true }).noteFall).shedHigh = false := by simp [State.shedHigh]
  have hfrozen : (s.setPins { s.pins with peerShed := true }).noteFall.history.frozen = s.history.frozen :=
    (congrArg History.frozen (by simp [State.noteFall])).trans
      ((s.setPins { s.pins with peerShed := true }).record_writes (.line true false)).frozen
  refine ⟨_, rfl, ?_⟩
  rw [State.peerDrive_fall hh hr]
  exact Found.evaluates ⟨⟨by simp, by simp, by simp, hfrozen⟩, by simp [State.mode], by simp [State.inUrgent]⟩
    (.line_fall hlow) hm (.of_conclude _)

/-! VSENSE samples (R137). -/

/-- R137, log entry 3: the state a sample finds, with the sample taken. -/
def State.sampled (s : State) (v : Byte) : State :=
  (s.advanceTo s.pins.nextSample).setPins { s.pins with vsense := v, nextSample := s.pins.nextSample + 2 }

@[simp] theorem State.sampled_frame (s : State) (v : Byte) : (s.sampled v).station = s.station ∧
    (s.sampled v).replica = s.replica ∧ (s.sampled v).w0 = s.w0 ∧ (s.sampled v).w1 = s.w1 ∧
    (s.sampled v).crank = s.crank ∧ (s.sampled v).link = s.link := by
  simp [State.sampled]

@[simp] theorem State.sampled_mode (s : State) (v : Byte) : (s.sampled v).mode = s.mode := by
  rw [State.mode, (s.sampled_frame v).1, State.mode]

@[simp] theorem State.sampled_unit (s : State) (v : Byte) (b : Bool) : (s.sampled v).unit b = s.unit b :=
  State.unit_congr (by simp) (by simp) b

theorem State.exec_sample {s : State} (hr : s.resetLow = false) (v : Byte) :
    exec (.vsenseSample v) s = .next ((s.sampled v).watchEvent (supplyOffer v)).conclude := by
  have hat : s.sampleAt = some s.pins.nextSample := by simp [State.sampleAt, hr]
  have hsample : (s.advanceTo s.pins.nextSample).sample v = (s.sampled v).watchEvent (supplyOffer v) := by
    simp [State.sample, State.sampled, Config.samplePeriod]
  rw [← hsample, ← s.expire_some hat fun t => t.sample v]
  rfl

/-- The sample moves nothing that the slots follow. -/
theorem State.Settled.sampled {s : State} (hs : s.Settled) (v : Byte) : (s.sampled v).Settled :=
  (hs.advanceTo s.pins.nextSample).of_same ⟨rfl, rfl, rfl, rfl, rfl, rfl, rfl, by simp [State.sampled],
    by simp [State.sampled, State.shedHigh, State.ownDrive]⟩ rfl (hs.advanceTo _).2

/-- R137: a sample is offered to SUPPLY alone. -/
theorem Offers.supply (m : State) (v : Byte) : Offers m (supplyOffer v) (fun source => source = .supply)
    (fun w => w.relation.holds v.toNat w.compare = true) (fun _ => .sample v) where
  given w hw := by rw [hw]; rfl
  withheld source hs := by
    cases source with
    | supply => exact absurd rfl hs
    | _ => rfl
  hits _ _ := .rfl
  line _ := nofun

theorem sampleEvaluates {s : State} (hr : s.resetLow = false) (hm : s.mode.live = true) (v : Byte) :
    ∃ t, exec (.vsenseSample v) s = .next t ∧ Evaluates (s.sampled v) t (fun source => source = .supply)
      (fun w => w.relation.holds v.toNat w.compare = true) (fun _ => .sample v) :=
  ⟨_, State.exec_sample hr v, Found.evaluates ⟨⟨rfl, rfl, rfl, rfl⟩, rfl, rfl⟩ (.supply _ v) (by simpa using hm)
    (.of_conclude _)⟩

/-! Firings that end their event. -/

theorem State.noteFall_slot (s : State) (i : SlotNo) : ∃ b, s.noteFall.slot i = { s.slot i with latch := b } := by
  cases hm : s.mode.live with
  | false =>
    have hlatches : (s.record (.line true false)).latchSlots = s.record (.line true false) := by
      rw [State.latchSlots, if_neg]
      exact ne_true_of_eq_false hm
    exact ⟨(s.slot i).latch, by rw [State.noteFall, hlatches]; rfl⟩
  | true =>
    rw [State.noteFall, State.latchSlots_slot (s := s.record _) hm]
    split
    · exact ⟨true, rfl⟩
    · exact ⟨(s.slot i).latch, rfl⟩

theorem State.pulsed_slot (s : State) (second : Bool) (i : SlotNo) :
    ∃ b, (s.pulsed second).slot i = { s.slot i with latch := b } := by
  have hset (u : WatchUnit) : (s.setUnit second u).slot i = s.slot i := State.slot_of_slotUnit (by simp) i
  simp only [State.pulsed]
  split
  · rw [← hset]
    exact State.noteFall_slot _ i
  · exact ⟨(s.slot i).latch, hset _⟩

/-- R124, R143: a firing moves no more of a slot than its latch. -/
theorem State.fire_slot (s : State) (second : Bool) (v : EvalValue) (i : SlotNo) :
    ∃ b, (s.fire second v).slot i = { s.slot i with latch := b } := by
  have htold : (s.fireTold second v).slot i = s.slot i := by
    unfold State.fireTold
    split <;> exact State.slot_of_slotUnit (by simp) i
  have hpull (u : State) : (u.pullShed second).slot i = (u.pulsed second).slot i := by
    rw [State.pullShed_eq]
    split
    · exact State.slot_of_slotUnit (by simp) i
    · rfl
  have hends (u : State) : (s.fireEnds u second).slot i = u.slot i := by
    simp only [State.fireEnds]
    split <;> exact State.slot_of_slotUnit (by simp) i
  have hfrozen : (s.fireFrozen second v).slot i = (s.firePulled second v).slot i := by
    unfold State.fireFrozen
    split <;> rfl
  rw [State.fire_eq, hends, hfrozen, State.firePulled]
  split
  · rw [hpull, ← htold]
    exact State.pulsed_slot _ second i
  · exact ⟨(s.slot i).latch, htold⟩

/-- R131: a firing in a settled state begins no episode. -/
theorem State.Settled.fire_quiet {s : State} (hs : s.Settled) (second : Bool) (v : EvalValue) :
    (s.fire second v).episodes = [] := by
  refine hs.no_episodes (by simp [State.mode]) (by simp) (by simp) (fun i => ?_) fun i => ?_ <;>
    obtain ⟨b, hb⟩ := s.fire_slot second v i <;> rw [hb]

/-- R141 to R144: a firing in a settled state that ends its event. -/
theorem State.Settled.fires {s : State} (hs : s.Settled) {second : Bool} (ha : (s.unit second).state = .armed)
    (v : EvalValue) : Fires s (s.fire second v).conclude second v := by
  have hport := (State.conclude_quiet (hs.fire_quiet second v)).1
  have hlink : (s.fire second v).conclude.link = (s.fire second v).link := by simp
  have hunit : (s.fire second v).conclude.unit second = (s.unit second).firing s.now :=
    (State.unit_congr (by simp) (by simp) second).trans (s.fire_unit second v)
  refine ⟨fun hf => ?_, fun hn => ?_, fun hp => ?_, fun hp hroom => ?_, fun hp => ?_, fun hf => ?_⟩
  · have := State.conclude_holds (State.fire_holds hf second v) (by omega)
    rwa [State.fireEvent, ha] at this
  · intro hroom
    rw [hport]
    exact State.fire_posts hn v hroom
  · have hpulse : ((s.fire second v).conclude.unit second).pulse = some (s.now + 50) := by
      rw [hunit, WatchUnit.firing, hp]
      rfl
    exact ⟨hpulse, State.shedHigh_of_pulse (by rw [hpulse]; rfl)⟩
  · rw [hlink, State.fire_link_pulled hp]
    have hfree : s.urgentRoom = true := s.urgentRoom_iff.mpr hroom
    simp only [hfree, and_true]
    split <;> rfl
  · rw [hlink, State.fire_link, if_neg (by rw [hp]; decide)]
  · rw [State.conclude_frozen]
    exact State.fire_freezes hf v

/-- R139 to R144: what a sample makes of a unit that is ARMED alone, on SUPPLY. -/
theorem sampleCounts {s : State} {v : Byte} (hs : s.Settled) (hr : s.resetLow = false) {second : Bool}
    (hm : s.mode.live = true) (ha : (s.unit second).state = .armed) (hsource : (s.unit second).source = .supply)
    (hother : (s.unit (!second)).state ≠ .armed) :
    let w := s.unit second
    let u := s.sampled v
    let hit := w.relation.holds v.toNat w.compare = true
    (¬ hit → exec (.vsenseSample v) s = .next (u.setUnit second { w with counter := w.reload })) ∧
    (hit → w.counter ≠ 0 → exec (.vsenseSample v) s = .next (u.setUnit second { w with counter := w.counter - 1 })) ∧
    (hit → w.counter = 0 →
      ∃ t, exec (.vsenseSample v) s = .next t ∧ t.pins = u.pins ∧ t.replica = s.replica ∧
        Counts w (t.unit second) True ∧ Fires u t second (.sample v) ∧
        t.unit (!second) = (if second = false ∧ s.w1.sequence = true ∧ s.w1.state = .disarmed then
          { s.w1 with state := .armed, counter := s.w1.reload } else s.unit (!second))) := by
  have hu := hs.sampled v
  have hunit := s.sampled_unit v second
  have ha' : ((s.sampled v).unit second).state = .armed := by rwa [hunit]
  have hevent : (s.sampled v).watchEvent (supplyOffer v) = ((s.sampled v).evaluate second (some (.sample v))).1 := by
    rw [State.watchEvent_alone (by simpa using hm) ha' (by simpa using hother) (fun _ => by simp [hsource]), hunit,
      hsource]
    rfl
  have hset (n : Byte) : ((s.sampled v).setUnit second { s.unit second with counter := n }).conclude =
      (s.sampled v).setUnit second { s.unit second with counter := n } :=
    (hu.setUnit second (by rw [hunit])).conclude
  have hmatches : ((s.sampled v).unit second).matchesValue (.sample v) =
      (s.unit second).relation.holds v.toNat (s.unit second).compare := by rw [hunit]; rfl
  dsimp only
  rw [State.exec_sample hr, hevent]
  refine ⟨fun hh => ?_, fun hh hc => ?_, fun hh hc => ?_⟩
  · rw [State.evaluate_missed ha' (by simpa [← hmatches] using hh), hunit, WatchUnit.missed, if_pos (.inl hsource), hset]
  · rw [State.evaluate_counted ha' (hmatches.trans hh) (by rwa [hunit]), hunit, hset]
  · rw [State.evaluate_fires ha' (hmatches.trans hh) (by rwa [hunit])]
    have hkept (b : Bool) : ((s.sampled v).fire second (.sample v)).conclude.unit b =
        ((s.sampled v).fire second (.sample v)).unit b := State.unit_congr (by simp) (by simp) b
    refine ⟨_, rfl, by simp, by simp, ?_, hu.fires ha' _, ?_⟩
    · rw [hkept, State.fire_unit, hunit]
      exact WatchUnit.firing_counts hc trivial _
    · rw [hkept, State.fire_other]
      cases second with
      | true => simp [State.unit]
      | false =>
        rw [(s.sampled_frame v).2.2.2.1, if_neg (by decide)]
        by_cases hd : s.w1.state = .disarmed ∧ s.w1.sequence = true
        · rw [if_pos ⟨rfl, hd.2, hd.1⟩, WatchUnit.following_disarmed hd.2 hd.1]
        · rw [if_neg fun h => hd ⟨h.2.2, h.2.1⟩]
          exact WatchUnit.following_stays hother hd

/-- R137: a sample with no unit ARMED on SUPPLY. -/
theorem sampleIdle {s : State} {v : Byte} (hs : s.Settled) (hr : s.resetLow = false)
    (h0 : s.w0.state = .armed → s.w0.source ≠ .supply) (h1 : s.w1.state = .armed → s.w1.source ≠ .supply) :
    exec (.vsenseSample v) s = .next (s.sampled v) := by
  rw [State.exec_sample hr, State.watchEvent_idle fun second ha => ?_, (hs.sampled v).conclude]
  rw [State.sampled_unit] at ha ⊢
  refine (Offers.supply s v).withheld _ ?_
  cases second
  · exact h0 ha
  · exact h1 ha

/-- R140: W0 fires on SUPPLY and reloads a W1 in SEQUENCE there. -/
theorem sampleReloads {s : State} {v : Byte} (hr : s.resetLow = false) (hm : s.mode.live = true)
    (h0 : s.w0.state = .armed) (hsource : s.w0.source = .supply) (hc : s.w0.counter = 0)
    (hh : s.w0.relation.holds v.toNat s.w0.compare = true) (h1 : s.w1.state = .armed) (hq : s.w1.sequence = true)
    (hsource1 : s.w1.source = .supply) :
    ∃ t, exec (.vsenseSample v) s = .next t ∧ Counts s.w0 t.w0 True ∧ t.w1 = { s.w1 with counter := s.w1.reload } := by
  obtain ⟨t, ht, -, hboth, -⟩ := sampleEvaluates hr hm v
  simp only [State.sampled_frame] at hboth
  obtain ⟨hcounts, -, hreacts⟩ := hboth h0 h1 hq (hsource1.trans hsource.symm) hsource hh hc
  exact ⟨t, ht, hcounts, (hreacts.reloads (by simpa using h1) (by simpa using hq) (by simp [hsource, hsource1])).trans
    (by simp)⟩

/-! The end of a pulse (R143, R63). -/

/-- R143: the state at the end of a pulse, up to the edge. -/
def State.unpulsed (s : State) (second : Bool) (d : Nat) : State :=
  (s.advanceTo d).setUnit second { s.unit second with pulse := none }

@[simp] theorem State.unpulsed_frame (s : State) (second : Bool) (d : Nat) :
    (s.unpulsed second d).station = s.station ∧ (s.unpulsed second d).config = s.config ∧
      (s.unpulsed second d).pins = s.pins ∧ (s.unpulsed second d).crank = s.crank ∧
      (s.unpulsed second d).slotUnit = (s.advanceTo d).slotUnit := by
  simp [State.unpulsed]

/-- R63: the line behind the end of a pulse. -/
theorem State.unpulsed_line (s : State) (second : Bool) (d : Nat) : (s.unpulsed second d).shedHigh = true ↔
    s.crank.hold = false ∧ (s.unit (!second)).pulse = none ∧ s.pins.peerShed = false := by
  rw [State.shedHigh_iff]
  cases second <;> simp [State.unpulsed, State.setUnit, State.unit]

/-- R143, R63: the end of a pulse can only let the line rise. -/
theorem State.exec_pulseExpiry {s : State} {second : Bool} {d : Nat} (h : (s.unit second).pulse = some d) :
    ∃ history, exec (.watchPulseExpiry second) s = .next ((s.unpulsed second d).setHistory history).conclude := by
  have hunit : (s.advanceTo d).unit second = s.unit second := State.unit_congr (by simp) (by simp) second
  have hlow : (s.advanceTo d).shedHigh = false := State.shedHigh_of_pulse (second := second) (by rw [hunit, h]; rfl)
  have hends : (s.advanceTo d).endPulse second = (s.unpulsed second d).edgeFrom false := by
    rw [State.endPulse, hunit, hlow, State.unpulsed]
  have hexec : exec (.watchPulseExpiry second) s = .next ((s.advanceTo d).endPulse second).conclude := by
    rw [← s.expire_some h fun t => t.endPulse second]
    rfl
  rw [hexec, hends]
  exact ⟨_, congrArg (fun u : State => Host.Outcome.next u.conclude) (State.edgeFrom_of_le (wasHigh := false) nofun)⟩

theorem pulseEnds {s : State} {second : Bool} {d : Nat} (hs : s.Settled) (h : (s.unit second).pulse = some d) :
    ∃ t, exec (.watchPulseExpiry second) s = .next t ∧
      t = ((s.unpulsed second d).setSlots t.slotUnit.slots).setHistory t.history ∧ (t.unit second).pulse = none ∧
      (t.shedHigh = true ↔ s.crank.hold = false ∧ (s.unit (!second)).pulse = none ∧ s.pins.peerShed = false) ∧
      ∀ i, (t.slot i).latch = (s.slot i).latch ∧ (t.slot i).state = (s.slot i).state := by
  obtain ⟨history, hexec⟩ := State.exec_pulseExpiry h
  have hslot (i : SlotNo) : ((s.unpulsed second d).setHistory history).slot i = (s.advanceTo d).slot i :=
    State.slot_of_slotUnit (by simp) i
  have hquiet : ((s.unpulsed second d).setHistory history).episodes = [] :=
    (hs.advanceTo d).no_episodes (by simp [State.mode]) (by simp) (by simp) (fun i => by rw [hslot]) fun i => by rw [hslot]
  refine ⟨_, hexec, State.conclude_eq_of_quiet hquiet, ?_, ?_, fun i => ⟨?_, ?_⟩⟩
  · have hkept : ((s.unpulsed second d).setHistory history).conclude.unit second = (s.unpulsed second d).unit second :=
      State.unit_congr (by simp) (by simp) second
    rw [hkept, State.unpulsed, State.setUnit_unit]
  · rw [← s.unpulsed_line second d]
    exact Eq.congr_left (State.shedHigh_congr (by simp) (by simp) (by simp) (by simp))
  · rw [State.conclude_slot, State.refreshed_latch, hslot, s.advanceTo_slot]
  · rw [State.conclude_slot, State.refreshed_state, hslot, s.advanceTo_slot]

end Sys2Proof.Machine
end

section
/-! What an application does ahead of its evaluations leaves the watch units, and a frozen history frozen (R152, R154). -/

namespace Sys2Proof.Machine

/-! The freeze. -/

@[simp] theorem History.write_frozen (h : History) (e : HistEntry) : (h.write e).frozen = h.frozen :=
  (History.write_writes h e).frozen

theorem foldl_frozen {α : Type} {f : State → α → State} (hf : ∀ s a, (f s a).history.frozen = s.history.frozen)
    (l : List α) (s : State) : (l.foldl f s).history.frozen = s.history.frozen :=
  foldl_keeps (P := fun u : State => u.history.frozen = s.history.frozen) (fun u a h => (hf u a).trans h) l rfl

@[simp] theorem State.record_frozen (s : State) (e : HistEvent) : (s.record e).history.frozen = s.history.frozen :=
  (s.record_writes e).frozen

@[simp] theorem State.post_frozen (s : State) (c : NoticeContent) : (s.post c).history.frozen = s.history.frozen :=
  (s.post_writes c).frozen

@[simp] theorem State.capture_frozen (s : State) (kind : FaultKind) (u : Subject) (f : Option FrameKind) :
    (s.capture kind u f).history.frozen = s.history.frozen := (s.capture_writes kind u f).frozen

@[simp] theorem State.postPhase_frozen (s : State) (c : PhaseCause) : (s.postPhase c).history.frozen = s.history.frozen :=
  s.post_frozen _

@[simp] theorem State.postSlot_frozen (s : State) (i : SlotNo) (held : Option Nat) (c : SlotCause) :
    (s.postSlot i held c).history.frozen = s.history.frozen := s.post_frozen _

@[simp] theorem State.postCause_frozen (s : State) (i : SlotNo) (c : SlotCause) :
    (s.postCause i c).history.frozen = s.history.frozen := s.post_frozen _

@[simp] theorem State.autoGeneral_frozen (s : State) (q : Queued) :
    (s.autoGeneral q).history.frozen = s.history.frozen := by
  unfold State.autoGeneral
  split <;> simp [State.pushGeneral]

@[simp] theorem State.queueJoin_frozen (s : State) (b : Body) : (s.queueJoin b).history.frozen = s.history.frozen := by
  unfold State.queueJoin
  split <;> simp

/-! The sequencer. -/

@[simp] theorem State.toIdle_frozen (s : State) : s.toIdle.history.frozen = s.history.frozen := by
  refine (State.edgeFrom_writes (s := s.setCrank .reset) fun h => ?_).frozen
  rw [State.shedHigh_iff] at h ⊢
  exact ⟨rfl, h.2⟩

@[simp] theorem State.abandon_frozen (s : State) : s.abandon.history.frozen = s.history.frozen := by
  unfold State.abandon
  split <;> simp

@[simp] theorem State.checkAbandon_frozen (s : State) : s.checkAbandon.history.frozen = s.history.frozen := by
  unfold State.checkAbandon
  split <;> simp

@[simp] theorem State.checkLockout_frozen (s : State) : s.checkLockout.history.frozen = s.history.frozen := by
  rcases s.checkLockout_cases with h | h <;> rw [h]
  simp [State.startLockout]

/-! The slots and the end of an application. -/

@[simp] theorem State.slotTests_frozen (s : State) : s.slotTests.history.frozen = s.history.frozen := by
  have hreleases (u : State) (i : SlotNo) : (u.releaseAgain i).history.frozen = u.history.frozen := by
    unfold State.releaseAgain
    split <;> simp
  have hclears (u : State) (i : SlotNo) : (u.testStuckClear i).history.frozen = u.history.frozen := by
    unfold State.testStuckClear
    (repeat' split) <;> simp [State.pushGeneral]
  rw [State.slotTests, State.testStuckClears, foldl_frozen hclears, State.releasesAgain, foldl_frozen hreleases]

@[simp] theorem State.settleDown_frozen (s : State) (n : Nat) : (s.settleDown n).history.frozen = s.history.frozen :=
  s.slotTests.refreshSlots_writes.frozen.trans s.slotTests_frozen

@[simp] theorem State.ownTransition_frozen (s : State) (c : SlotCause) (t : Transition) :
    (s.ownTransition c t).history.frozen = s.history.frozen := by
  unfold State.ownTransition
  dsimp only
  (repeat' split) <;> simp

@[simp] theorem State.takeTransitions_frozen (s : State) (l : List Transition) :
    (s.takeTransitions l).history.frozen = s.history.frozen := foldl_frozen (fun u t => u.ownTransition_frozen _ t) l s

@[simp] theorem State.recordTransitions_frozen (s : State) (l : List Transition) :
    (s.recordTransitions l).history.frozen = s.history.frozen := foldl_frozen (fun u _ => u.record_frozen _) l s

@[simp] theorem State.ownJoinOutcome_frozen (s : State) (a : Applied) :
    (s.ownJoinOutcome a).history.frozen = s.history.frozen := by
  have hslot (u : State) (x : SlotNo × JoinOutcome) : (State.ownJoinSlot a u x).history.frozen = u.history.frozen := by
    unfold State.ownJoinSlot
    dsimp only
    split <;> simp
  exact (State.takeTransitions_frozen _ _).trans (foldl_frozen hslot _ s)

@[simp] theorem State.ownReleaseOutcome_frozen (s : State) (i : SlotNo) (a : Applied) :
    (s.ownReleaseOutcome i a).history.frozen = s.history.frozen := by
  unfold State.ownReleaseOutcome
  dsimp only
  (repeat' split) <;> simp

@[simp] theorem State.ownClaimOutcome_frozen (s : State) (i : SlotNo) (a : Applied) :
    (s.ownClaimOutcome i a).history.frozen = s.history.frozen := by
  unfold State.ownClaimOutcome
  dsimp only
  (repeat' split) <;> simp [State.mirrorSlot]

@[simp] theorem State.slotOutcomes_frozen (s : State) (f : Frame) (a : Applied) :
    (s.slotOutcomes f a).history.frozen = s.history.frozen := by
  unfold State.slotOutcomes State.ownSettledOutcome State.ownStuckOutcome
  dsimp only
  (repeat' split) <;> simp

@[simp] theorem State.stateOutcome_frozen (s : State) (f : Frame) (a : Applied) (join : Body) :
    (s.stateOutcome f a join).history.frozen = s.history.frozen := by
  unfold State.stateOutcome State.announce
  dsimp only
  (repeat' split) <;> simp

@[simp] theorem State.rosterOutcomes_frozen (s : State) (f : Frame) (a : Applied) :
    (allStations.foldl (State.rosterOutcome f a) s).history.frozen = s.history.frozen := by
  refine foldl_frozen (fun u n => ?_) _ s
  unfold State.rosterOutcome
  dsimp only
  (repeat' split) <;> simp

@[simp] theorem State.phaseOutcome_frozen (s : State) (a : Applied) :
    (s.phaseOutcome a).history.frozen = s.history.frozen := by
  unfold State.phaseOutcome
  dsimp only
  (repeat' split) <;> simp

@[simp] theorem State.rolesRefused_frozen (s : State) (f : Frame) (a : Applied) :
    (s.rolesRefused f a).history.frozen = s.history.frozen := by
  unfold State.rolesRefused
  split
  · exact foldl_frozen (fun u _ => u.capture_frozen _ _ _) _ s
  · rfl

/-! What the watch units see of an application. -/

@[simp] theorem State.crankOutcome_watch (s : State) (f : Frame) (a : Applied) : SameWatch s (s.crankOutcome f a) := by
  unfold State.crankOutcome
  (repeat' split) <;> simp [State.startSettle, State.postGo]

@[simp] theorem State.takeOutcome_watch (s : State) (f : Frame) (a : Applied) : SameWatch s (s.takeOutcome f a) := by
  unfold State.takeOutcome
  dsimp only
  split <;> simp

@[simp] theorem State.ended_watch (s : State) (n : Nat) : SameWatch s (s.ended n) := by
  have hfrozen : (s.ended n).history.frozen = s.history.frozen := by simp [State.ended]
  exact ⟨by simp, by simp [State.ended, State.settleDown, State.tidy], by simp [State.ended, State.settleDown, State.tidy],
    hfrozen⟩

@[simp] theorem State.onEntry_watch (s : State) : SameWatch s s.onEntry := by
  have hend (u : State) (i : SlotNo) : (u.endCarry i).history.frozen = u.history.frozen := by
    unfold State.endCarry
    split <;> simp
  have hdrop (u : State) (i : SlotNo) : (u.dropCarry i).history.frozen = u.history.frozen := by
    unfold State.dropCarry
    split <;> simp
  unfold State.onEntry
  split
  · simp [State.startSync, State.requestSync]
  · exact ⟨by simp, by simp, by simp, foldl_frozen hend allSlots s⟩
  · simp [State.startSync, State.requestSync]
  · simp
  · exact ⟨by simp, by simp, by simp, (foldl_frozen hdrop allSlots _).trans (by simp)⟩
  · simp

@[simp] theorem State.enterAnnounced_watch (s : State) (new : StationState) (cause : SyncCause) :
    SameWatch s (s.enterAnnounced new cause) := by
  simp [State.enterAnnounced, State.shift, State.dropInbound]

@[simp] theorem State.takePresence_watch (s : State) (f : Frame) : SameWatch s (s.takePresence f) := by
  unfold State.takePresence State.changePeer
  (repeat' split) <;> simp

@[simp] theorem State.takeSyncRequest_watch (s : State) (f : Frame) : SameWatch s (s.takeSyncRequest f) := by
  unfold State.takeSyncRequest
  dsimp only
  (repeat' split) <;> simp

@[simp] theorem State.takeSnapshot_watch (s : State) (f : Frame) : SameWatch s (s.takeSnapshot f) := by
  unfold State.takeSnapshot
  (repeat' split) <;> simp

theorem State.compared_watch (s : State) (f : Frame) (r : Replica) (rest : List Frame) :
    SameWatch s (s.compared f r rest) := by
  unfold State.compared
  split <;> simp [State.withRest, State.raiseDisagree, State.changePeer]

/-! What an application withdraws from the urgent lane: its explanation a SHED_REQUEST that asked for one, an abandoned crank
its own frames (R61, R125). -/

/-- No application withdraws a frame of this sort. -/
def Lasting (p : Queued → Bool) : Prop :=
  ∀ q, p q = true → q.isShedRequest (some causeLine) = false ∧ q.isCrankFrame = false

theorem lasting_watchRequest : Lasting (Queued.isShedRequest (some 0)) := by
  intro q hq
  cases q with
  | fixed b =>
    cases b with
    | shedRequest c v =>
      have hc : c = 0 := beq_iff_eq.mp hq
      subst hc
      exact ⟨rfl, rfl⟩
    | _ => cases hq
  | _ => cases hq

theorem lasting_closingStop : Lasting fun q => q == .fixed (phaseFrameBody .stop 0) := by
  intro q hq
  rw [beq_iff_eq.mp hq]
  decide

theorem withdrawFrom_any {p gone : Queued → Bool} (h : ∀ q, p q = true → gone q = false) (inTx : Bool)
    (lane : List Queued) : (withdrawFrom inTx gone lane).any p = lane.any p := by
  have hfilter (l : List Queued) : (l.filter fun q => !gone q).any p = l.any p := by
    rw [List.any_filter]
    congr 1
    funext q
    cases hq : p q with
    | false => simp
    | true => simp [h q hq]
  unfold withdrawFrom
  split
  · rw [List.any_cons, List.any_cons, hfilter]
  · exact hfilter _

section
variable {p : Queued → Bool} (hp : Lasting p)
include hp

theorem Lasting.explained (s : State) : s.explained.inUrgent p = s.inUrgent p := by
  have hlink : s.explained.link.urgent = withdrawFrom (s.link.sending .urgent) (Queued.isShedRequest (some causeLine))
      s.link.urgent := by
    simp [State.explained, State.withdrawUrgent]
  rw [State.inUrgent, hlink, withdrawFrom_any fun q hq => (hp q hq).1]
  rfl

theorem Lasting.abandon (s : State) : s.abandon.inUrgent p = s.inUrgent p := by
  rw [State.inUrgent, State.abandon_urgent]
  split
  · exact withdrawFrom_any (fun q hq => (hp q hq).2) _ _
  · rfl

theorem Lasting.checkAbandon (s : State) : s.checkAbandon.inUrgent p = s.inUrgent p := by
  unfold State.checkAbandon
  split
  · exact hp.abandon s
  · rfl

theorem Lasting.crankOutcome (s : State) (f : Frame) (a : Applied) : (s.crankOutcome f a).inUrgent p = s.inUrgent p := by
  have hcases : s.crankOutcome f a = s.abandon ∨ (s.crankOutcome f a).link = s.link := by
    unfold State.crankOutcome
    (repeat' split) <;> simp [State.startSettle, State.postGo]
  rcases hcases with h | h
  · rw [h, hp.abandon]
  · rw [State.inUrgent, h, State.inUrgent]

theorem Lasting.takeOutcome (s : State) (f : Frame) (a : Applied) : (s.takeOutcome f a).inUrgent p = s.inUrgent p := by
  unfold State.takeOutcome
  dsimp only
  rw [hp.crankOutcome]
  split
  · refine Eq.trans ?_ (hp.explained (s.setReplica (some a.after)))
    simp [State.inUrgent]
  · simp [State.inUrgent]

theorem Lasting.ended (s : State) (n : Nat) : (s.ended n).inUrgent p = s.inUrgent p := by
  refine Eq.trans ?_ (hp.checkAbandon s)
  simp [State.inUrgent, State.ended, State.settleDown, State.tidy]

theorem Lasting.onEntry (s : State) : s.onEntry.inUrgent p = s.inUrgent p := by
  unfold State.onEntry
  split
  · simp [State.inUrgent, State.startSync, State.requestSync]
  · simp [State.inUrgent]
  · simp [State.inUrgent, State.startSync, State.requestSync]
  · exact hp.checkAbandon s
  · refine Eq.trans ?_ (hp.abandon s.stopMemberTimers)
    simp [State.inUrgent]
  · rfl

theorem Lasting.enterAnnounced (s : State) (new : StationState) (cause : SyncCause) :
    (s.enterAnnounced new cause).inUrgent p = s.inUrgent p := by
  rw [State.enterAnnounced, hp.onEntry]
  rfl

end

end Sys2Proof.Machine
end

section
/-! The watch units at an application (R137 to R144, R87). -/

namespace Sys2Proof.Machine

/-! What an application offers (R137, R138). -/

/-- R137: the sources that an application offers, with the phase it found and the phase it leaves. -/
def applicationOffered (before after : Replica) (source : WatchSource) : Prop :=
  source = .frame ∨ source = .headroom ∨ (source = .phase ∧ before.phase.phase ≠ after.phase.phase)

/-- R138: whether the application of f, which leaves this replica, matches a unit. -/
def applicationHit (f : Frame) (after : Replica) (w : WatchUnit) : Prop :=
  match w.source with
  | .frame => (f.body.kind.code : Int) = w.compare ∧ w.mask.getLsbD f.sender.val = true
  | .headroom => w.relation.holds ((after.phase.low : Int) - after.charged) w.compare = true
  | _ => (after.phase.phase.code : Int) = w.compare

/-- R137: the value that the application offers a unit. -/
def applicationValue (f : Frame) (after : Replica) (w : WatchUnit) : EvalValue :=
  match w.source with
  | .frame => .frame f.body.kind f.sender
  | .headroom => .headroom ((after.phase.low : Int) - after.charged)
  | _ => .phase after.phase.phase

/-- R137: the phase that an application offers, where it changes it. -/
def phaseOffered (before after : Replica) : Option Phase :=
  if before.phase.phase = after.phase.phase then none else some after.phase.phase

theorem Offers.application {m : State} {after : Replica} (f : Frame) (before : Replica) (h : m.replica = some after) :
    Offers m (applicationOffer f m.replica (phaseOffered before after)) (applicationOffered before after)
      (applicationHit f after) (applicationValue f after) where
  given w hw := by
    rcases hw with hw | hw | ⟨hw, hp⟩
    · simp [applicationOffer, applicationValue, hw]
    · simp [applicationOffer, applicationValue, hw, h, Replica.headroom]
    · simp [applicationOffer, applicationValue, hw, phaseOffered, hp]
  withheld source hs := by
    simp only [applicationOffered, not_or, not_and, not_not] at hs
    obtain ⟨hframe, hheadroom, hphase⟩ := hs
    cases source with
    | frame => exact absurd rfl hframe
    | headroom => exact absurd rfl hheadroom
    | phase => simp [applicationOffer, phaseOffered, hphase rfl]
    | _ => rfl
  hits w hw := by
    rcases hw with hw | hw | ⟨hw, -⟩ <;> simp [applicationHit, applicationValue, hw, WatchUnit.matchesValue]
  line _ hline := by simp [applicationOffered] at hline

/-! What stands ahead of the evaluations. -/

theorem Found.refl (s : State) : Found s s := ⟨⟨rfl, rfl, rfl, rfl⟩, rfl, rfl⟩

theorem Found.trans {a b c : State} (h : Found a b) (k : Found b c) : Found a c :=
  ⟨h.watch.trans k.watch, k.mode.trans h.mode, k.asked.trans h.asked⟩

theorem State.ended_found (s : State) (n : Nat) : Found s (s.ended n) :=
  ⟨s.ended_watch n, by simp [State.mode], lasting_watchRequest.ended s n⟩

theorem State.takeOutcome_found (s : State) (f : Frame) (a : Applied) : Found s (s.takeOutcome f a) :=
  ⟨s.takeOutcome_watch f a, by simp [State.mode], lasting_watchRequest.takeOutcome s f a⟩

theorem State.compared_found (s : State) (f : Frame) (r : Replica) (rest : List Frame) : Found s (s.compared f r rest) := by
  obtain ⟨-, -, -, -, hstation, -, -, hlink⟩ := s.compared_frame f r rest
  exact ⟨s.compared_watch f r rest, by rw [State.mode, hstation, State.mode], by rw [State.inUrgent, hlink]; rfl⟩

theorem State.takePresence_found (s : State) (f : Frame) : Found s (s.takePresence f) :=
  ⟨s.takePresence_watch f, by simp [State.mode], by simp [State.inUrgent]⟩

theorem State.takeSyncRequest_found (s : State) (f : Frame) : Found s (s.takeSyncRequest f) := by
  have hurgent : (s.takeSyncRequest f).link.urgent = s.link.urgent := by
    unfold State.takeSyncRequest
    dsimp only
    (repeat' split) <;> simp
  exact ⟨s.takeSyncRequest_watch f, by simp [State.mode], by rw [State.inUrgent, hurgent, State.inUrgent]⟩

theorem State.takeSnapshot_found (s : State) (f : Frame) : Found s (s.takeSnapshot f) := by
  have hkept : (s.takeSnapshot f).station = s.station ∧ (s.takeSnapshot f).link.urgent = s.link.urgent := by
    unfold State.takeSnapshot
    (repeat' split) <;> simp
  obtain ⟨hstation, hurgent⟩ := hkept
  exact ⟨s.takeSnapshot_watch f, by rw [State.mode, hstation, State.mode], by rw [State.inUrgent, hurgent, State.inUrgent]⟩

/-- R87: the state in which a change of station state is evaluated, that of the frame's taking. -/
def State.atTaking (s : State) (n : Nat) (new : StationState) (cause : SyncCause) : State :=
  ((s.enterAnnounced new cause).ended n).setStation
    { ((s.enterAnnounced new cause).ended n).station with state := s.mode }

theorem State.atTaking_found (s : State) (n : Nat) (new : StationState) (cause : SyncCause) :
    Found s (s.atTaking n new cause) :=
  ⟨(s.enterAnnounced_watch new cause).trans (State.ended_watch _ n), rfl,
    (lasting_watchRequest.ended _ n).trans (lasting_watchRequest.enterAnnounced s new cause)⟩

/-! What stands behind them. -/

/-- An event ends behind y, which is w in all that the units have written. -/
theorem EndsFrom.of_parts {w y : State} (h0 : y.w0 = w.w0) (h1 : y.w1 = w.w1) (hr : y.replica = w.replica)
    (hl : y.link = w.link) (hp : y.port = w.port) (hh : y.history = w.history) : EndsFrom w y.conclude where
  units := State.unit_congr (by simp [h0]) (by simp [h1])
  replica := by simp [hr]
  urgent := by simp [hl]
  notices := hp ▸ (State.conclude_tells y).prefix
  history := ⟨y, hh ▸ (History.Writes.refl _).mono (Nat.zero_le 1), rfl⟩

/-- The pulses and the urgent lane as the evaluation left them. -/
def State.restored (t w : State) : State :=
  ((t.setW0 { t.w0 with pulse := w.w0.pulse }).setW1 { t.w1 with pulse := w.w1.pulse }).setLink
    { t.link with urgent := w.link.urgent }

/-- R72, R136: OFFLINE takes the pulses and the lanes. -/
theorem State.silenceOffline_takes {s : State} (h : s.mode = .offline) :
    s.silenceOffline.w0 = { s.w0 with pulse := none } ∧ s.silenceOffline.w1 = { s.w1 with pulse := none } ∧
      s.silenceOffline.link.urgent = [] ∧ s.silenceOffline.port = s.port ∧
      s.history.Writes 1 s.silenceOffline.history := by
  have heq : s.silenceOffline = s.emptyLanes.endDrive.stopSlotTimers := if_pos (by rw [h]; rfl)
  have hwrites : s.history.Writes 1 s.emptyLanes.endDrive.history := by
    refine State.edgeFrom_writes (s := ((s.emptyLanes.setW0 _).setW1 _).setCrank _) fun hh => ?_
    rw [State.shedHigh_iff] at hh ⊢
    exact ⟨rfl, rfl, rfl, hh.2.2.2⟩
  rw [heq]
  refine ⟨by simp [State.emptyLanes], by simp [State.emptyLanes], by simp [State.emptyLanes],
    by simp [State.emptyLanes], ?_⟩
  rw [(State.stopSlotTimers_frame _).2.2.2.2.2.2.2.2.2.1]
  exact hwrites

section
variable (w : State) (station : StationUnit) (f : Frame) (a : Applied)

theorem EndsFrom.gate : EndsFrom w (w.gateOutcome f a).conclude :=
  .of_parts (by simp) (by simp) (by simp) (by simp) (by simp) (by simp)

theorem EndsFrom.changed (hm : station.state ≠ .offline) :
    EndsFrom w ((w.setStation station).silenceOffline.gateOutcome f a).conclude := by
  rw [State.silenceOffline_of_mode (s := w.setStation station) hm]
  exact .of_parts (by simp) (by simp) (by simp) (by simp) (by simp) (by simp)

/-- R72, R136: no pulse runs and no frame waits in OFFLINE. -/
theorem State.silenced_quiet (hm : station.state = .offline) :
    ((w.setStation station).silenceOffline.gateOutcome f a).conclude.w0.pulse = none ∧
      ((w.setStation station).silenceOffline.gateOutcome f a).conclude.w1.pulse = none ∧
      ((w.setStation station).silenceOffline.gateOutcome f a).conclude.link.urgent = [] := by
  obtain ⟨h0, h1, hurgent, -⟩ := State.silenceOffline_takes (s := w.setStation station) hm
  exact ⟨by simp [h0], by simp [h1], by simp [hurgent]⟩

/-- R87: an own LEAVE that takes the station OFFLINE, with what the silence there ends restored. -/
theorem EndsFrom.silenced (hm : station.state = .offline) :
    EndsFrom w (((w.setStation station).silenceOffline.gateOutcome f a).conclude.restored w) := by
  obtain ⟨h0, h1, -, hport, hwrites⟩ := State.silenceOffline_takes (s := w.setStation station) hm
  refine ⟨State.unit_congr ?_ ?_, by simp [State.restored], by simp [State.restored], ?_,
    (w.setStation station).silenceOffline.gateOutcome f a, ?_, by simp [State.restored]⟩
  · simp [State.restored, h0]
  · simp [State.restored, h1]
  · have hkept := (State.conclude_tells ((w.setStation station).silenceOffline.gateOutcome f a)).prefix
    have hsilent : ((w.setStation station).silenceOffline.gateOutcome f a).port = w.port := by simp [hport]
    rw [hsilent] at hkept
    simpa [State.restored] using hkept
  · simpa using hwrites

end

/-! The applications. -/

/-- What the evaluations of the application of f make of a station, from s to u, where it leaves this replica. -/
def ApplicationEvaluates (s u : State) (f : Frame) (before after : Replica) : Prop :=
  Evaluates s u (applicationOffered before after) (applicationHit f after) (applicationValue f after)

/-- What the watch units make of an application that ends at t, with u the state of the statement (R87, R136). -/
def WatchesApplication (s t u : State) (f : Frame) (before after : Replica) : Prop :=
  (¬ (f.sender = s.self ∧ f.body = .leave) → u = t) ∧
  (f.sender = s.self → f.body = .leave → t.w0.pulse = none ∧ t.w1.pulse = none ∧ t.link.urgent = [] ∧
    ∃ w, u = t.restored w) ∧
  ApplicationEvaluates s u f before after

theorem phaseOffered_self (r : Replica) : phaseOffered r r = none := if_pos rfl

/-- R137: a frame that changes no table is evaluated where its own effect leaves the station. -/
theorem Found.plain {s u : State} (h : Found s u) (hl : s.mode.live = true) {r : Replica} (hr : u.replica = some r)
    (n : Nat) (f : Frame) : ApplicationEvaluates s (u.evaluated n f none).conclude f r r := by
  have hm : (u.ended n).replica = some r := by simpa using hr
  refine (h.trans (u.ended_found n)).evaluates (phaseOffered_self r ▸ Offers.application f r hm) hl ?_
  exact .of_conclude _

section
variable {s v : State} {f : Frame} {r : Replica} {effect : Frame → Replica → OwnEffect}

/-- R137: a table-changing frame that leaves the station state. -/
theorem Found.stays (h : Found s v) (hl : s.mode.live = true) (hr : v.replica = some r) (n : Nat)
    (hc : v.changeCaused f (r.apply (effect f)) = none) :
    ApplicationEvaluates s (v.applyTable f effect n).conclude f r (r.apply (effect f)).after := by
  have hm : ((v.takeOutcome f (r.apply (effect f))).ended n).replica = some (r.apply (effect f)).after := by
    simpa using v.takeOutcome_replica f _
  rw [State.applyTable_stays hr f effect n hc]
  exact (h.trans ((v.takeOutcome_found f _).trans (State.ended_found _ n))).evaluates (Offers.application f r hm) hl
    (.gate _ f _)

theorem State.evaluatedAtChange_eq (T : State) (n : Nat) (f : Frame) (p : Option Phase) (new : StationState)
    (cause : SyncCause) : T.evaluatedAtChange n f p new cause =
      (((T.atTaking n new cause).watchEvent (applicationOffer f (T.atTaking n new cause).replica p)).setStation
        ((T.enterAnnounced new cause).ended n).station).silenceOffline := rfl

/-- R87, R137: one that changes it. -/
theorem Found.changes (h : Found s v) (hl : s.mode.live = true) (hr : v.replica = some r) (n : Nat)
    {new : StationState} {cause : SyncCause} (hc : v.changeCaused f (r.apply (effect f)) = some (new, cause)) :
    (new ≠ .offline → ApplicationEvaluates s (v.applyTable f effect n).conclude f r (r.apply (effect f)).after) ∧
    (new = .offline → (v.applyTable f effect n).conclude.w0.pulse = none ∧
      (v.applyTable f effect n).conclude.w1.pulse = none ∧ (v.applyTable f effect n).conclude.link.urgent = [] ∧
      ∃ w, ApplicationEvaluates s ((v.applyTable f effect n).conclude.restored w) f r (r.apply (effect f)).after) := by
  have hm : ((v.takeOutcome f (r.apply (effect f))).atTaking n new cause).replica = some (r.apply (effect f)).after := by
    simpa [State.atTaking] using v.takeOutcome_replica f _
  have hfound : Found s ((v.takeOutcome f (r.apply (effect f))).atTaking n new cause) :=
    h.trans ((v.takeOutcome_found f _).trans (State.atTaking_found _ n new cause))
  have hmode : (((v.takeOutcome f (r.apply (effect f))).enterAnnounced new cause).ended n).station.state = new := by
    refine Eq.trans ?_ (State.enterAnnounced_mode (v.takeOutcome f (r.apply (effect f))) new cause)
    simp [State.mode]
  rw [State.applyTable_changes hr f effect n hc, State.evaluatedAtChange_eq]
  refine ⟨fun hnew => ?_, fun hnew => ?_⟩
  · exact hfound.evaluates (Offers.application f r hm) hl (.changed _ _ f _ (hmode.trans_ne hnew))
  · obtain ⟨h0, h1, hurgent⟩ := State.silenced_quiet _ _ f (r.apply (effect f)) (hmode.trans hnew)
    exact ⟨h0, h1, hurgent, _, hfound.evaluates (Offers.application f r hm) hl (.silenced _ _ f _ (hmode.trans hnew))⟩

end

/-- R118: the application of the own LEAVE alone takes the station OFFLINE. -/
theorem State.changeCaused_offline {s : State} {f : Frame} {a : Applied} {new : StationState} {cause : SyncCause}
    (h : s.changeCaused f a = some (new, cause)) : new = .offline ↔ f.sender = s.self ∧ f.body = .leave := by
  unfold State.changeCaused at h
  (repeat' split at h) <;> simp only [Option.some.injEq, Prod.mk.injEq, reduceCtorEq] at h <;> obtain ⟨rfl, -⟩ := h <;>
    simp_all

theorem State.changeCaused_leave {s : State} {f : Frame} {a : Applied} (hs : f.sender = s.self) (hb : f.body = .leave) :
    s.changeCaused f a = some (.offline, .leaveApplied) := by
  simp [State.changeCaused, hs, hb]

/-- R137 to R144, R87: the watch units at the application of a table-changing frame. -/
theorem Found.table {s v : State} {f : Frame} {r : Replica} {effect : Frame → Replica → OwnEffect} (h : Found s v)
    (hl : s.mode.live = true) (hr : v.replica = some r) (hself : v.self = s.self) (n : Nat) :
    ∃ u, WatchesApplication s (v.applyTable f effect n).conclude u f r (r.apply (effect f)).after := by
  cases hc : v.changeCaused f (r.apply (effect f)) with
  | none =>
    refine ⟨_, fun _ => rfl, fun hs hb => ?_, h.stays hl hr n hc⟩
    exact nomatch hc.symm.trans (State.changeCaused_leave (hs.trans hself.symm) hb)
  | some c =>
    obtain ⟨new, cause⟩ := c
    obtain ⟨hstays, hleaves⟩ := h.changes (effect := effect) hl hr n hc
    have hoffline := State.changeCaused_offline hc
    rw [hself] at hoffline
    by_cases hnew : new = .offline
    · obtain ⟨h0, h1, hurgent, w, hev⟩ := hleaves hnew
      exact ⟨_, fun hn => absurd (hoffline.mp hnew) hn, fun _ _ => ⟨h0, h1, hurgent, w, rfl⟩, hev⟩
    · exact ⟨_, fun _ => rfl, fun hs hb => absurd (hoffline.mpr ⟨hs, hb⟩) hnew, hstays hnew⟩

/-- A kind changes a table, or it is PRESENCE, SYNC_REQUEST or SNAPSHOT. -/
theorem tableEffect_cases (kind : FrameKind) :
    (∃ effect, tableEffect kind = some effect) ∨ kind = .presence ∨ kind = .syncRequest ∨ kind = .snapshot := by
  cases kind <;> simp [tableEffect]

/-- R137 to R144, R87: the watch units at an application. -/
theorem applicationWatches {s : State} {f : Frame} {r : Replica} {rest : List Frame} (h : s.Applies f r rest)
    (hm : s.mode = .entering ∨ s.mode = .member) :
    ∃ t after u, exec (frameRow f.body.kind) s = .next t ∧ t.replica = some after ∧
      WatchesApplication s t u f r after := by
  have hl : s.mode.live = true := by rcases hm with hm | hm <;> rw [hm] <;> rfl
  obtain ⟨hstraps, -, hreplica, -, hstation, -⟩ := s.compared_frame f r rest
  have hr : (s.compared f r rest).replica = some r := hreplica.trans h.holds
  have hfound := s.compared_found f r rest
  have hplain {u : State} (hu : Found s u) (hur : u.replica = some r) (hk : f.body.kind ≠ .leave)
      (hexec : exec (frameRow f.body.kind) s = .next (u.evaluated s.history.entries.length f none).conclude) :
      ∃ t after u, exec (frameRow f.body.kind) s = .next t ∧ t.replica = some after ∧
        WatchesApplication s t u f r after :=
    ⟨_, r, _, hexec, by simpa using hur, fun _ => rfl, fun _ hb => absurd (by rw [hb]; rfl) hk, hu.plain hl hur _ f⟩
  rcases tableEffect_cases f.body.kind with ⟨effect, hk⟩ | hk | hk | hk
  · obtain ⟨u, hu⟩ := hfound.table (f := f) (effect := effect) hl hr (by rw [State.self, hstraps, State.self])
      s.history.entries.length
    obtain ⟨e, htable, htaken⟩ := State.applyTable_taken hr f effect s.history.entries.length
      (by rwa [State.mode, hstation])
    exact ⟨_, _, u, State.exec_table h hk, by simpa [htable] using htaken.replica, hu⟩
  · exact hplain (hfound.trans (State.takePresence_found _ f)) (by simpa using hr) (by rw [hk]; decide)
      (by rw [← State.exec_presence h hk, hk]; rfl)
  · exact hplain (hfound.trans (State.takeSyncRequest_found _ f)) (by simpa using hr) (by rw [hk]; decide)
      (by rw [← State.exec_syncRequest h hk, hk]; rfl)
  · have hsnap : ((s.compared f r rest).takeSnapshot f).replica = some r := by
      unfold State.takeSnapshot
      (repeat' split) <;> simpa using hr
    exact hplain (hfound.trans (State.takeSnapshot_found _ f)) hsnap (by rw [hk]; decide)
      (by rw [← State.exec_snapshot_applies h hk (by rcases hm with hm | hm <;> rw [hm] <;> decide)
        (by rcases hm with hm | hm <;> rw [hm] <;> decide), hk]; rfl)

/-- Settles O58: the evaluations of one event, from the moment they begin to the end of the event. -/
theorem vsenseAndPulse : Obligations.VsenseAndPulse := by
  unfold Obligations.VsenseAndPulse
  refine ⟨fun s v hs hr => ⟨sampleIdle hs hr, fun second hm ha hsource hother => sampleCounts hs hr hm ha hsource hother,
      fun hm h0 hsource hc hh h1 hq hsource1 => sampleReloads hr hm h0 hsource hc hh h1 hq hsource1⟩,
    fun s f r rest h hm => ?_, fun s hs hh hm hr => lineFallEvaluates hh hm hr,
    fun s v hs hr hm => sampleEvaluates hr hm v, fun s second d hs h => pulseEnds hs h⟩
  obtain ⟨t, after, u, hexec, hreplica, hu, hleave, hevaluates⟩ := applicationWatches h hm
  refine ⟨t, after, u, hexec, hreplica, hu, fun hself hb => ?_, hevaluates⟩
  obtain ⟨h0, h1, hurgent, w, hw⟩ := hleave hself hb
  exact ⟨h0, h1, hurgent, _, _, _, hw⟩

end Sys2Proof.Machine
end

section
/-! What an application makes of the sequencer (R56, R58, R60, R61): the tests at its end, told of a station that the
sequencer has not moved yet. -/

namespace Sys2Proof.Machine

/-! The tests at the end of an application (R60, R61). -/

/-- R60: the frame that closes a lockout, among frames. -/
def closes (self : Station) (f : Frame) : Prop := f.sender = self ∧ f.body = phaseFrameBody .stop 0

theorem State.closingUnderWay_iff (s : State) : s.closingUnderWay = false ↔
    s.inUrgent (fun q => q == .fixed (phaseFrameBody .stop 0)) = false ∧ ∀ f ∈ s.link.inbound, ¬ closes s.self f := by
  rw [State.closingUnderWay, Bool.or_eq_false_iff]
  refine and_congr Iff.rfl ?_
  rw [List.any_eq_false]
  simp only [Bool.and_eq_true, beq_iff_eq]
  exact Iff.rfl

/-- R60: the test for LOCKOUT, on the replica. -/
theorem State.checkLockout_owed {s : State} {r : Replica} (hr : s.replica = some r) (hi : s.crank.state = .idle)
    (ho : s.OwesLockout s.mode r s.link.inbound) : s.checkLockout = s.startLockout := by
  obtain ⟨hm, hnamed, hphase, hattempts, hlane, hinbound⟩ := ho
  have hclosing := s.closingUnderWay_iff.mpr ⟨hlane, hinbound⟩
  simp [State.checkLockout, hi, hm, hclosing, State.namedCrank, State.phaseRecord, hr, hnamed, hphase, hattempts]

theorem State.checkLockout_paid {s : State} {r : Replica} (hr : s.replica = some r)
    (ho : ¬ s.OwesLockout s.mode r s.link.inbound) : s.checkLockout = s := by
  refine if_neg fun h => ho ?_
  simp only [State.namedCrank, State.phaseRecord, hr, Bool.and_eq_true, beq_iff_eq, Bool.not_eq_true',
    Option.map_some] at h
  obtain ⟨⟨⟨⟨-, hm⟩, hnamed⟩, hclosing⟩, hphase, hattempts⟩ := h
  obtain ⟨hlane, hinbound⟩ := s.closingUnderWay_iff.mp hclosing
  exact ⟨hm, hnamed, hphase, hattempts, hlane, hinbound⟩

/-- What the tests at the end of an application see at u: s, but for the sequencer, the replica, the station state and the
frames that wait. -/
structure SequencerSees (s u : State) (after : Replica) (rest : List Frame) : Prop where
  straps : u.straps = s.straps
  config : u.config = s.config
  now : u.now = s.now
  replica : u.replica = some after
  sending : u.link.sending .urgent = s.link.sending .urgent
  closing : u.inUrgent (fun q => q == .fixed (phaseFrameBody .stop 0)) =
    s.inUrgent (fun q => q == .fixed (phaseFrameBody .stop 0))
  inbound : u.mode = .member → ∀ f, closes s.self f → (f ∈ u.link.inbound ↔ f ∈ rest)
  mode : u.mode ≠ .isolated

section
variable {s u : State} {after : Replica} {rest : List Frame}

theorem SequencerSees.owes_iff (h : SequencerSees s u after rest) :
    u.OwesLockout u.mode after u.link.inbound ↔ s.OwesLockout u.mode after rest := by
  have hself : u.self = s.self := by rw [State.self, h.straps, State.self]
  simp only [State.OwesLockout, hself, h.closing]
  refine and_congr_right fun hm => and_congr_right fun _ => and_congr_right fun _ => and_congr_right fun _ =>
    and_congr_right fun _ => ?_
  exact ⟨fun hn f hf hc => hn f ((h.inbound hm f hc).mpr hf) hc, fun hn f hf hc => hn f ((h.inbound hm f hc).mp hf) hc⟩

theorem SequencerSees.lockedOut (h : SequencerSees s u after rest) : u.lockedOut = s.lockedOut := by
  rw [State.lockedOut, h.now, h.config, State.lockedOut]

theorem SequencerSees.checkAbandon (h : SequencerSees s u after rest) : SequencerSees s u.checkAbandon after rest where
  straps := by simp [h.straps]
  config := by simp [h.config]
  now := by simp [h.now]
  replica := by simp [h.replica]
  sending := by rw [← h.sending, LinkUnit.sending, LinkUnit.sending]; simp
  closing := (lasting_closingStop.checkAbandon u).trans h.closing
  inbound hm := by simpa using h.inbound (by simpa [State.mode] using hm)
  mode := by simpa [State.mode] using h.mode

/-- R60: an IDLE sequencer enters LOCKOUT where it is owed. -/
theorem SequencerSees.locks (h : SequencerSees s u after rest) (hi : u.crank.state = .idle) :
    (s.OwesLockout u.mode after rest → u.checkLockout.crank = s.lockedOut) ∧
    (¬ s.OwesLockout u.mode after rest → u.checkLockout.crank = u.crank) := by
  refine ⟨fun ho => ?_, fun ho => ?_⟩
  · rw [State.checkLockout_owed h.replica hi (h.owes_iff.mpr ho), State.startLockout_crank, h.lockedOut]
  · rw [State.checkLockout_paid h.replica (mt h.owes_iff.mp ho)]

theorem State.checkAbandon_of_rest {s : State} (h : s.crank.state.underWay = false) : s.checkAbandon = s := by
  unfold State.checkAbandon State.abandon
  rw [h]
  simp

/-- The sequencer, and what it has left in the urgent lane, behind the application of f: m is the station that the tests at
its end find. -/
structure SequencerTakes (s m : State) (f : Frame) (ignored : Option IgnoreCause) : Prop where
  state : m.crank.state = s.crank.state ∨ (s.crank.state.underWay = true ∧ m.crank = .reset ∧
    ∃ lane, m.link.urgent = withdrawFrom (s.link.sending .urgent) Queued.isCrankFrame lane)
  ignored : s.crank.state.underWay = true → f.sender = s.self → ignored ≠ none →
    (∃ n, f.body = phaseFrameBody .crankPending n ∨ f.body = phaseFrameBody .crank n) → m.crank = .reset
  other : ¬ (f.sender = s.self ∧ f.body.kind = .phase) → m.crank = s.crank

/-- An application whose tests have left e ends at t. -/
structure SequencerEnds (e t : State) : Prop where
  crank : t.crank = e.crank
  lane : ∃ l, t.link.urgent = e.link.urgent ++ l ∧ ∀ q ∈ l, q.isCrankFrame = false
  notices : e.port.notices <+: t.port.notices

/-- What the statement says of the sequencer and the urgent lane at the end t of the application of f. -/
structure SequencerEnded (s t : State) (f : Frame) (ignored : Option IgnoreCause) (after : Replica) (rest : List Frame) :
    Prop where
  withdraws : s.Abandons f ignored t.mode after →
    ∀ q ∈ (if s.link.sending .urgent then t.link.urgent.tail else t.link.urgent), q.isCrankFrame = false
  abandons : s.Abandons f ignored t.mode after → ¬ s.OwesLockout t.mode after rest → t.crank = .reset
  relocks : s.Abandons f ignored t.mode after → s.OwesLockout t.mode after rest → t.crank = s.lockedOut
  locks : s.crank.state = .idle → s.OwesLockout t.mode after rest → t.crank = s.lockedOut
  stays : ¬ s.Abandons f ignored t.mode after → s.crank.state.underWay = true →
    ¬ (f.sender = s.self ∧ f.body.kind = .phase) → t.crank = s.crank

section
variable {m t : State} {f : Frame} {ignored : Option IgnoreCause}

/-- R61: where the application abandons the crank, the tests find it abandoned or abandon it. -/
theorem SequencerTakes.abandons (ht : SequencerTakes s m f ignored) (hs : SequencerSees s m after rest)
    (ha : s.Abandons f ignored m.mode after) : m.checkAbandon.crank = .reset ∧
      ∃ w, m.checkAbandon.link.urgent = withdrawFrom (s.link.sending .urgent) Queued.isCrankFrame w := by
  obtain ⟨hw, hcause⟩ := ha
  rcases ht.state with hstate | ⟨-, hcrank, hlane⟩
  · have hway : m.crank.state.underWay = true := by rwa [hstate]
    have hstrays : m.Strays m.mode after := by
      refine (State.strays_congr hstate hs.straps _ _).mpr (hcause.resolve_left fun ⟨hself, hignored, hbody⟩ => ?_)
      rw [ht.ignored hw hself hignored hbody] at hway
      cases hway
    refine ⟨State.checkAbandon_of_strays hs.replica hs.mode hway hstrays, m.link.urgent, ?_⟩
    rw [State.checkAbandon, if_pos ((State.strayed_iff hs.replica hs.mode hway).mpr hstrays), State.abandon_urgent,
      if_pos hway, hs.sending]
  · rw [State.checkAbandon_of_rest (by rw [hcrank]; rfl)]
    exact ⟨hcrank, hlane⟩

theorem SequencerEnded.of_tests (hs : SequencerSees s m after rest) (ht : SequencerTakes s m f ignored)
    (he : SequencerEnds m.checkAbandon.checkLockout t) (hm : t.mode = m.mode) :
    SequencerEnded s t f ignored after rest := by
  have hlocks (hi : m.checkAbandon.crank.state = .idle) :
      (s.OwesLockout t.mode after rest → t.crank = s.lockedOut) ∧
        (¬ s.OwesLockout t.mode after rest → t.crank = m.checkAbandon.crank) := by
    have hmode : m.checkAbandon.mode = t.mode := by rw [hm]; simp [State.mode]
    rw [he.crank, ← hmode]
    exact hs.checkAbandon.locks hi
  have habandons (ha : s.Abandons f ignored t.mode after) := ht.abandons hs (hm ▸ ha)
  have hidle (ha : s.Abandons f ignored t.mode after) : m.checkAbandon.crank.state = .idle := by
    rw [(habandons ha).1]
    rfl
  refine ⟨fun ha => ?_, fun ha ho => ((hlocks (hidle ha)).2 ho).trans (habandons ha).1, fun ha => (hlocks (hidle ha)).1,
    fun hi => ?_, fun ha hw hother => ?_⟩
  · obtain ⟨l, hurgent, hl⟩ := he.lane
    obtain ⟨-, w, hlane⟩ := habandons ha
    rw [hurgent, (State.checkLockout_quiet _).1, hlane]
    exact withdrawFrom_clears _ _ _ l hl
  · have hrest : m.crank.state = .idle := by
      rcases ht.state with hstate | ⟨-, hcrank, -⟩
      · exact hstate.trans hi
      · rw [hcrank]
        rfl
    refine (hlocks ?_).1
    rwa [State.checkAbandon_of_rest (by rw [hrest]; rfl)]
  · have hcrank := ht.other hother
    have hway : m.crank.state.underWay = true := by rwa [hcrank]
    have hstays : ¬ m.Strays m.mode after := fun hstrays =>
      ha ⟨hw, .inr (hm ▸ (State.strays_congr (by rw [hcrank]) hs.straps _ _).mp hstrays)⟩
    have hbusy : m.crank.state ≠ .idle := fun hi => by rw [hi] at hway; cases hway
    rw [he.crank, State.checkAbandon_of_not_strays hs.replica hs.mode hway hstays, State.checkLockout_of_state hbusy, hcrank]

/-- R61, R72, R118: an own LEAVE that takes the station OFFLINE abandons a crank under way and empties the lanes. -/
theorem SequencerEnded.of_offline (hm : t.mode = .offline) (hu : t.link.urgent = [])
    (hc : s.crank.state.underWay = true → t.crank = .reset) : SequencerEnded s t f ignored after rest where
  withdraws _ := by simp [hu]
  abandons ha _ := hc ha.1
  relocks _ ho := nomatch hm.symm.trans ho.1
  locks _ ho := nomatch hm.symm.trans ho.1
  stays ha hw _ := absurd ⟨hw, .inr (.inl hm)⟩ ha

end

end

end Sys2Proof.Machine
end

section
/-! The station's own PHASE frames on the replica and at the sequencer (R46, R56, R58, R61). -/

namespace Sys2Proof.Machine

/-! The epilogue keeps the phase record and the roster. -/

/-- The phase record and the roster stay. -/
def SameTables (r q : Replica) : Prop := q.phase = r.phase ∧ q.roster = r.roster

theorem SameTables.trans {a b c : Replica} (h : SameTables a b) (k : SameTables b c) : SameTables a c :=
  ⟨k.1.trans h.1, k.2.trans h.2⟩

theorem Replica.release_tables (r : Replica) (k : Key) : SameTables r (r.release k) := by
  unfold Replica.release
  split <;> exact ⟨rfl, rfl⟩

theorem trimOne_tables (limit : Nat) (p : Pass) (k : Key) : SameTables p.rep (trimOne limit p k).rep := by
  unfold trimOne
  dsimp only
  (repeat' split) <;> exact ⟨rfl, rfl⟩

theorem shedOne_tables (limit : Nat) (p : Pass) (k : Key) : SameTables p.rep (shedOne limit p k).rep := by
  unfold shedOne
  split
  · split
    · exact SameTables.trans (b := p.rep.change k _) ⟨rfl, rfl⟩ (Replica.release_tables _ k)
    · exact ⟨rfl, rfl⟩
  · exact ⟨rfl, rfl⟩

theorem foldl_tables {α : Type} {step : Pass → α → Pass} (h : ∀ p a, SameTables p.rep (step p a).rep) (l : List α)
    (p : Pass) : SameTables p.rep (l.foldl step p).rep :=
  foldl_keeps (P := fun q : Pass => SameTables p.rep q.rep) (fun q a hq => hq.trans (h q a)) l ⟨rfl, rfl⟩

theorem shedClass_tables (limit : Nat) (p : Pass) (cls : LoadClass) : SameTables p.rep (shedClass limit p cls).rep :=
  (foldl_tables (trimOne_tables limit) _ p).trans (foldl_tables (shedOne_tables limit) _ _)

theorem sheddingPass_tables (p : Pass) : SameTables p.rep (sheddingPass p).rep :=
  (foldl_tables (shedClass_tables _) _ p).trans (shedClass_tables _ _ _)

theorem epilogue_tables (r : Replica) : SameTables r (epilogue r).1.rep := by
  refine (sheddingPass_tables { rep := r, log := [] }).trans ?_
  unfold epilogue
  generalize sheddingPass { rep := r, log := [] } = p
  rcases admissionPass_cases (p.log.map (·.key)) p with ⟨hnone, -⟩ | ⟨a, -, -, hsome⟩
  · rw [hnone]
    exact ⟨rfl, rfl⟩
  · rw [hsome]
    exact ⟨rfl, rfl⟩

theorem Replica.setDigest_tables (r : Replica) (d : Half) : SameTables r { r with digest := d } := ⟨rfl, rfl⟩

theorem Replica.apply_tables (r : Replica) (effect : Replica → OwnEffect) :
    SameTables (r.apply effect).own.rep (r.apply effect).after := by
  unfold Replica.apply
  dsimp only
  exact (epilogue_tables _).trans (Replica.setDigest_tables _ _)

/-! A PHASE that is not ignored (R46). -/

/-- A PHASE frame's application that was not ignored: the new phase, shown by the named crank station. -/
theorem phaseEffect_made {f : Frame} {r : Replica} {p : Phase} {n : BitVec 2} (hb : f.body = phaseFrameBody p n)
    (h : (phaseEffect f r).ignored = none) : r.phase.crankStation = some f.sender ∧
      ∃ record, phaseEffect f r = .made { r with phase := record } [] ∧ record.phase = p ∧
        record.crankStation = r.phase.crankStation := by
  have hcode := p.ofCode_code
  cases hp : r.isPresent f.sender with
  | false =>
    rw [phaseEffect_absent hb hp] at h
    cases h
  | true =>
    by_cases hc : r.phase.crankStation = some f.sender
    · have hmade := phaseEffect_named hb hp hc hcode
      cases hstep : phaseStep r.phase.phase p n with
      | none =>
        rw [hmade, hstep] at h
        cases h
      | some value =>
        rw [hstep] at hmade
        exact ⟨hc, _, hmade, rfl, rfl⟩
    · rw [phaseEffect_notRole hb hp hc] at h
      cases h

/-- What an own PHASE that is not ignored makes of the replica. -/
structure PhaseMade (f : Frame) (p : Phase) (a : Applied) : Prop where
  phase : a.after.phase.phase = p
  named : a.after.phase.crankStation = some f.sender
  roster : a.after.roster = a.before.roster
  log : a.own.log = []
  refused : a.own.refused = []

theorem phaseMade {f : Frame} {r : Replica} {p : Phase} {n : BitVec 2} (hb : f.body = phaseFrameBody p n)
    (h : (r.apply (phaseEffect f)).own.ignored = none) : PhaseMade f p (r.apply (phaseEffect f)) := by
  obtain ⟨hc, record, hmade, hphase, hnamed⟩ := phaseEffect_made (r := { r with epoch := r.epoch + 1 }) hb h
  obtain ⟨hkept, hroster⟩ := r.apply_tables (phaseEffect f)
  have hown : (r.apply (phaseEffect f)).own = .made { r with epoch := r.epoch + 1, phase := record } [] := hmade
  rw [hown] at hkept hroster
  refine ⟨by rw [hkept]; exact hphase, ?_, hroster, by rw [hown]; rfl, by rw [hown]; rfl⟩
  rw [hkept]
  exact hnamed.trans hc

/-! The sequencer and the own PHASE (R56, R58, R61). -/

section
variable {s : State} {f : Frame} {a : Applied} {p : Phase} {n : BitVec 2}

theorem State.crankOutcome_other (h : ¬ (f.sender = s.self ∧ f.body.kind = .phase)) : s.crankOutcome f a = s := by
  unfold State.crankOutcome
  split
  · rename_i hb
    exact if_neg fun hs => h ⟨hs, by rw [hb]; rfl⟩
  · rfl

theorem State.crankOutcome_pending (hs : f.sender = s.self) (hb : f.body = phaseFrameBody .crankPending n)
    (hi : a.own.ignored = none) :
    s.crankOutcome f a = if s.crank.state = .settling ∧ s.crank.hold = true then s.startSettle else s := by
  simp only [State.crankOutcome, hb, phaseFrameBody, hs, if_true, Phase.ofCode_code, hi]

theorem State.crankOutcome_go (hs : f.sender = s.self) (hb : f.body = phaseFrameBody .crank n)
    (hi : a.own.ignored = none) : s.crankOutcome f a = s.postGo a.after := by
  simp only [State.crankOutcome, hb, phaseFrameBody, hs, if_true, Phase.ofCode_code, hi]

theorem State.crankOutcome_ignored (hs : f.sender = s.self) (hi : a.own.ignored ≠ none)
    (hb : f.body = phaseFrameBody .crankPending n ∨ f.body = phaseFrameBody .crank n) :
    s.crankOutcome f a = s.abandon := by
  obtain ⟨cause, hcause⟩ := Option.ne_none_iff_exists'.mp hi
  rcases hb with hb | hb <;>
    simp only [State.crankOutcome, hb, phaseFrameBody, hs, if_true, Phase.ofCode_code, hcause]

/-- What the own PHASE can make of the sequencer: it abandons the crank, or its state and the lanes stay. -/
theorem State.crankOutcome_state (s : State) (f : Frame) (a : Applied) : s.crankOutcome f a = s.abandon ∨
    ((s.crankOutcome f a).crank.state = s.crank.state ∧ (s.crankOutcome f a).link = s.link) := by
  unfold State.crankOutcome
  (repeat' split) <;> simp [State.startSettle, State.postGo]

end

/-- R80 step 3: the blocks ahead of the sequencer's (log entry 14). -/
def State.beforeCrank (s : State) (f : Frame) (a : Applied) : State :=
  let replaced := s.setReplica (some a.after)
  let cleared := if a.explains f then replaced.explained else replaced
  let slots := (cleared.recordTransitions (a.own.log ++ a.log)).slotOutcomes f a
  let reported := (allStations.foldl (State.rosterOutcome f a) (slots.stateOutcome f a s.joinBody)).phaseOutcome a
  (reported.rolesRefused f a).memberOutcome a

theorem State.takeOutcome_eq (s : State) (f : Frame) (a : Applied) :
    s.takeOutcome f a = (s.beforeCrank f a).crankOutcome f a := rfl

theorem State.beforeCrank_frame (s : State) (f : Frame) (a : Applied) :
    (s.beforeCrank f a).straps = s.straps ∧ (s.beforeCrank f a).config = s.config ∧ (s.beforeCrank f a).now = s.now ∧
      (s.beforeCrank f a).replica = some a.after ∧ (s.beforeCrank f a).crank = s.crank ∧
      (s.beforeCrank f a).link.tx = s.link.tx := by
  unfold State.beforeCrank
  dsimp only
  split <;> simp

theorem LinkUnit.sending_congr {l k : LinkUnit} (h : k.tx = l.tx) (source : Source) : k.sending source = l.sending source := by
  rw [LinkUnit.sending, h, LinkUnit.sending]

/-- R61: what the blocks of an application make of the sequencer, ahead of the tests at its end. -/
theorem State.takeOutcome_takes (s : State) (f : Frame) (a : Applied) :
    SequencerTakes s (s.takeOutcome f a) f a.own.ignored := by
  obtain ⟨hstraps, -, -, -, hcrank, htx⟩ := s.beforeCrank_frame f a
  have hself : (s.beforeCrank f a).self = s.self := by rw [State.self, hstraps, State.self]
  have hsending := LinkUnit.sending_congr htx .urgent
  rw [State.takeOutcome_eq]
  refine ⟨?_, fun hw hs hi ⟨n, hb⟩ => ?_, fun ho => ?_⟩
  · rcases (s.beforeCrank f a).crankOutcome_state f a with h | ⟨h, -⟩
    · cases hw : s.crank.state.underWay with
      | false =>
        refine .inl ?_
        rw [h, State.abandon_crank, hcrank, if_neg (by rw [hw]; decide)]
      | true =>
        refine .inr ⟨rfl, ?_, (s.beforeCrank f a).link.urgent, ?_⟩
        · rw [h, State.abandon_crank, hcrank, if_pos hw]
        · rw [h, State.abandon_urgent, hcrank, if_pos hw, hsending]
    · exact .inl (h.trans (by rw [hcrank]))
  · rw [State.crankOutcome_ignored (hs.trans hself.symm) hi hb, State.abandon_crank, hcrank, if_pos hw]
  · rw [State.crankOutcome_other (by rwa [hself]), hcrank]

end Sys2Proof.Machine
end

section
/-! The sequencer at the end of an application (R56, R58, R60, R61). -/

namespace Sys2Proof.Machine

section
variable (s : State) (f : Frame) (r : Replica) (rest : List Frame) (a : Applied)

theorem State.compared_crank : (s.compared f r rest).crank = s.crank := by
  unfold State.compared
  split <;> simp [State.withRest, State.raiseDisagree, State.changePeer]

/-- R80 step 3: the station that takes the outcome of the application of f. -/
def State.taken : State := (s.compared f r rest).takeOutcome f a

/-- What the blocks of an application leave to the tests at its end. -/
theorem State.taken_sees (hm : s.mode ≠ .isolated) : SequencerSees s (s.taken f r rest a) a.after rest := by
  obtain ⟨hstraps, hconfig, -, hnow, hstation, -, -, hlink⟩ := s.compared_frame f r rest
  refine ⟨by simp [State.taken, hstraps], by simp [State.taken, hconfig], by simp [State.taken, hnow],
    State.takeOutcome_replica _ f a, LinkUnit.sending_congr (by simp [State.taken, hlink]) .urgent,
    (lasting_closingStop.takeOutcome _ f a).trans ?_, fun _ _ _ => by simp [State.taken, hlink],
    by simpa [State.taken, State.mode, hstation] using hm⟩
  rw [State.inUrgent, hlink]
  rfl

theorem State.taken_takes : SequencerTakes s (s.taken f r rest a) f a.own.ignored := by
  obtain ⟨hstraps, -, -, -, -, -, -, hlink⟩ := s.compared_frame f r rest
  have hself : (s.compared f r rest).self = s.self := by rw [State.self, hstraps, State.self]
  have hsending : (s.compared f r rest).link.sending .urgent = s.link.sending .urgent :=
    LinkUnit.sending_congr (by rw [hlink]) .urgent
  obtain ⟨hstate, hignored, hother⟩ := (s.compared f r rest).takeOutcome_takes f a
  rw [State.compared_crank, hsending] at hstate
  rw [State.compared_crank, hself] at hignored hother
  exact ⟨hstate, hignored, hother⟩

theorem State.taken_mode : (s.taken f r rest a).mode = s.mode := by
  obtain ⟨-, -, -, -, hstation, -⟩ := s.compared_frame f r rest
  simp [State.taken, State.mode, hstation]

end

/-! A change of station state that the application causes (R87, R100, R109). -/

section
variable {s u : State} {f : Frame} {new : StationState}

/-- R100, R109: entry into ENTERING and MEMBER leaves the sequencer and the urgent lane. -/
theorem State.enterAnnounced_spares (u : State) (hn : new = .entering ∨ new = .member) (cause : SyncCause) :
    (u.enterAnnounced new cause).crank = u.crank ∧ (u.enterAnnounced new cause).link.urgent = u.link.urgent ∧
      (u.enterAnnounced new cause).link.tx = u.link.tx := by
  have hmode : ((u.shift new cause).dropInbound).mode = new := by simp [State.mode, State.shift, State.dropInbound]
  unfold State.enterAnnounced State.onEntry
  rw [hmode]
  rcases hn with rfl | rfl <;> simp [State.shift, State.dropInbound, LinkUnit.entered]

theorem SequencerSees.enterAnnounced {after : Replica} {rest : List Frame} (h : SequencerSees s u after rest)
    (hi : u.link.inbound = rest) (hn : new = .entering ∨ new = .member) (cause : SyncCause) :
    SequencerSees s (u.enterAnnounced new cause) after rest where
  straps := by simp [h.straps]
  config := by simp [h.config]
  now := by simp [h.now]
  replica := by simp [h.replica]
  sending := (LinkUnit.sending_congr (u.enterAnnounced_spares hn cause).2.2 .urgent).trans h.sending
  closing := (lasting_closingStop.enterAnnounced u new cause).trans h.closing
  inbound hm g hg := by
    rw [State.enterAnnounced_inbound, List.mem_filter, hi]
    rw [State.enterAnnounced_mode] at hm
    exact and_iff_left (by rw [hm]; simp [admits, hg.2, phaseFrameBody])
  mode := by
    rw [State.enterAnnounced_mode]
    rcases hn with rfl | rfl <;> decide

theorem SequencerTakes.enterAnnounced {ignored : Option IgnoreCause} (h : SequencerTakes s u f ignored)
    (hn : new = .entering ∨ new = .member) (cause : SyncCause) :
    SequencerTakes s (u.enterAnnounced new cause) f ignored := by
  obtain ⟨hcrank, hurgent, -⟩ := u.enterAnnounced_spares hn cause
  obtain ⟨hstate, hignored, hother⟩ := h
  exact ⟨by rwa [hcrank, hurgent], by rwa [hcrank], by rwa [hcrank]⟩

/-- R61, R118: OFFLINE abandons a crank under way. -/
theorem State.enterAnnounced_abandons (u : State) (cause : SyncCause) :
    (u.enterAnnounced .offline cause).crank = u.abandon.crank := by
  have hmode : ((u.shift .offline cause).dropInbound).mode = .offline := by
    simp [State.mode, State.shift, State.dropInbound]
  unfold State.enterAnnounced State.onEntry
  rw [hmode]
  simp [State.abandon_crank, State.shift, State.dropInbound]

end

/-! Behind the tests. -/

/-- A frame that the watch units queue is none of the sequencer's. -/
theorem WatchActs.spares {n : Nat} {s t : State} (h : WatchActs n s t) :
    ∃ l, t.link.urgent = s.link.urgent ++ l ∧ ∀ q ∈ l, q.isCrankFrame = false := by
  obtain ⟨l, hlink, hl⟩ := h.lane
  exact ⟨l, by rw [hlink], fun q hq => (lasting_watchRequest q (hl q hq).1).2⟩

/-- The evaluations stand at m, and the event ends behind y. -/
theorem SequencerEnds.of_event {e m y : State} {values : WatchSource → Option EvalValue} (hc : m.crank = e.crank)
    (hu : m.link.urgent = e.link.urgent) (hn : e.port.notices <+: m.port.notices)
    (hyc : y.crank = (m.watchEvent values).crank) (hyl : y.link = (m.watchEvent values).link)
    (hyp : y.port = (m.watchEvent values).port) : SequencerEnds e y.conclude where
  crank := by simp [hyc, hc]
  lane := by
    obtain ⟨l, hlane, hl⟩ := (m.watchEvent_acts values).spares
    exact ⟨l, by rw [← hu, ← hlane, ← hyl]; simp, hl⟩
  notices := by
    have hend := (State.conclude_tells y).prefix
    rw [hyp] at hend
    exact hn.trans ((m.watchEvent_tells values).prefix.trans hend)

/-- R80 step 3: the tests of an application, its slots, its evaluations and its gate timers. -/
theorem SequencerEnds.evaluated (u : State) (n : Nat) (f : Frame) (p : Option Phase) (a : Applied) :
    SequencerEnds u.checkAbandon.checkLockout ((u.evaluated n f p).gateOutcome f a).conclude :=
  .of_event (m := u.ended n) (values := applicationOffer f (u.ended n).replica p)
    (by simp [State.ended, State.settleDown, State.tidy]) (by simp [State.ended, State.settleDown, State.tidy])
    (State.settleDown_tells _ n).prefix (by simp [State.evaluated, State.offerApplication])
    (by simp [State.evaluated, State.offerApplication]) (by simp [State.evaluated, State.offerApplication])

theorem State.evaluatedAtChange_of_live (u : State) (n : Nat) (f : Frame) (p : Option Phase) {new : StationState}
    (hn : new ≠ .offline) (cause : SyncCause) : u.evaluatedAtChange n f p new cause =
      ((u.atTaking n new cause).watchEvent (applicationOffer f (u.atTaking n new cause).replica p)).setStation
        ((u.enterAnnounced new cause).ended n).station := by
  have hmode : ((u.enterAnnounced new cause).ended n).station.state ≠ .offline := by
    simpa [State.mode] using (u.enterAnnounced_mode new cause).trans_ne hn
  exact State.silenceOffline_of_mode
    (s := ((u.atTaking n new cause).watchEvent (applicationOffer f (u.atTaking n new cause).replica p)).setStation _) hmode

/-- R136: OFFLINE ends the hold. -/
theorem State.silenced_crank (w : State) (station : StationUnit) (f : Frame) (a : Applied) (hm : station.state = .offline) :
    ((w.setStation station).silenceOffline.gateOutcome f a).conclude.crank = { w.crank with hold := false } := by
  have heq : (w.setStation station).silenceOffline = (w.setStation station).emptyLanes.endDrive.stopSlotTimers :=
    if_pos (beq_iff_eq.mpr hm)
  rw [heq]
  simp [State.emptyLanes]

theorem SequencerEnds.changed (u : State) (n : Nat) {new : StationState} (cause : SyncCause) (hn : new ≠ .offline)
    (f : Frame) (p : Option Phase) (a : Applied) :
    SequencerEnds (u.enterAnnounced new cause).checkAbandon.checkLockout
      ((u.evaluatedAtChange n f p new cause).gateOutcome f a).conclude := by
  rw [State.evaluatedAtChange_of_live u n f p hn cause]
  exact .of_event (m := u.atTaking n new cause) (values := applicationOffer f (u.atTaking n new cause).replica p)
    (by simp [State.atTaking, State.ended, State.settleDown, State.tidy])
    (by simp [State.atTaking, State.ended, State.settleDown, State.tidy]) (State.settleDown_tells _ n).prefix
    (by simp) (by simp) (by simp)

/-- R61, R72, R118: an application that takes the station OFFLINE. -/
theorem State.changedOffline (u : State) (n : Nat) (cause : SyncCause) (f : Frame) (p : Option Phase) (a : Applied) :
    ((u.evaluatedAtChange n f p .offline cause).gateOutcome f a).conclude.link.urgent = [] ∧
      (u.crank.state.underWay = true →
        ((u.evaluatedAtChange n f p .offline cause).gateOutcome f a).conclude.crank = .reset) := by
  have hmode : ((u.enterAnnounced .offline cause).ended n).station.state = .offline := by
    simpa [State.mode] using u.enterAnnounced_mode .offline cause
  rw [State.evaluatedAtChange_eq]
  refine ⟨(State.silenced_quiet _ _ f a hmode).2.2, fun hw => ?_⟩
  have hreset : (u.enterAnnounced .offline cause).crank = .reset := by
    rw [u.enterAnnounced_abandons, State.abandon_crank, if_pos hw]
  have hended : ((u.enterAnnounced .offline cause).ended n).crank = .reset := by
    have habandon := State.checkAbandon_of_rest (s := u.enterAnnounced .offline cause) (by rw [hreset]; rfl)
    have hlockout : (u.enterAnnounced .offline cause).checkLockout = u.enterAnnounced .offline cause :=
      State.checkLockout_of_mode (by rw [State.enterAnnounced_mode]; decide)
    simpa [State.ended, State.settleDown, State.tidy, habandon, hlockout] using hreset
  have hfound : (u.atTaking n .offline cause).crank = .reset := by rw [State.atTaking, State.setStation_crank, hended]
  rw [State.silenced_crank _ _ f a hmode]
  simp [hfound, CrankUnit.reset]

/-! The application. -/

section
variable {s : State} {f : Frame} {r : Replica} {rest : List Frame} {effect : Frame → Replica → OwnEffect}

/-- R80: an application of a table-changing frame that changes no station state. -/
theorem State.exec_stays (h : s.Applies f r rest) (hk : tableEffect f.body.kind = some effect)
    (hc : (s.compared f r rest).changeCaused f (r.apply (effect f)) = none) : exec (frameRow f.body.kind) s =
      .next (((s.taken f r rest (r.apply (effect f))).evaluated s.history.entries.length f
        (r.apply (effect f)).newPhase).gateOutcome f (r.apply (effect f))).conclude := by
  obtain ⟨-, -, hreplica, -⟩ := s.compared_frame f r rest
  rw [State.exec_table h hk, State.applyTable_stays (hreplica.trans h.holds) f effect _ hc, State.taken]

theorem State.exec_changes (h : s.Applies f r rest) (hk : tableEffect f.body.kind = some effect)
    {new : StationState} {cause : SyncCause}
    (hc : (s.compared f r rest).changeCaused f (r.apply (effect f)) = some (new, cause)) :
    exec (frameRow f.body.kind) s =
      .next (((s.taken f r rest (r.apply (effect f))).evaluatedAtChange s.history.entries.length f
        (r.apply (effect f)).newPhase new cause).gateOutcome f (r.apply (effect f))).conclude := by
  obtain ⟨-, -, hreplica, -⟩ := s.compared_frame f r rest
  rw [State.exec_table h hk, State.applyTable_changes (hreplica.trans h.holds) f effect _ hc, State.taken]

/-- R60, R61: the sequencer and the urgent lane at the end of an application. -/
theorem applicationSequencer (h : s.Applies f r rest) (hm : s.mode = .entering ∨ s.mode = .member)
    (hk : tableEffect f.body.kind = some effect) {t : State} (ht : exec (frameRow f.body.kind) s = .next t) :
    SequencerEnded s t f (r.apply (effect f)).own.ignored (r.apply (effect f)).after rest := by
  have hlive : s.mode ≠ .isolated := by rcases hm with hm | hm <;> rw [hm] <;> decide
  have hinbound : (s.taken f r rest (r.apply (effect f))).link.inbound = rest := by
    obtain ⟨-, -, -, -, -, -, -, hlink⟩ := s.compared_frame f r rest
    simp [State.taken, hlink]
  have hsees := s.taken_sees f r rest (r.apply (effect f)) hlive
  have htakes := s.taken_takes f r rest (r.apply (effect f))
  cases hc : (s.compared f r rest).changeCaused f (r.apply (effect f)) with
  | none =>
    rw [State.exec_stays h hk hc] at ht
    obtain rfl := Host.Outcome.next.inj ht
    exact .of_tests hsees htakes (.evaluated _ _ f _ _) (by simp [State.mode])
  | some c =>
    obtain ⟨new, cause⟩ := c
    rw [State.exec_changes h hk hc] at ht
    obtain rfl := Host.Outcome.next.inj ht
    have hmode : (((s.taken f r rest (r.apply (effect f))).evaluatedAtChange s.history.entries.length f
        (r.apply (effect f)).newPhase new cause).gateOutcome f (r.apply (effect f))).conclude.mode = new := by
      refine Eq.trans ?_ (State.enterAnnounced_mode (s.taken f r rest (r.apply (effect f))) new cause)
      simp [State.evaluatedAtChange, State.mode]
    rcases State.changeCaused_cases hc with hn | rfl
    · have hoff : new ≠ .offline := by rcases hn with rfl | rfl <;> decide
      exact .of_tests (hsees.enterAnnounced hinbound hn cause) (htakes.enterAnnounced hn cause)
        (.changed _ _ cause hoff f _ _) (hmode.trans (State.enterAnnounced_mode _ _ _).symm)
    · obtain ⟨hurgent, hcrank⟩ := (s.taken f r rest (r.apply (effect f))).changedOffline s.history.entries.length cause f
        (r.apply (effect f)).newPhase (r.apply (effect f))
      have hleave := ((State.changeCaused_offline hc).mp rfl).2
      have hsame := htakes.other fun hown => by
        rw [hleave] at hown
        exact nomatch hown.2
      exact .of_offline hmode hurgent fun hw => hcrank (hsame ▸ hw)

end

end Sys2Proof.Machine
end

section
/-! The own CRANK_PENDING and CRANK that are not ignored (R56, R58), and the applications. -/

namespace Sys2Proof.Machine

/-! The notices ahead of CRANK_GO (R21, R48). -/

theorem State.ownTransition_tells (s : State) (c : SlotCause) (t : Transition) : Tells 1 s (s.ownTransition c t) := by
  have hmoved {u : State} (hp : u.port = s.port) (hf : u.fault = s.fault) (i : SlotNo) (held : Option Nat) :
      Tells 1 s (u.postSlot i held c) :=
    ((Tells.of_same (by rw [hp]) hf).trans (u.post_tells _)).mono (by omega)
  unfold State.ownTransition
  dsimp only
  (repeat' split)
  · exact hmoved rfl rfl _ _
  · exact hmoved (by simp) (by simp) _ _
  · exact hmoved (by simp) (by simp) _ _
  · exact .none rfl rfl

theorem State.phaseOutcome_tells (s : State) (a : Applied) : Tells 1 s (s.phaseOutcome a) := by
  have hnoticed : Tells 1 s (if a.before.phase.sameReport a.after.phase then s
      else s.post (.phase a.own.phaseCause (some a.after.phase))) := by
    split
    · exact .none rfl rfl
    · exact s.post_tells _
  have hrecord {u : State} (h : Tells 1 s u) (e : HistEvent) : Tells 1 s (u.record e) := h.congr rfl rfl
  have hif {u v : State} {c : Prop} [Decidable c] (hu : Tells 1 s u) (hv : Tells 1 s v) : Tells 1 s (if c then u else v) := by
    split
    · exact hu
    · exact hv
  unfold State.phaseOutcome
  exact hif (hif (hif hnoticed (hrecord hnoticed _)) (hrecord (hif hnoticed (hrecord hnoticed _)) _))
    (hrecord (hif (hif hnoticed (hrecord hnoticed _)) (hrecord (hif hnoticed (hrecord hnoticed _)) _)) _)

theorem State.rosterOutcomes_same {s : State} {a : Applied} (h : a.after.roster = a.before.roster) (f : Frame) :
    allStations.foldl (State.rosterOutcome f a) s = s := by
  have hone (u : State) (n : Station) : State.rosterOutcome f a u n = u := by
    have hentry : a.after.entry n = a.before.entry n := by rw [Replica.entry, h, Replica.entry]
    simp [State.rosterOutcome, hentry]
  exact foldl_keeps (P := fun u => u = s) (fun u n hu => (hone u n).trans hu) allStations rfl

section
variable {s : State} {f : Frame} {p : Phase} {n : BitVec 2} {a : Applied}

/-- R21, R48: the notices of an own PHASE that is not ignored, ahead of the sequencer's. -/
theorem PhaseMade.tells (h : PhaseMade f p a) (hb : f.body = phaseFrameBody p n) (s : State) :
    Tells (a.log.length + 1) s (s.beforeCrank f a) := by
  have hcleared : Tells 0 s (if a.explains f then (s.setReplica (some a.after)).explained else s.setReplica (some a.after)) := by
    split <;> exact .of_same (by simp) (by simp)
  have hslots (u : State) : u.slotOutcomes f a = u.takeTransitions a.log := by
    simp [State.slotOutcomes, hb, phaseFrameBody, h.log]
  have hstate (u : State) (j : Body) : u.stateOutcome f a j = u := by
    simp [State.stateOutcome, State.changeCaused, State.rejoins, hb, phaseFrameBody]
  have hrefused (u : State) : u.rolesRefused f a = u := by simp [State.rolesRefused, h.refused]
  have htransitions (u : State) : Tells (a.log.length * 1) u (u.takeTransitions a.log) :=
    Tells.foldl (fun v t => v.ownTransition_tells .applied t) a.log u
  unfold State.beforeCrank
  dsimp only
  rw [hslots, hstate, State.rosterOutcomes_same h.roster, hrefused]
  have hrecorded (u : State) : Tells 0 u (u.recordTransitions (a.own.log ++ a.log)) := .of_same (by simp) (by simp)
  refine ((((hcleared.trans (hrecorded _)).trans (htransitions _)).trans (State.phaseOutcome_tells _ a)).congr (by simp) (by simp)).mono ?_
  omega

end

/-! Behind an own PHASE that is not ignored. -/

/-- R60, R61: a crank under way that has not strayed goes on. -/
theorem SequencerSees.goes_on {s u : State} {after : Replica} {rest : List Frame} (h : SequencerSees s u after rest)
    (hw : u.crank.state.underWay = true) (hs : ¬ u.Strays u.mode after) : u.checkAbandon.checkLockout = u := by
  rw [State.checkAbandon_of_not_strays h.replica h.mode hw hs]
  exact State.checkLockout_of_state fun hi => by rw [hi] at hw; cases hw

/-- The sequencer's own PHASE, for a phase that its state expects. -/
structure ExpectedPhase (u : State) (p : Phase) : Prop where
  busy : u.crank.state.underWay = true
  expects : u.crank.state.expects p = true

theorem PhaseMade.keeps_course {u : State} {f : Frame} {p : Phase} {a : Applied} (h : PhaseMade f p a)
    (he : ExpectedPhase u p) (hs : f.sender = u.self) (hm : u.mode ≠ .offline) : ¬ u.Strays u.mode a.after := by
  rintro (hoff | hnamed | ⟨hstate, hstop, hpending⟩ | ⟨hstate, hpending, hcrank⟩)
  · exact hm hoff
  · exact hnamed (hs ▸ h.named)
  · have := he.expects
    rw [hstate, ← h.phase] at this
    cases hp : a.after.phase.phase <;> simp_all [CrankState.expects]
  · have := he.expects
    rw [hstate, ← h.phase] at this
    cases hp : a.after.phase.phase <;> simp_all [CrankState.expects]

section
variable {s : State} {f : Frame} {r : Replica} {rest : List Frame} {p : Phase} {n : BitVec 2}

theorem State.compared_tells (s : State) (f : Frame) (r : Replica) (rest : List Frame) :
    Tells 0 s (s.compared f r rest) := by
  unfold State.compared
  split <;> exact .of_same (by simp [State.withRest, State.raiseDisagree, State.changePeer])
    (by simp [State.withRest, State.raiseDisagree, State.changePeer])

/-- R56, R58: the application of an own PHASE that is not ignored, for a phase that the sequencer expects: what it makes of
the sequencer stands at the end. -/
theorem ownPhaseApplies (h : s.Applies f r rest) (hm : s.mode = .entering ∨ s.mode = .member) (hs : f.sender = s.self)
    (hb : f.body = phaseFrameBody p n) (hi : (r.apply (phaseEffect f)).own.ignored = none)
    (he : ExpectedPhase (s.taken f r rest (r.apply (phaseEffect f))) p) {t : State}
    (ht : exec (frameRow f.body.kind) s = .next t) :
    SequencerEnds (s.taken f r rest (r.apply (phaseEffect f))) t := by
  have hmade := phaseMade hb hi
  have hsees := s.taken_sees f r rest (r.apply (phaseEffect f)) (by rcases hm with hm | hm <;> rw [hm] <;> decide)
  have hmode := s.taken_mode f r rest (r.apply (phaseEffect f))
  have hself : (s.taken f r rest (r.apply (phaseEffect f))).self = s.self := by rw [State.self, hsees.straps, State.self]
  have hcause : (s.compared f r rest).changeCaused f (r.apply (phaseEffect f)) = none := by
    simp [State.changeCaused, hb, phaseFrameBody]
  have hgoes := hsees.goes_on he.busy (hmade.keeps_course he (hs.trans hself.symm)
    (by rw [hmode]; rcases hm with hm | hm <;> rw [hm] <;> decide))
  have hends := SequencerEnds.evaluated (s.taken f r rest (r.apply (phaseEffect f))) s.history.entries.length f
    (r.apply (phaseEffect f)).newPhase (r.apply (phaseEffect f))
  rw [State.exec_stays h (by rw [hb]; rfl) hcause] at ht
  rw [← Host.Outcome.next.inj ht]
  rwa [hgoes] at hends

/-- R56: the settle timer starts at the CRANK_PENDING of the request, whose completion has begun the hold. -/
theorem State.crankOutcome_settles {a : Applied} (hs : f.sender = s.self) (hb : f.body = phaseFrameBody .crankPending n)
    (hi : a.own.ignored = none) (hc : s.crank.state = .settling) : (s.crankOutcome f a).crank = { s.crank with
      settle := if s.crank.hold then some (s.now + s.config.general.crankSettle) else s.crank.settle } := by
  rw [State.crankOutcome_pending hs hb hi]
  by_cases hh : s.crank.hold = true
  · rw [if_pos ⟨hc, hh⟩, State.startSettle_eq, State.setCrank_crank, if_pos hh]
  · rw [if_neg fun hboth => hh hboth.2, if_neg hh]

/-- R56: the own CRANK_PENDING of the request starts the settle timer. -/
theorem ownPendingApplies (h : s.Applies f r rest) (hm : s.mode = .entering ∨ s.mode = .member) (hs : f.sender = s.self)
    (hb : f.body = phaseFrameBody .crankPending n) (hi : (r.apply (phaseEffect f)).own.ignored = none)
    (hc : s.crank.state = .settling) {t : State} (ht : exec (frameRow f.body.kind) s = .next t) :
    t.crank = { s.crank with
      settle := if s.crank.hold then some (s.now + s.config.general.crankSettle) else s.crank.settle } := by
  obtain ⟨hstraps, hconfig, -, hnow, -⟩ := s.compared_frame f r rest
  obtain ⟨kstraps, kconfig, know, -, kcrank, -⟩ := (s.compared f r rest).beforeCrank_frame f (r.apply (phaseEffect f))
  have hself : ((s.compared f r rest).beforeCrank f (r.apply (phaseEffect f))).self = s.self := by
    rw [State.self, kstraps, hstraps, State.self]
  have htaken : (s.taken f r rest (r.apply (phaseEffect f))).crank = { s.crank with
      settle := if s.crank.hold then some (s.now + s.config.general.crankSettle) else s.crank.settle } := by
    rw [State.taken, State.takeOutcome_eq, State.crankOutcome_settles (hs.trans hself.symm) hb hi (by rw [kcrank,
      State.compared_crank, hc]), kcrank, State.compared_crank, know, hnow, kconfig, hconfig]
  have he : ExpectedPhase (s.taken f r rest (r.apply (phaseEffect f))) .crankPending := by
    constructor <;> rw [htaken, hc] <;> rfl
  rw [(ownPhaseApplies h hm hs hb hi he ht).crank, htaken]

/-- R58: the own CRANK posts CRANK_GO. -/
theorem ownCrankApplies (h : s.Applies f r rest) (hm : s.mode = .entering ∨ s.mode = .member) (hs : f.sender = s.self)
    (hb : f.body = phaseFrameBody .crank n) (hi : (r.apply (phaseEffect f)).own.ignored = none)
    (hc : s.crank.state = .cranking) {t : State} (ht : exec (frameRow f.body.kind) s = .next t) :
    t.crank = { s.crank with goPosted := true } ∧
      (s.port.notices.length + (r.apply (phaseEffect f)).log.length ≤ 14 → ∃ m ∈ t.port.notices,
        m.epoch = some (r.apply (phaseEffect f)).after.epoch ∧
        m.content = .crankGo (r.apply (phaseEffect f)).after.lowStuck) := by
  obtain ⟨hstraps, -⟩ := s.compared_frame f r rest
  obtain ⟨kstraps, -, -, kreplica, kcrank, -⟩ := (s.compared f r rest).beforeCrank_frame f (r.apply (phaseEffect f))
  have hself : ((s.compared f r rest).beforeCrank f (r.apply (phaseEffect f))).self = s.self := by
    rw [State.self, kstraps, hstraps, State.self]
  have htaken : s.taken f r rest (r.apply (phaseEffect f)) =
      ((s.compared f r rest).beforeCrank f (r.apply (phaseEffect f))).postGo (r.apply (phaseEffect f)).after := by
    rw [State.taken, State.takeOutcome_eq, State.crankOutcome_go (hs.trans hself.symm) hb hi]
  have hcrank : (s.taken f r rest (r.apply (phaseEffect f))).crank = { s.crank with goPosted := true } := by
    simp [htaken, State.postGo, kcrank, State.compared_crank]
  have he : ExpectedPhase (s.taken f r rest (r.apply (phaseEffect f))) .crank := by
    constructor <;> rw [hcrank, hc] <;> rfl
  have hends := ownPhaseApplies h hm hs hb hi he ht
  refine ⟨by rw [hends.crank, hcrank], fun hroom => ?_⟩
  have htells := (s.compared_tells f r rest).trans ((phaseMade hb hi).tells hb (s.compared f r rest))
  have hlength := htells.length_le
  have hposted := State.post_notices (s := (s.compared f r rest).beforeCrank f (r.apply (phaseEffect f)))
    (c := .crankGo (r.apply (phaseEffect f)).after.lowStuck) (by omega)
  have hmem : { stamp := ((s.compared f r rest).beforeCrank f (r.apply (phaseEffect f))).stamp,
                epoch := ((s.compared f r rest).beforeCrank f (r.apply (phaseEffect f))).epoch,
                content := .crankGo (r.apply (phaseEffect f)).after.lowStuck } ∈
      (s.taken f r rest (r.apply (phaseEffect f))).port.notices := by
    rw [htaken, State.postGo, State.setCrank_port, hposted]
    exact List.mem_append_right _ (List.mem_singleton_self _)
  refine ⟨_, hends.notices.subset hmem, ?_, rfl⟩
  simp [State.epoch, kreplica]

end

end Sys2Proof.Machine
end

section
/-! The sequencer at a load (R56, R58), and O52. -/

namespace Sys2Proof.Machine

section
variable {u : State} {r : Replica} (hr : u.replica = some r)
include hr

theorem State.crankLoaded_settles (hp : r.phase.phase = .crankPending) (hc : u.crank.state = .settling)
    (hs : u.crank.settle = none) : u.crankLoaded = u.startSettle := by
  simp [State.crankLoaded, hr, hp, hc, hs]

theorem State.crankLoaded_goes (hp : r.phase.phase = .crank) (hc : u.crank.state = .cranking)
    (hg : u.crank.goPosted = false) : u.crankLoaded = u.postGo r := by
  simp [State.crankLoaded, hr, hp, hc, hg]

end

/-- R121: a load up to the sequencer's part posts at most six notices. -/
theorem State.loadTables_room (s : State) (r : Replica) :
    (s.loadTables r).port.notices.length ≤ s.port.notices.length + 6 := by
  have hroom := (s.loadTaken_taken r).room
  have hslots := (foldl_loadSlot_tells allSlots (s.loadTaken r)).length_le
  have hport : (s.loadTables r).port = ((s.loadTaken r).loadSlots).port := by simp [State.loadTables]
  rw [hport]
  exact hslots.trans hroom

theorem State.loadEnds_notices (s : State) (r : Replica) (n : Nat) :
    (s.loadTables r).sequencerLoaded.port.notices <+: (s.loadEnds r n).port.notices := by
  have hlatches : (s.loadReplica r).port = (s.loadTables r).sequencerLoaded.port := by
    rw [State.loadReplica_eq, State.sequencerLoaded]
    simp
  have hend := (((s.loadReplica r).settleDown_tells n).trans (State.conclude_tells _)).prefix
  rwa [hlatches] at hend

/-- R61: a load whose phase the sequencer expects leaves the crank under way. -/
theorem State.loadTables_course {s : State} {r : Replica} (hn : r.phase.crankStation = some s.self)
    (he : ExpectedPhase s r.phase.phase) : (s.loadTables r).sequencerLoaded = (s.loadTables r).crankLoaded := by
  obtain ⟨hreplica, hmode, -, hcrank, -, ⟨hstraps, -⟩, -⟩ := s.loadTables_loaded r
  have hloaded : (s.loadTables r).mode = .entering ∨ (s.loadTables r).mode = .member := hmode ▸ s.loadedMode_cases r
  have hself : (s.loadTables r).self = s.self := by rw [State.self, hstraps, State.self]
  have hstays : ¬ (s.loadTables r).Strays (s.loadTables r).mode r := by
    rintro (hoff | hnamed | ⟨hstate, hstop, hpending⟩ | ⟨hstate, hpending, hgo⟩)
    · rcases hloaded with hm | hm <;> rw [hm] at hoff <;> cases hoff
    · exact hnamed (hself ▸ hn)
    · have := he.expects
      rw [hcrank] at hstate
      cases hp : r.phase.phase <;> simp_all [CrankState.expects]
    · have := he.expects
      rw [hcrank] at hstate
      cases hp : r.phase.phase <;> simp_all [CrankState.expects]
  exact (State.sequencerLoaded_holds hreplica (by rcases hloaded with hm | hm <;> rw [hm] <;> decide)
    (by rw [hcrank]; exact he.busy) hstays).1

section
variable {s : State} {r : Replica} (hn : r.phase.crankStation = some s.self) (n : Nat)
include hn

/-- R56: a load starts the settle timer that the own frame had not. -/
theorem loadSettles (hp : r.phase.phase = .crankPending) (hc : s.crank.state = .settling) (hs : s.crank.settle = none) :
    (s.loadEnds r n).crank = { s.crank with settle := some (s.now + s.config.general.crankSettle) } := by
  obtain ⟨hreplica, -, -, hcrank, -, ⟨-, hconfig, hnow⟩, -⟩ := s.loadTables_loaded r
  obtain ⟨-, -, -, -, -, -, hend, -⟩ := s.loadEnds_frame r n
  rw [hend, State.loadTables_course hn ⟨by rw [hc]; rfl, by rw [hc, hp]; rfl⟩,
    State.crankLoaded_settles hreplica hp (by rw [hcrank, hc]) (by rw [hcrank, hs]), State.startSettle_eq,
    State.setCrank_crank, hcrank, hconfig, hnow]

/-- R58: a load posts the CRANK_GO that the own frame had not. -/
theorem loadGoes (hp : r.phase.phase = .crank) (hc : s.crank.state = .cranking) (hg : s.crank.goPosted = false) :
    (s.loadEnds r n).crank = { s.crank with goPosted := true } ∧ (s.port.notices.length ≤ 6 →
      ∃ m ∈ (s.loadEnds r n).port.notices, m.epoch = some r.epoch ∧ m.content = .crankGo r.lowStuck) := by
  obtain ⟨hreplica, -, -, hcrank, -⟩ := s.loadTables_loaded r
  obtain ⟨-, -, -, -, -, -, hend, -⟩ := s.loadEnds_frame r n
  have hloaded : (s.loadTables r).sequencerLoaded = (s.loadTables r).postGo r := by
    rw [State.loadTables_course hn ⟨by rw [hc]; rfl, by rw [hc, hp]; rfl⟩,
      State.crankLoaded_goes hreplica hp (by rw [hcrank, hc]) (by rw [hcrank, hg])]
  refine ⟨by rw [hend, hloaded, State.postGo, State.setCrank_crank]; simp [hcrank], fun hroom => ?_⟩
  have hposted := State.post_notices (s := s.loadTables r) (c := .crankGo r.lowStuck) (by
    have := s.loadTables_room r
    omega)
  have hnotices := s.loadEnds_notices r n
  rw [hloaded, State.postGo, State.setCrank_port, hposted] at hnotices
  exact ⟨_, hnotices.subset (List.mem_append_right _ (List.mem_singleton_self _)), by simp [State.epoch, hreplica], rfl⟩

end

/-- Settles O52: each expiry by its cases; an application by the tests at its end, told of the sequencer that its blocks
leave; a load by the course that its phase leaves the sequencer on. -/
theorem crankTimersExpire : Obligations.CrankTimersExpire := by
  unfold Obligations.CrankTimersExpire
  refine ⟨fun s d hs h => ⟨fun hm => ?_, fun r hm hr => ⟨fun hl he => crankSettleExtends hs h hm hr hl he,
      fun hb => (crankSettleBegins hs h hm hr hb).1, fun hb => (crankSettleBegins hs h hm hr hb).2⟩⟩,
    fun s d hs h => lockoutEnds hs h, fun s f r rest effect h hf hk => ?_,
    fun s f rest epoch image r hq hp hl hb hm hr hn => ?_⟩
  · rw [State.exec_crankSettle h, State.settleExpires_other hm,
      ((hs.advanceTo d).setCrank (by simp)).conclude]
    rfl
  · have hsnapshot : f.body.kind ≠ .snapshot := fun hs => by
      rw [hs] at hk
      cases hk
    have hm := mode_of_admits (hf f (by rw [h.head]; exact List.mem_cons_self ..)) hsnapshot
    obtain ⟨e, starts, period, ht, htaken, -⟩ := applicationTimers h hf hk
    obtain ⟨hwithdraws, habandons, hrelocks, hlocks, hstays⟩ := applicationSequencer h hm hk ht
    refine ⟨_, ht, by simpa [Replica.applied] using htaken.replica, fun ⟨hs, n, hb⟩ hi hc => ?_, fun ⟨hs, n, hb⟩ hi hc => ?_,
      fun ha => ⟨hwithdraws ha, habandons ha, hrelocks ha⟩, hlocks, hstays⟩
    · obtain rfl : phaseEffect = effect := by rw [hb] at hk; exact Option.some.inj hk
      exact ownPendingApplies h hm hs hb hi hc ht
    · obtain rfl : phaseEffect = effect := by rw [hb] at hk; exact Option.some.inj hk
      exact ownCrankApplies h hm hs hb hi hc ht
  · exact ⟨_, State.exec_snapshot_loads hq hp hl hb (.inr hm) hr, loadSettles (s := s.withRest rest) hn _,
      loadGoes (s := s.withRest rest) hn _⟩

end Sys2Proof.Machine
end
